-- ==== Sys2Proof/Word.lean ====
section
/-! DEFINITION. The words of the TC410 that the manual treats as bits, and their big-endian byte forms' element type. -/

namespace Sys2Proof

/-- A byte of a frame, of the commission record or of a stored record (R181). -/
abbrev Byte := BitVec 8

/-- A station id or reader id: 32 bits (00_scope, R181). -/
abbrev PartyId := BitVec 32

end Sys2Proof
end

