-- ==== Sys2Proof/Syntax.lean ====
section
/-! DEFINITION. The commands of the TC410: one constructor of `Instr` per row of spec/opcode_table.json.
The table gives its rows no fields. An operand is what the part cannot know by itself: what a frame carried, what a
converter, a line or a medium answered, what an interrupted access left, and the draws (notes/assumptions/5.md). -/

namespace Sys2Proof

/-- Which blocks a conclusion's request reaches only after the epoch end of the epoch in progress (R155). -/
structure Overtaken where
  readings : Bool
  view : Bool
  door : Bool
  deriving DecidableEq, Repr, Inhabited

/-- What the carrier, the random draws, the races R115, R155 and R158 leave open and the receive path answer during one
command. -/
structure Env where
  /-- The transceiver's report at the first carrier sense of the command (R39). -/
  busy : Bool
  /-- Its report at a second sense, made when the first one discarded the head frame (R40). -/
  busyNext : Bool
  /-- The backoff drawn, less one: 1 to 16 slots (R40). -/
  backoff : Fin 16
  /-- The delay drawn for a DISCOVER reply, in slots of 8 ms (R46). -/
  discovery : Fin 64
  /-- The draw of the note delay; the model takes it modulo 2 L + 1 (R41). -/
  noteDelay : Nat
  /-- When a fragment's reads and the append head both want the array, the reads come first (R115). -/
  readFirst : Bool
  /-- When a conclusion makes its requests in a fourth quarter, the blocks that take the epoch end first (R11, R67, R81,
  R155; notes/assumptions/36.md). -/
  overtaken : Overtaken
  /-- The frame this command takes was in reception before a transmission ended, or before the restart report (R34, R48;
  notes/assumptions/30.md). -/
  clipped : Bool
  /-- When a verdict mark and a program of a conclusion are both due, the conclusion's comes first (R158). -/
  conclusionFirst : Bool
  deriving DecidableEq, Repr, Inhabited

/-- The outcome of one conversion, as the converter found it (R4, R5). -/
inductive Conversion where
  | probe (raw : Int)
  | probeOpen
  | probeShort
  | air (raw : Int)
  | airFault
  deriving DecidableEq, Repr

/-- What an interrupted or failed access left of one slot (R105, R123). -/
inductive SlotLeft where
  /-- A program: the slot as programmed. An erase: the slot as it was. -/
  | asIs
  | unreadable
  | void
  | erased
  deriving DecidableEq, Repr, Inhabited

/-- What an erase left of the allocation fields; fields that no longer pass still show numbers (R109, R123). -/
inductive FieldLeft where
  | asIs
  | broken (shown : List Nat)
  | gone
  deriving DecidableEq, Repr, Inhabited

/-- What an erase left of a segment; slots past the end of the list are erased (R123). -/
structure EraseLeft where
  alloc : FieldLeft
  /-- The commit mark still reads as it did. -/
  commit : Bool
  /-- Bits programmed in bytes 17 to 63 of the header still read programmed. -/
  stray : Bool
  slots : List SlotLeft
  deriving DecidableEq, Repr, Inhabited

/-- How much of an interrupted or failed header program had taken effect (R109, R123). -/
inductive Amount where
  | nothing
  /-- An allocation: the numbers that the sequence number, and the sources of a TARGET, then read as. A mark shows none. -/
  | part (shown : List Nat)
  | whole
  deriving DecidableEq, Repr, Inhabited

/-- What the accesses cut off by a stop of the logic, or ended by a checkpoint or a conclusion, leave behind. -/
structure Leftover where
  /-- A header program in progress (allocation or mark). -/
  header : Amount
  /-- An entry program in progress: its slots, in order. -/
  entry : List SlotLeft
  /-- A page program in progress or suspended: its slots, in order. -/
  page : List SlotLeft
  /-- An erase in progress or suspended. -/
  erase : EraseLeft
  /-- A commission-record program in progress: the bits that had not changed yet. -/
  bits : BitVec 32
  deriving DecidableEq, Repr, Inhabited

/-- A mark as it reads back after its program (R106, R185). -/
inductive MarkRead where
  /-- Every bit reads erased. -/
  | clear
  /-- Some bit reads programmed, but the field does not read whole. -/
  | part
  | whole
  deriving DecidableEq, Repr

/-- The request's sender, and whether its destination was the broadcast address (R31, R165). -/
structure Request where
  reader : PartyId
  broadcast : Bool
  deriving DecidableEq, Repr

/-- The commands, in the table's order; each names its row. -/
inductive Instr where
  /-- QUARTER_END (R17) -/
  | quarterEnd (env : Env)
  /-- COUNTDOWN_STEP (R20) -/
  | countdownStep (env : Env)
  /-- STALL_EXPIRY (R23) -/
  | stallExpiry (left : Leftover)
  /-- CONVERSION_COMPLETE (R4) -/
  | conversionComplete (outcome : Conversion) (env : Env)
  /-- BROWNOUT (R24) -/
  | brownout (left : Leftover)
  /-- RETENTION_LOSS (R16) -/
  | retentionLoss (left : Leftover)
  /-- RESTART (R25); `light` is the level of the light line at the start (R82) -/
  | restart (light : Bool) (env : Env)
  /-- SCAN_ERASE_END (R125) -/
  | scanEraseEnd (left : EraseLeft) (env : Env)
  /-- RESTART_RESTORATION (R102) -/
  | restartRestoration (env : Env)
  /-- ORDINARY_CLOSE (R98) -/
  | ordinaryClose (env : Env)
  /-- PARTIAL_CLOSE (R101) -/
  | partialClose (env : Env)
  /-- LATE_REFUSAL (R100) -/
  | lateRefusal (env : Env)
  /-- VERDICT_MARK_PROGRAMMED (R95); `miss` has the bits that failed to change -/
  | verdictMarkProgrammed (miss : Byte) (env : Env)
  /-- NOTE_DELAY_EXPIRY (R41) -/
  | noteDelayExpiry (env : Env)
  /-- BACKOFF_END (R39) -/
  | backoffEnd (env : Env)
  /-- TRANSMISSION_END (R39) -/
  | transmissionEnd (env : Env)
  /-- DISCOVERY_DELAY_EXPIRY (R46) -/
  | discoveryDelayExpiry (env : Env)
  /-- UNSOUND_FRAME (R33): the bytes as delivered -/
  | unsoundFrame (bytes : List Byte)
  /-- REPLY_FRAME (R35) -/
  | replyFrame (sender destination : PartyId) (payload : List Byte)
  /-- CHILL_NOTE (R51): the signal level as the transceiver reported it -/
  | chillNote (sender : PartyId) (level : Int) (payload : List Byte) (env : Env)
  /-- LIGHT_EVENT (R73): the level the line now has -/
  | lightEvent (light : Bool) (env : Env)
  /-- UNKNOWN_REQUEST (R165); `code` is absent when the frame carries no payload byte -/
  | unknownRequest (req : Request) (code : Option Byte) (fields : List Byte) (env : Env)
  /-- DISCOVER (R167) -/
  | discover (req : Request) (fields : List Byte) (env : Env)
  /-- COMMISSION (R168) -/
  | commission (req : Request) (fields : List Byte) (env : Env)
  /-- COMMISSION_BYTE_PROGRAMMED (R169); `miss` has the bits that failed to change -/
  | commissionByteProgrammed (miss : Byte) (env : Env)
  /-- QUERY_STATUS (R172) -/
  | queryStatus (req : Request) (fields : List Byte) (env : Env)
  /-- QUERY_PEERS (R71) -/
  | queryPeers (req : Request) (fields : List Byte) (env : Env)
  /-- READ (R173) -/
  | read (req : Request) (fields : List Byte) (env : Env)
  /-- READ_ON (R179) -/
  | readOn (req : Request) (fields : List Byte) (env : Env)
  /-- FRAGMENT_COMPOSED (R180) -/
  | fragmentComposed (env : Env)
  /-- CHECKPOINT (R149); `left` is what a discarded page program leaves (R143) -/
  | checkpoint (req : Request) (fields : List Byte) (left : Leftover) (env : Env)
  /-- PROTECTION_MARK_PROGRAMMED (R151) -/
  | protectionMarkProgrammed (mark : MarkRead) (env : Env)
  /-- CONCLUDE (R154); `left` is what a stopped page program or erase leaves (R144) -/
  | conclude (req : Request) (fields : List Byte) (left : Leftover) (env : Env)
  /-- CONCLUSION_FINAL_FIGURES (R157) -/
  | conclusionFinalFigures (env : Env)
  /-- CONCLUSION_MARK_PROGRAMMED (R158); `miss` has the bits that failed to change -/
  | conclusionMarkProgrammed (miss : Byte) (env : Env)
  /-- FINAL_FIGURE_PROGRAMMED (R158); `miss` has the bits of the field that failed to change -/
  | finalFigureProgrammed (miss : BitVec 32) (env : Env)
  /-- LOCK_MARK_PROGRAMMED (R160) -/
  | lockMarkProgrammed (set : Bool) (env : Env)
  /-- ENTRY_PROGRAM_END (R117): whether the slots match, and whether the VOID programs take if they do not -/
  | entryProgramEnd (ok void1 void2 : Bool) (env : Env)
  /-- ALLOCATION_PROGRAM_END (R109) -/
  | allocationProgramEnd (result : Amount) (env : Env)
  /-- PAGE_READ_END (R134): in the copy, `composed` says that the page can now be composed -/
  | pageReadEnd (composed : Bool) (env : Env)
  /-- PAGE_PROGRAM_END (R137): whether the page matches, and its slots if it does not -/
  | pageProgramEnd (ok : Bool) (slots : List SlotLeft) (env : Env)
  /-- COMMIT_MARK_PROGRAMMED (R138) -/
  | commitMarkProgrammed (set : Bool) (env : Env)
  /-- SOURCE_ERASE_END (R139) -/
  | sourceEraseEnd (left : EraseLeft) (env : Env)
  /-- CLEANUP_ERASE_END (R145) -/
  | cleanupEraseEnd (left : EraseLeft) (env : Env)
  /-- DISCARDED_NOTE (R36) -/
  | discardedNote (sender : PartyId) (level : Int) (payload : List Byte)
  /-- REQUEST_FOR_ANOTHER_STATION (R35) -/
  | requestForAnotherStation (sender destination : PartyId) (payload : List Byte)
  deriving DecidableEq, Repr

end Sys2Proof
end

