-- ==== Sys2Proof/Machine/Types.lean ====
section
/-! DEFINITION. The data each block of the TC410 holds, as the chapters name it. -/

namespace Sys2Proof.Machine

/-! ### Temperature channels (chapter 01) -/

/-- Why a conversion is not fit for use (R1). -/
inductive ConvCause where
  | opened | shorted | refFault
  deriving DecidableEq, Repr

/-- The state of a quarter slot (R1). -/
inductive QuarterSlot where
  | pending
  | converting
  | valid (value : Int) (clamped : Bool)
  | invalid (cause : ConvCause)
  | lost
  deriving DecidableEq, Repr

/-- The four quarter slots of one channel (R1). -/
structure Quad where
  q1 : QuarterSlot
  q2 : QuarterSlot
  q3 : QuarterSlot
  q4 : QuarterSlot
  deriving DecidableEq, Repr

/-- R7 -/
inductive ProbeCondition where
  | unknown | connected | opened | shorted
  deriving DecidableEq, Repr

/-- What the temperature channels hold (R1, R2, R7, R10). -/
structure Tch where
  probe : Quad
  air : Quad
  probeOffset : Int
  airOffset : Int
  condition : ProbeCondition
  /-- Conversions are still taken: NO once a conclusion has asked for partial readings (R10). -/
  taking : Bool
  /-- A request for partial readings waits for conversions to complete (R10, R11). -/
  partialWaiting : Bool
  deriving DecidableEq, Repr

/-- A usable channel's epoch reading (R8). -/
structure Reading where
  value : Int
  clamped : Bool
  deriving DecidableEq, Repr

/-- The epoch readings handed to the evidence engine; an unusable channel is absent (R9). -/
structure EpochReadings where
  quarters : Nat
  probe : Option Reading
  air : Option Reading
  deriving DecidableEq, Repr

/-! ### Timebase (chapter 02) -/

/-- R15 -/
inductive Schedule where
  | idle | listening | running | stopped
  deriving DecidableEq, Repr, Inhabited

/-- R15; the position in minute is in steps of 250 ms -/
inductive Countdown where
  | idle
  | counting (minutes position : Nat)
  | expired
  | halted
  deriving DecidableEq, Repr, Inhabited

/-- R15 -/
inductive PendingCause where
  | none | brownout | stall
  deriving DecidableEq, Repr, Inhabited

/-- R15, R25 -/
inductive RestartCause where
  | firstPower | brownout | stall | retentionLost
  deriving DecidableEq, Repr

/-- The items of domain RET but for the retention flag (R15). -/
structure Retention where
  schedule : Schedule
  epoch : Nat
  quarter : Nat
  position : Nat
  countdown : Countdown
  restarts : Nat
  cause : PendingCause
  /-- The countdown reached zero while the logic was stopped, and no start-up has reported it yet (R16, R27). -/
  expiredStopped : Bool
  /-- The first epoch of the trip that no activation gap covers (R156; notes/assumptions/11.md). -/
  firstEpoch : Nat
  deriving DecidableEq, Repr, Inhabited

/-- The items of domain LOGIC (R15); a running stall timer counts steps of 250 ms (R23). -/
structure Tmb where
  stall : Option Nat
  lastCause : RestartCause
  deriving DecidableEq, Repr

/-- Whether the main logic runs (R16, R24, R27). -/
inductive Logic where
  /-- Start-up has delivered its restart report. -/
  | running
  /-- Between the start of the logic and the restart report. -/
  | startUp
  | stopped
  deriving DecidableEq, Repr

/-! ### Verdicts, station states, door flags -/

/-- INTACT < STRAINED < UNPROVEN < BROKEN (00_scope). -/
inductive Verdict where
  | intact | strained | unproven | broken
  deriving DecidableEq, Repr

/-- 00_scope, R83 -/
inductive Station where
  | blank | dormant | active | concluded
  deriving DecidableEq, Repr

/-- R36, R76 -/
inductive DoorFlag where
  | closed | light | relayed
  deriving DecidableEq, Repr

/-- R89 -/
inductive Grade where
  | probe | air | peer | none
  deriving DecidableEq, Repr

/-! ### Journal entries (R112, R113, R97, R103, R66, R79) -/

/-- The flags of an EPOCH entry (R97). -/
structure EpochFlags where
  above : Bool
  below : Bool
  ceiling : Bool
  floor : Bool
  door : Bool
  overrun : Bool
  discord : Bool
  suspect : Bool
  clamped : Bool
  partialEpoch : Bool
  deriving DecidableEq, Repr

/-- R97 -/
structure EpochEntry where
  epoch : Nat
  value : Option Int
  grade : Grade
  peers : Nat
  flags : EpochFlags
  probe : Option Int
  air : Option Int
  contribution : Nat
  draw : Nat
  exposure : Nat
  drawn : Nat
  run : Nat
  leg : Nat
  verdict : Verdict
  deriving DecidableEq, Repr

/-- R113, R132 -/
structure RunEntry where
  first : Nat
  count : Nat
  minimum : Int
  maximum : Int
  exposure : Nat
  drawn : Nat
  leg : Nat
  verdict : Verdict
  deriving DecidableEq, Repr

/-- The cause a GAP entry carries (R103, R104). -/
inductive GapCause where
  | brownout | stall | retentionLost
  deriving DecidableEq, Repr

/-- R103, R104; an unknown count is absent -/
structure GapEntry where
  first : Nat
  count : Option Nat
  cause : GapCause
  run : Nat
  verdict : Verdict
  deriving DecidableEq, Repr

/-- R66 -/
structure LegEntry where
  leg : Nat
  start : Nat
  founders : List PartyId
  deriving DecidableEq, Repr

/-- R72 -/
inductive Origin where
  | own | heard
  deriving DecidableEq, Repr

/-- R79 -/
structure DoorEntry where
  start : Nat
  stop : Nat
  origin : Origin
  overrun : Bool
  drawn : Nat
  /-- CONCLUSION (R81); NORMAL when clear (R78). -/
  conclusion : Bool
  stamp : Nat
  deriving DecidableEq, Repr

/-- R113, R152 -/
structure CheckpointEntry where
  number : Nat
  epoch : Nat
  reader : PartyId
  verdict : Verdict
  exposure : Nat
  deriving DecidableEq, Repr

/-- The final figures (R157). -/
structure FinalFigures where
  epoch : Option Nat
  verdict : Verdict
  exposure : Nat
  drawn : Nat
  restarts : Nat
  deriving DecidableEq, Repr

/-- R113, R159 -/
structure ConcludeEntry where
  figures : FinalFigures
  reader : PartyId
  tag : List Byte
  stamp : Nat
  deriving DecidableEq, Repr

/-- An entry of the journal (R112). A VOID slot is a condition of a slot, not an entry. -/
inductive Entry where
  | epoch (e : EpochEntry)
  | run (e : RunEntry)
  | gap (e : GapEntry)
  | leg (e : LegEntry)
  | door (e : DoorEntry)
  | checkpoint (e : CheckpointEntry)
  | conclude (e : ConcludeEntry)
  deriving DecidableEq, Repr

/-! ### Segments (R105, R106) -/

/-- What one slot holds. A two-slot entry is a `first` and the `cont` after it (R105, R184). -/
inductive Slot where
  | erased
  | one (e : Entry)
  | first (e : Entry)
  | cont (e : Entry)
  | void
  | unreadable
  deriving DecidableEq, Repr

/-- The allocation fields of a header; a TARGET has its two sources (R106). -/
structure AllocFields where
  seq : Nat
  span : Nat
  sources : Option (Nat × Nat)
  deriving DecidableEq, Repr

/-- The allocation fields as they read. -/
inductive AllocRead where
  | erased
  /-- Not erased, and not matching their check: the numbers that the sequence number, and the sources of a TARGET, read as
  (R109). -/
  | failing (shown : List Nat)
  | fields (f : AllocFields)
  deriving DecidableEq, Repr

/-- The protection mark as it reads; it has a number only when it reads whole (R106). -/
inductive Protection where
  | clear
  | part
  | whole (number : Nat)
  deriving DecidableEq, Repr

/-- A segment header (R106, R185). -/
structure Header where
  alloc : AllocRead
  commit : Bool
  protection : Protection
  lock : Bool
  /-- Bits programmed in bytes 17 to 63 (R185). -/
  stray : Bool
  deriving DecidableEq, Repr

/-- A segment: its header, and its slots from slot 1 on. Slots past the list are erased, and the list does not end in
an erased slot (notes/assumptions/6.md). -/
structure Segment where
  header : Header
  slots : List Slot
  deriving DecidableEq, Repr

/-- The state of a segment in the segment table (R108). -/
inductive SegStatus where
  | blank | opened | full | targetPending | retiring | erasing
  | outOfService
  /-- An INVALID segment that the scan of a concluded part leaves as it is (R125; notes/assumptions/14.md). -/
  | invalidKept
  deriving DecidableEq, Repr

/-! ### Journal store (chapters 07, 08) -/

/-- R119 -/
inductive StoreCondition where
  | normal | short | journalFull
  deriving DecidableEq, Repr

/-- R129 -/
inductive Phase where
  | none | planning | allocate | copy | commit | erase1 | erase2
  deriving DecidableEq, Repr

/-- Why a segment is being allocated (R111, R136). -/
inductive AllocWhy where
  | rollover | activation | commissioning | startUp | target
  deriving DecidableEq, Repr

/-- The array access in progress (R105). -/
inductive Access where
  | none
  | entry (seg slot : Nat)
  | alloc (why : AllocWhy) (seg : Nat) (fields : AllocFields)
  | pageRead
  | pageProgram
  | commitMark
  | protectMark (seg : Nat)
  | lockMark (seg : Nat)
  | sourceErase (seg : Nat)
  | cleanupErase (seg : Nat)
  | scanErase (seg : Nat)
  deriving DecidableEq, Repr

/-- The suspended step (R129). -/
inductive Suspended where
  | page
  | sourceErase (seg : Nat)
  | cleanupErase (seg : Nat)
  deriving DecidableEq, Repr

/-- The consolidation state (R129), with the point a planning pass or a copy has reached (R134, R137). -/
structure Job where
  phase : Phase
  /-- Segment index and sequence number. -/
  first : Option (Nat × Nat)
  second : Option (Nat × Nat)
  planned : Option Nat
  target : Option (Nat × Nat)
  pages : Nat
  stopped : Bool
  suspended : Option Suspended
  cleanup : Option Nat
  /-- Planning: the place in the live map of the pair being considered. -/
  walkAt : Nat
  /-- Planning: how many page reads of that pair have ended, 0 to 31. -/
  pagesRead : Nat
  /-- Planning: a pair is being read. -/
  reading : Bool
  /-- Copy: the next page has been composed. -/
  composed : Bool
  /-- Commit: the first program of the mark read clear (R138). -/
  commitRetry : Bool
  deriving DecidableEq, Repr

/-- The journal store's state in the main logic (R108, R109, R114, R119, R129). -/
structure Jst where
  status : List SegStatus
  nextSeq : Nat
  queue : List Entry
  /-- The head has failed verification once (R117). -/
  secondTry : Bool
  condition : StoreCondition
  frozen : Bool
  access : Access
  /-- An OPEN segment is to be allocated before anything else (R111, R126). -/
  wantOpen : Option AllocWhy
  /-- Segments the start-up scan has still to erase (R125). -/
  scan : List Nat
  job : Job
  deriving DecidableEq, Repr

/-! ### Channel controller (chapter 03) -/

/-- A note as it is composed or received (R36, R43); `air` is the AIR byte b. -/
structure Note where
  cls : Nat
  air : Option Int
  fit : Bool
  door : DoorFlag
  verdict : Verdict
  leg : Nat
  deriving DecidableEq, Repr

/-- R42 -/
structure NoteContent where
  epoch : Nat
  air : Option Int
  fit : Bool
  deriving DecidableEq, Repr

/-- R41; the delay remaining is in steps of 250 ms -/
inductive NoteSchedule where
  | none
  | waiting (epoch remaining : Nat) (arrived : Bool)
  | due (epoch : Nat)
  deriving DecidableEq, Repr

/-- The state a reply reports (R166, R181). -/
inductive ReportedState where
  | blank | blankSpoilt | dormant | active | concluded
  deriving DecidableEq, Repr

/-- The status codes of replies (R183). -/
inductive Status where
  | ok | format | busy | state | terms | range | cursor | limit | store | mismatch
  deriving DecidableEq, Repr

/-- The job phase QUERY STATUS reports (R146). -/
inductive ReportedPhase where
  | idle | planning | allocate | copy | commit | erase1 | erase2 | cleanup | stopped
  deriving DecidableEq, Repr

/-- A peer record's state (R49). -/
inductive PeerState where
  | heard | coLocated | lapsing
  deriving DecidableEq, Repr

/-- A peer's reading in sixteenths, and whether its byte was saturated (R36). -/
structure PeerReading where
  value : Int
  saturated : Bool
  deriving DecidableEq, Repr

/-- A peer record (R49); the history's newest mark stands first. -/
structure Peer where
  id : PartyId
  state : PeerState
  history : List Bool
  heard : Bool
  level : Int
  fit : Bool
  door : DoorFlag
  fresh : Option PeerReading
  verdict : Verdict
  leg : Nat
  deriving DecidableEq, Repr

/-- The DISCOVER reply (R167). -/
structure DiscoverReply where
  id : PartyId
  cls : Option Nat
  state : ReportedState
  verdict : Verdict
  deriving DecidableEq, Repr

/-- The QUERY STATUS reply (R172); the final figures are bytes 50 to 62 as stored (R185). -/
structure StatusReply where
  id : PartyId
  state : ReportedState
  verdict : Verdict
  exposure : Nat
  drawn : Nat
  epoch : Option Nat
  run : Nat
  leg : Option Nat
  coLocated : Nat
  suspect : Bool
  probe : ProbeCondition
  journalFull : Bool
  blanks : Nat
  phase : ReportedPhase
  suspended : Bool
  cause : RestartCause
  restarts : Nat
  figures : Option (List Byte)
  deriving DecidableEq, Repr

/-- The QUERY PEERS reply (R71); records most recently heard first. -/
structure PeersReply where
  leg : Option Nat
  turnover : Option Nat
  founders : List PartyId
  records : List Peer
  deriving DecidableEq, Repr

/-- The fragment status line (R177, R183). -/
structure StatusLine where
  state : ReportedState
  verdict : Verdict
  entries : Nat
  more : Bool
  cursorEpoch : Nat
  deriving DecidableEq, Repr

/-- A reply's content; the request code is echoed in a status reply (R183). -/
inductive Reply where
  /-- A reply whose status is not OK. -/
  | status (code : Byte) (status : Status)
  | discover (r : DiscoverReply)
  | commission (state : ReportedState) (adjusted : List (Nat × Int))
  | queryStatus (r : StatusReply)
  | queryPeers (r : PeersReply)
  /-- READ, or READ-ON when `on` is set; each entry with its RESTATED indication. -/
  | fragment (on : Bool) (line : StatusLine) (entries : List (Entry × Bool))
  | checkpoint (number epoch : Nat) (verdict : Verdict) (exposure : Nat) (recorded : Bool) (newly failed : Nat)
  | conclude (figures : FinalFigures) (recorded : Bool) (locked failed : Nat)
  deriving DecidableEq, Repr

/-- A frame the station sends (R31). -/
inductive Frame where
  | note (n : Note)
  | reply (reader : PartyId) (r : Reply)
  deriving DecidableEq, Repr

/-- The transmitter state (R39). -/
inductive Transmitter where
  | idle
  /-- Passed through within a command (notes/assumptions/21.md). -/
  | sensing
  | backoff (slots : Nat)
  | onAir (f : Frame)
  deriving DecidableEq, Repr

/-- A DISCOVER reply in the discovery hold, with its delay in slots of 8 ms (R46). -/
structure HeldReply where
  reader : PartyId
  reply : DiscoverReply
  slots : Nat
  deriving DecidableEq, Repr

/-- What the channel controller holds (R37, R39, R41, R42, R46). -/
structure Chc where
  queue : List Frame
  /-- The head's busy count (R37). -/
  busy : Nat
  transmitter : Transmitter
  schedule : NoteSchedule
  content : Option NoteContent
  hold : Option HeldReply
  deriving DecidableEq, Repr

/-! ### Peer table (chapter 04) -/

/-- A proposed turnover and the start epoch of its LEG entry (R50, R64). -/
structure Turnover where
  leg : Nat
  start : Nat
  founders : List PartyId
  deriving DecidableEq, Repr

/-- R49, R50; the records stand in recency order, least recently heard first -/
structure Ptb where
  peers : List Peer
  leg : Option Nat
  founders : List PartyId
  turnover : Option Turnover
  /-- A conclusion has taken the close view (R67). -/
  viewTaken : Bool
  deriving DecidableEq, Repr

/-- One item of a corroborating set (R59). -/
structure Item where
  id : PartyId
  value : Int
  saturated : Bool
  deriving DecidableEq, Repr

/-- R59 -/
structure CloseView where
  epoch : Nat
  leg : Option Nat
  items : List Item
  deriving DecidableEq, Repr

/-! ### Door monitor (chapter 05) -/

/-- An episode record (R72). -/
structure Episode where
  start : Nat
  origin : Origin
  age : Nat
  ownMark : Bool
  heardMark : Bool
  relay : Bool
  quiet : Nat
  overrun : Bool
  drawn : Nat
  stop : Option Nat
  deriving DecidableEq, Repr

/-- R72; the latch is set when LIGHT -/
structure Dmn where
  latch : Bool
  episode : Option Episode
  closing : Option Episode
  taking : Bool
  deriving DecidableEq, Repr

/-- R77 -/
structure DoorView where
  epoch : Nat
  inEpisode : Bool
  overrun : Bool
  deriving DecidableEq, Repr

/-! ### Restart report and journal facts (R27, R127) -/

/-- R27 -/
inductive Finding where
  | none
  | count (epochs : Nat)
  | unknown
  deriving DecidableEq, Repr

/-- What the restoration takes from the restart report (R27, R102). -/
structure Report where
  station : Station
  cause : RestartCause
  finding : Finding
  deriving DecidableEq, Repr

/-- The facts of the start-up scan (R127). -/
structure Facts where
  entryPresent : Bool
  /-- P; absent stands for −1. -/
  lastCovered : Option Nat
  lastCoverage : Option Entry
  /-- Cumulative exposure and drawn of the last EPOCH or RUN entry. -/
  lastAccount : Option (Nat × Nat)
  lastLeg : Option LegEntry
  gaps : Nat
  checkpoint : Nat
  deriving DecidableEq, Repr

/-! ### Evidence engine (chapter 06) -/

/-- The inputs of an epoch not yet closed (R83, R85). -/
structure CloseInputs where
  epoch : Nat
  readings : Option EpochReadings
  view : Option CloseView
  door : Option DoorView
  deriving DecidableEq, Repr

/-- The three inputs of one close, joined (R85). -/
structure Joined where
  epoch : Nat
  readings : EpochReadings
  view : CloseView
  door : DoorView
  deriving DecidableEq, Repr

/-- A piece of work (R86). -/
inductive Piece where
  | ordinary (j : Joined)
  | partialClose (j : Joined)
  | restoration (r : Report) (f : Facts)
  | lateRefusal
  deriving DecidableEq, Repr

/-- What a close still has to do after its entry (R98, R101). -/
structure CloseEnd where
  epoch : Nat
  quarters : Nat
  inEpisode : Bool
  draw : Nat
  air : Option Int
  fit : Bool
  deriving DecidableEq, Repr

/-- Where a piece goes on once its verdict marks are set (R95). -/
inductive Continuation where
  /-- Compose and offer the EPOCH entry, all but its verdict being known (R97). -/
  | offerEpoch (e : EpochEntry) (rest : CloseEnd)
  | endClose (rest : CloseEnd)
  /-- Offer this GAP entry, all but its verdict being known, then go on with the others (R103). -/
  | offerGap (g : GapEntry) (rest : List GapEntry)
  | gaps (rest : List GapEntry)
  | done
  deriving DecidableEq, Repr

/-- The piece under way while the commission record programs its marks (R86, R95). -/
structure Waiting where
  target : Verdict
  /-- The marks to set, in ascending order; the first is being programmed. -/
  marks : List Verdict
  next : Continuation
  deriving DecidableEq, Repr

/-- R83 -/
structure Eve where
  station : Station
  exposure : Nat
  drawn : Nat
  run : Nat
  verdict : Verdict
  committedExposure : Nat
  committedDrawn : Nat
  lastVerdict : Verdict
  suspect : Bool
  discord : Nat
  concord : Nat
  inputs : List CloseInputs
  work : List Piece
  current : Option Waiting
  /-- The epoch the next set of readings belongs to (R85). -/
  readingsEpoch : Nat
  deriving DecidableEq, Repr

/-! ### Commission record (R185) -/

/-- A byte memory in canonical form: addresses strictly rising, no listed byte erased. -/
abbrev Memory := List Host.Cell

/-- The commission record's program in progress (R165). -/
inductive CrProgram where
  | none
  | verdictMark (v : Verdict)
  | commissionByte (address : Nat) (value : Byte)
  | conclusionMark
  /-- A final-figure field: its number, its first address and its bytes. -/
  | figure (i address : Nat) (bytes : List Byte)
  deriving DecidableEq, Repr

/-- R185 -/
structure Cmr where
  identity : Memory
  consignment : Memory
  program : CrProgram
  deriving DecidableEq, Repr

/-! ### Request service (chapters 09, 10) -/

/-- R174 -/
inductive Position where
  | unanchored
  | anchored (epoch carry : Nat)
  deriving DecidableEq, Repr

/-- R174 -/
structure Cursor where
  owner : PartyId
  start : Nat
  stride : Nat
  window : Option Nat
  position : Position
  deriving DecidableEq, Repr

/-- The step a checkpoint has reached (R150). -/
inductive CheckpointStep where
  /-- Waiting for a header program of the job to end (R143). -/
  | dealing
  /-- Programming protection marks: segments tried, and whether this is the second program of one (R151). -/
  | marking (tried : List Nat) (again : Bool) (newly failed : Nat)
  /-- Step 4 has begun: the entry waits for the byte program in progress in the commission record to end (R150, R165). -/
  | composing (newly failed : Nat)
  /-- Waiting for the entry's fate (R152). -/
  | entry (verdict : Verdict) (exposure newly failed : Nat)
  deriving DecidableEq, Repr

/-- The step a conclusion has reached (R155 to R161). -/
inductive ConcludeStep where
  /-- Waiting for the step of consolidation work in flight to end, a page read or a header program (R140, R155). -/
  | stopping
  /-- Waiting for the concluding figures (R156), with the requests that blocks take after the epoch end (R155). -/
  | closing (late : Overtaken)
  /-- Waiting for the work list and the coverage entries (R157). -/
  | draining (finalEpoch : Option Nat)
  /-- The final figures, one of which the commission record shows, wait for the byte program in progress to end (R157,
  R165). -/
  | composing (finalEpoch : Option Nat)
  | mark (f : FinalFigures)
  /-- Programming the figures: the number of the next one, 5 when all have been programmed (R158). -/
  | figure (f : FinalFigures) (next : Nat)
  | entry (f : FinalFigures)
  | locking (f : FinalFigures) (recorded : Bool) (tried : List Nat) (again : Bool) (locked failed : Nat)
  deriving DecidableEq, Repr

/-- What a fragment answers: a READ, with the station state RQS tested when it took it (R166, R173), or a READ-ON (R179). -/
inductive Asked where
  | read (station : Station)
  | readOn
  deriving DecidableEq, Repr

/-- The request in service (R164). -/
inductive Service where
  /-- Bytes still to be programmed, the first being programmed; whether this is its second program (R169). -/
  | commission (reader : PartyId) (todo : List (Nat × Byte)) (again : Bool) (adjusted : List (Nat × Int))
  /-- Commissioning with start delay 0 waits for the OPEN segment (R170). -/
  | opening (reader : PartyId) (adjusted : List (Nat × Int))
  /-- A fragment: its cursor, what it answers, where the walk began once it has (R175), and how many entries the journal
  held when the walk's last read was made, where that came before a waiting append (R115, R180). -/
  | fragment (cursor : Cursor) (asked : Asked) (start seen : Option Nat)
  /-- A fragment whose walk is over, its last read made when the journal held `seen` entries: the status line waits for the
  byte program in progress in the commission record to end (R165). -/
  | statusLine (cursor : Cursor) (asked : Asked) (start seen : Nat)
  | checkpoint (reader : PartyId) (number epoch : Nat) (step : CheckpointStep)
  | conclude (reader : PartyId) (tag : List Byte) (step : ConcludeStep)
  deriving DecidableEq, Repr

/-- R164; `discovers` are the DISCOVER senders that wait for a byte program to end (R167) -/
structure Rqs where
  service : Option Service
  spoilt : Bool
  checkpoints : Nat
  cursor : Option Cursor
  discovers : List PartyId
  deriving DecidableEq, Repr

end Sys2Proof.Machine
end

