-- ==== Sys2Proof/Config.lean ====
section
/-! DEFINITION. The constants the manual fixes for the part, and the free values it leaves open. A free value has no body:
nothing can be proved of it, so a claim holds whatever it is. -/

namespace Sys2Proof.Config

/-- The last epoch a station can number (R19). -/
def maxEpoch : Nat := 16777215

/-- The bound at which exposure saturates (R93). -/
def maxExposure : Nat := 4294967295

/-- The bound at which the unevidenced run saturates; also the largest known GAP count (R93, R103). -/
def maxRun : Nat := 65535

/-- Segments of the journal store, and slots of one segment (R105). -/
def segments : Nat := 32
def slotsPerSegment : Nat := 126

/-- The highest sequence number (R106). -/
def maxSeq : Nat := 65535

/-- Entries the append queue holds (R114); frames the transmit queue holds (R37); peer records (R49). -/
def appendRoom : Nat := 6
def transmitRoom : Nat := 4
def peerRoom : Nat := 12

/-- The stall period in DORMANT: 2 minutes in steps of 250 ms (R23). -/
def dormantStall : Nat := 480

/-- What a lost retention domain's items hold, "meaningless" until a start-up initialises them (R16;
notes/assumptions/8.md). -/
opaque lostRetention : Nat → Machine.Retention

/-- The draws and the carrier of a command that the passage of time brings about (notes/assumptions/3.md). -/
opaque tickEnv : Nat → Env

/-- What a stop of the logic that the passage of time brings about leaves behind (notes/assumptions/3.md). -/
opaque tickLeft : Nat → Leftover

/-- The code echoed in the reply to a request that carries no code byte (R183 gives none; notes/assumptions/26.md). -/
opaque missingCodeEcho : Byte

end Sys2Proof.Config
end

