-- ==== Sys2Proof/Machine/State.lean ====
section
/-! DEFINITION. The state of the TC410, the reasons a step can stop, and the state after reset. -/

namespace Sys2Proof.Machine

/-- Why the part stops for good. The manual names no such event, so there is no reason to give: every error of the part is a
state it goes on from (INVENTORY.md, Faults). Safe: a fault cannot occur. -/
inductive Fault where
  deriving DecidableEq, Repr

/-- Why a command has no meaning. -/
inductive Refusal where
  /-- Raised by exec alone, for a row that has no meaning yet; no arm raises it. Safe: the machine stops. -/
  | notModelled (mnemonic : String)
  deriving DecidableEq, Repr

/-- Everything the manual gives the part (INVENTORY.md, State), and the queue of commands that wait. -/
structure State where
  /-- Whether the main logic runs (R16, R24, R27). -/
  logic : Logic
  /-- The retention domain, and its flag: VALID when set (R15). -/
  ret : Retention
  retValid : Bool
  tmb : Tmb
  tch : Tch
  chc : Chc
  ptb : Ptb
  dmn : Dmn
  eve : Eve
  /-- The journal array (R105); non-volatile. -/
  store : List Segment
  jst : Jst
  cmr : Cmr
  rqs : Rqs
  /-- The model's own: picks the next free value (notes/assumptions/3.md, 8.md). -/
  free : Nat
  /-- The commands that wait, first in, first out. -/
  pending : List Instr
  deriving DecidableEq, Repr

/-- Eight PENDING slots (R1). -/
def Quad.pending : Quad := ⟨.pending, .pending, .pending, .pending⟩

/-- The retention domain as start-up initialises it (R27, FIRST POWER). -/
def Retention.initial : Retention where
  schedule := .idle
  epoch := 0
  quarter := 1
  position := 0
  countdown := .idle
  restarts := 0
  cause := .none
  expiredStopped := false
  firstEpoch := 0

/-- The channel controller after a restart (R48). -/
def Chc.initial : Chc where
  queue := []
  busy := 0
  transmitter := .idle
  schedule := .none
  content := none
  hold := none

/-- The peer table after a restart, before its leg is restored (R70). -/
def Ptb.initial : Ptb where
  peers := []
  leg := none
  founders := []
  turnover := none
  viewTaken := false

/-- The door monitor after a restart, with the level of the line (R82). -/
def Dmn.initial (light : Bool) : Dmn where
  latch := light
  episode := none
  closing := none
  taking := true

/-- The evidence engine's initial values (R84), in a station state. -/
def Eve.initial (station : Station) (readingsEpoch : Nat) : Eve where
  station := station
  exposure := 0
  drawn := 0
  run := 0
  verdict := .intact
  committedExposure := 0
  committedDrawn := 0
  lastVerdict := .intact
  suspect := false
  discord := 0
  concord := 0
  inputs := []
  work := []
  current := none
  readingsEpoch := readingsEpoch

/-- The consolidation state after every restart (R129). -/
def Job.initial : Job where
  phase := .none
  first := none
  second := none
  planned := none
  target := none
  pages := 0
  stopped := false
  suspended := none
  cleanup := none
  walkAt := 0
  pagesRead := 0
  reading := false
  composed := false
  commitRetry := false

/-- An erased header and an erased segment (R105). -/
def Header.erased : Header where
  alloc := .erased
  commit := false
  protection := .clear
  lock := false
  stray := false

def Segment.erased : Segment := ⟨.erased, []⟩

/-- The journal store over an erased array (R126, R129). -/
def Jst.initial : Jst where
  status := List.replicate Config.segments .blank
  nextSeq := 1
  queue := []
  secondTry := false
  condition := .normal
  frozen := false
  access := .none
  wantOpen := none
  scan := []
  job := .initial

/-- The request service after a restart (R164). -/
def Rqs.initial : Rqs where
  service := none
  spoilt := false
  checkpoints := 0
  cursor := none
  discovers := []

/-- The identity part State.reset is given: station id 1, silicon revision 0, offsets erased (DESIGN CHOICE, unsafe;
notes/assumptions/2.md). -/
def factoryIdentity : Memory := [(0, 0), (1, 0), (2, 0), (3, 1), (4, 0)]

/-- The part as FIRST POWER leaves it (R25, R27), with no journal and an erased consignment part
(notes/assumptions/1.md, 2.md). -/
def State.reset : State where
  logic := .running
  ret := .initial
  retValid := true
  tmb := ⟨none, .firstPower⟩
  tch := ⟨.pending, .pending, 0, 0, .unknown, true, false⟩
  chc := .initial
  ptb := .initial
  dmn := .initial false
  eve := .initial .blank 0
  store := List.replicate Config.segments .erased
  jst := .initial
  cmr := ⟨factoryIdentity, [], .none⟩
  rqs := .initial
  free := 0
  pending := []

/-! Whole-block updates; Laws/State.lean says what each leaves. -/

def State.setLogic (s : State) (x : Logic) : State := { s with logic := x }
def State.setRet (s : State) (x : Retention) : State := { s with ret := x }
def State.setRetValid (s : State) (x : Bool) : State := { s with retValid := x }
def State.setTmb (s : State) (x : Tmb) : State := { s with tmb := x }
def State.setTch (s : State) (x : Tch) : State := { s with tch := x }
def State.setChc (s : State) (x : Chc) : State := { s with chc := x }
def State.setPtb (s : State) (x : Ptb) : State := { s with ptb := x }
def State.setDmn (s : State) (x : Dmn) : State := { s with dmn := x }
def State.setEve (s : State) (x : Eve) : State := { s with eve := x }
def State.setStore (s : State) (x : List Segment) : State := { s with store := x }
def State.setJst (s : State) (x : Jst) : State := { s with jst := x }
def State.setCmr (s : State) (x : Cmr) : State := { s with cmr := x }
def State.setRqs (s : State) (x : Rqs) : State := { s with rqs := x }
def State.setFree (s : State) (x : Nat) : State := { s with free := x }
def State.setPending (s : State) (x : List Instr) : State := { s with pending := x }

end Sys2Proof.Machine
end

