-- ==== Sys2Proof/Machine/Ops.lean ====
section
/-! DEFINITION. Shared operations: byte order, byte memory, the commission record's terms and marks, the verdict order. -/

namespace Sys2Proof.Machine

/-! ### Numbers and bytes (R181: most significant byte first) -/

/-- The number big-endian bytes hold. -/
def beNat (bs : List Byte) : Nat := bs.foldl (fun n b => n * 256 + b.toNat) 0

/-- The lowest `w` bytes of a number, most significant first. -/
def beBytes : Nat → Nat → List Byte
  | 0, _ => []
  | w + 1, n => beBytes w (n / 256) ++ [BitVec.ofNat 8 n]

/-- Two's complement over `bits` bits (R181). -/
def signedOf (bits n : Nat) : Int := if n < 2 ^ (bits - 1) then n else (n : Int) - (2 ^ bits : Nat)

/-- A signed number in `w` bytes (R181). -/
def beSigned (w : Nat) (x : Int) : List Byte := beBytes w (x % (256 ^ w : Nat)).toNat

/-- Quotient rounded up, toward warm (00_scope, Rounding). -/
def ceilDiv (a : Int) (n : Nat) : Int := -((-a) / (n : Int))

/-- Brings a value into a range (R6, R33, R168). -/
def clampInt (lo hi x : Int) : Int := if x < lo then lo else if hi < x then hi else x

/-- Adds, saturating at a bound (00_scope, Saturation). -/
def satAdd (bound a b : Nat) : Nat := min bound (a + b)

/-! ### Byte memory: canonical form, erased bytes unlisted (R105, R181) -/

/-- What an unlisted byte reads as: erased. -/
def erasedByte : Byte := 0xFF

def Memory.read (m : Memory) (a : Nat) : Byte :=
  match m.find? (fun c => c.1 == a) with
  | some c => c.2
  | none => erasedByte

/-- The cells before and after an address keep their order; an erased byte is not listed. -/
def Memory.write : Memory → Nat → Byte → Memory
  | [], a, v => if v = erasedByte then [] else [(a, v)]
  | (b, w) :: rest, a, v =>
    if a < b then (if v = erasedByte then (b, w) :: rest else (a, v) :: (b, w) :: rest)
    else if a = b then (if v = erasedByte then rest else (a, v) :: rest)
    else (b, w) :: Memory.write rest a v

/-- Every listed address is above `bound`, addresses rise, and no listed byte is erased. -/
def Memory.wfFrom : Nat → Memory → Bool
  | _, [] => true
  | bound, (a, v) :: rest => decide (bound ≤ a) && v != erasedByte && Memory.wfFrom (a + 1) rest

/-- The canonical form. -/
def Memory.wf (m : Memory) : Bool := Memory.wfFrom 0 m

/-- A program of one byte: bits go from one to zero, but for those in `miss` (R105, R181). -/
def Memory.program (m : Memory) (a : Nat) (v miss : Byte) : Memory :=
  m.write a (m.read a &&& (v ||| miss))

/-- A program of consecutive bytes, with the bits each missed. -/
def Memory.programBytes : Memory → Nat → List Byte → List Byte → Memory
  | m, _, [], _ => m
  | m, a, v :: vs, miss =>
    Memory.programBytes (m.program a v (miss.headD 0)) (a + 1) vs miss.tail

/-- `n` bytes from address `a` on. -/
def Memory.readBytes (m : Memory) (a n : Nat) : List Byte :=
  (List.range n).map fun i => m.read (a + i)

/-! ### The commission record (R185) -/

def Cmr.byte (c : Cmr) (a : Nat) : Byte := Memory.read c.consignment a
def Cmr.number (c : Cmr) (a n : Nat) : Nat := beNat (Memory.readBytes c.consignment a n)

def Cmr.stationId (c : Cmr) : PartyId := BitVec.ofNat 32 (beNat (Memory.readBytes c.identity 0 4))

/-- A calibration offset: its byte, whose inverse stands next; erased or out of range is 0 (R2, R185). -/
def Cmr.offsetAt (c : Cmr) (a : Nat) : Int :=
  let b := Memory.read c.identity a
  let x := signedOf 8 b.toNat
  if Memory.read c.identity (a + 1) = ~~~b ∧ -32 ≤ x ∧ x ≤ 31 then x else 0

/-- The PROBE offset stands in byte 5, the AIR offset in byte 7 (R185). -/
def Cmr.probeOffset (c : Cmr) : Int := c.offsetAt 5
def Cmr.airOffset (c : Cmr) : Int := c.offsetAt 7

def Cmr.cls (c : Cmr) : Nat := c.number 0 1
def Cmr.upper (c : Cmr) : Int := signedOf 16 (c.number 1 2)
def Cmr.lower (c : Cmr) : Int := signedOf 16 (c.number 3 2)
def Cmr.ceiling (c : Cmr) : Int := signedOf 16 (c.number 5 2)
def Cmr.floor (c : Cmr) : Int := signedOf 16 (c.number 7 2)
def Cmr.budget (c : Cmr) : Nat := c.number 9 3
def Cmr.allowance (c : Cmr) : Nat := c.number 12 2
def Cmr.gapAllowance (c : Cmr) : Nat := c.number 14 1
def Cmr.epochLength (c : Cmr) : Nat := c.number 15 2
def Cmr.startDelay (c : Cmr) : Nat := c.number 17 2
def Cmr.linkThreshold (c : Cmr) : Int := signedOf 8 (c.number 19 1)
def Cmr.reference (c : Cmr) : List Byte := Memory.readBytes c.consignment 21 (c.number 20 1)

/-- k = L / 15 (R83). -/
def Cmr.scale (c : Cmr) : Nat := c.epochLength / 15

/-- A one-byte mark is set when any of its bits reads 0 (R181). -/
def Cmr.markSet (c : Cmr) (a : Nat) : Bool := c.byte a != erasedByte

def commitAddress : Nat := 45
def conclusionAddress : Nat := 49
def doneAddress : Nat := 62

/-- The commit byte is programmed (R25, R169). -/
def Cmr.commissioned (c : Cmr) : Bool := c.markSet commitAddress

/-- The conclusion mark is set (R158). -/
def Cmr.concluded (c : Cmr) : Bool := c.markSet conclusionAddress

/-- Some byte reads programmed and the commit byte reads erased (R171). -/
def Cmr.spoilt (c : Cmr) : Bool :=
  !c.commissioned && (Memory.readBytes c.consignment 0 64).any (· != erasedByte)

/-! Final figures (R158, R185): five fields, each whole when its bit of the figures-done byte reads 0. -/

def Cmr.figureWhole (c : Cmr) (i : Nat) : Bool := !(c.byte doneAddress).getLsbD i

/-- Address and width of a final-figure field. -/
def figureAddress : Nat → Nat
  | 0 => 50 | 1 => 54 | 2 => 55 | 3 => 59 | _ => 61
def figureWidth : Nat → Nat
  | 0 => 4 | 1 => 1 | 2 => 4 | 3 => 2 | _ => 1

/-! ### Verdicts -/

def Verdict.rank : Verdict → Nat
  | .intact => 0 | .strained => 1 | .unproven => 2 | .broken => 3

/-- The higher of two verdicts (00_scope, Verdict order). -/
def Verdict.higher (a b : Verdict) : Verdict := if a.rank < b.rank then b else a

/-- The verdict a code stands for (R181). -/
def Verdict.ofCode : Nat → Verdict
  | 0 => .intact | 1 => .strained | 2 => .unproven | _ => .broken

/-- The address of a level's mark (R185); INTACT has none. -/
def verdictMarkAddress : Verdict → Nat
  | .intact => 46 | .strained => 46 | .unproven => 47 | .broken => 48

/-- The level of the highest verdict mark set (R96). -/
def Cmr.highestMark (c : Cmr) : Verdict :=
  if c.markSet 48 then .broken else if c.markSet 47 then .unproven
  else if c.markSet 46 then .strained else .intact

/-- The committed verdict (R96). -/
def committedVerdict (s : State) : Verdict := s.eve.lastVerdict.higher s.cmr.highestMark

/-- The bytes of each final-figure field (R185). An absent final epoch programs its tag alone
(notes/assumptions/22.md). -/
def FinalFigures.bytes (f : FinalFigures) : Nat → List Byte
  | 0 => match f.epoch with
    | some e => 0x00 :: beBytes 3 e
    | none => [0x55]
  | 1 => beBytes 1 f.verdict.rank
  | 2 => beBytes 4 f.exposure
  | 3 => beBytes 2 f.drawn
  | _ => beBytes 1 f.restarts

/-! ### What is reported of the state (R166, R171) -/

def reportedState (s : State) : ReportedState :=
  match s.eve.station with
  | .blank => if s.rqs.spoilt then .blankSpoilt else .blank
  | .dormant => .dormant
  | .active => .active
  | .concluded => .concluded

/-! ### Gating -/

/-- The main logic runs, start-up being over. -/
def running (s : State) : Bool := s.logic == .running

/-- The receive path delivers a frame: the logic runs, start-up has reported, and nothing is on air (R34, R48). -/
def receiving (s : State) : Bool :=
  running s && (match s.chc.transmitter with
    | .onAir _ => false
    | _ => true)

/-- A frame that completes now is delivered, unless it was in reception before a transmission or a restart report that is
over: then it is lost whole (R34, R48). -/
def delivered (env : Env) (s : State) : Bool := receiving s && !env.clipped

/-- A conclusion is in service (R154). -/
def concluding (s : State) : Bool :=
  match s.rqs.service with
  | some (.conclude _ _ _) => true
  | _ => false

/-- A sound sender is neither 0 nor all-ones (R33). -/
def soundSender (i : PartyId) : Bool := i != 0 && i != BitVec.allOnes 32

/-- The outcome of a command that the part always survives. -/
def done (s : State) : Host.Outcome State Fault Refusal := .next s

/-! ### Ordered insertion -/

/-- Inserts before the first element that must come after it. -/
def insertBy {α : Type} (before : α → α → Bool) (x : α) : List α → List α
  | [] => [x]
  | y :: ys => if before x y then x :: y :: ys else y :: insertBy before x ys

def sortBy {α : Type} (before : α → α → Bool) (xs : List α) : List α := xs.foldr (insertBy before) []

end Sys2Proof.Machine
end

