-- ==== Sys2Proof/Machine/Flags.lean ====
section
/-! DEFINITION. The computations of an epoch close (R8, R87 to R94, R101): readings, median, discord, grade, excess, draw,
exposure, run, verdict candidate and the flags of the EPOCH entry. -/

namespace Sys2Proof.Machine

/-! ### Conversions and epoch readings (R6, R8) -/

/-- A raw result lies in the converter's span (R6). -/
def spanned (raw : Int) : Int := clampInt (-800) 1120 raw

/-- Calibrates and clamps a conversion found valid (R6). -/
def calibrate (offset raw : Int) : QuarterSlot :=
  let sum := spanned raw + offset
  .valid (clampInt (-640) 960 sum) (decide (sum < -640 ∨ 960 < sum))

def Quad.slots (q : Quad) : List QuarterSlot := [q.q1, q.q2, q.q3, q.q4]

/-- The values and clamped flags of the VALID slots (R8). -/
def Quad.valids (q : Quad) : List (Int × Bool) :=
  q.slots.filterMap fun
    | .valid v c => some (v, c)
    | _ => none

/-- The epoch reading of a channel; absent when fewer than two slots are VALID (R8). -/
def Quad.reading (q : Quad) : Option Reading :=
  let vs := q.valids
  if 2 ≤ vs.length then
    some ⟨ceilDiv ((vs.map Prod.fst).foldl (· + ·) 0) vs.length, vs.any Prod.snd⟩
  else none

/-- A slot whose quarter is completed (R1). -/
def QuarterSlot.completed : QuarterSlot → Bool
  | .valid _ _ => true
  | .invalid _ => true
  | .lost => true
  | .pending => false
  | .converting => false

/-- Quarters completed q, by the PROBE slots (R1). -/
def Tch.quarters (t : Tch) : Nat := (t.probe.slots.filter QuarterSlot.completed).length

/-- The epoch readings of the conversion set (R8, R9, R10). -/
def Tch.readings (t : Tch) : EpochReadings := ⟨t.quarters, t.probe.reading, t.air.reading⟩

/-! ### Corroboration (R87, R88) -/

/-- The peer median and whether it is saturated (R87). -/
def median (items : List Item) : Option (Int × Bool) :=
  let n := items.length
  if n < 2 then none
  else if n % 2 = 1 then (items[n / 2]?).map fun i => (i.value, i.saturated)
  else match items[n / 2 - 1]?, items[n / 2]? with
    | some a, some b => some (ceilDiv (a.value + b.value) 2, a.saturated || b.saturated)
    | _, _ => none

/-- The comparison of a close: none made, or whether it is a discord (R88). -/
def comparison (air : Option Reading) (items : List Item) : Option Bool :=
  match air, median items with
  | some r, some m => some (decide (48 < (r.value - m.1).natAbs))
  | _, _ => none

/-- The AIR condition and its counts after a comparison: suspect, discord count, concord count (R88). -/
def airAfter (suspect : Bool) (discord concord : Nat) : Option Bool → Bool × Nat × Nat
  | none => (suspect, discord, concord)
  | some true =>
    if suspect then (true, discord, 0)
    else if 3 ≤ discord + 1 then (true, 0, 0) else (false, discord + 1, concord)
  | some false =>
    if suspect then (if 6 ≤ concord + 1 then (false, 0, 0) else (true, discord, concord + 1))
    else (false, 0, concord)

/-! ### Evidence, excess, draw (R89 to R92) -/

/-- The evidence of an epoch: grade, value, and the CLAMPED flag (R89, R90). -/
structure Evidence where
  grade : Grade
  value : Option Int
  clamped : Bool
  deriving DecidableEq, Repr

def evidence (r : EpochReadings) (suspect : Bool) (items : List Item) : Evidence :=
  match r.probe with
  | some p => ⟨.probe, some p.value, p.clamped⟩
  | none =>
    match (if suspect then none else r.air) with
    | some a => ⟨.air, some a.value, a.clamped⟩
    | none =>
      match median items with
      | some m => ⟨.peer, some m.1, m.2⟩
      | none => ⟨.none, none, false⟩

/-- e_up and e_dn (R91). -/
def excessUp (upper : Int) : Option Int → Nat
  | some v => (v - upper).toNat
  | none => 0
def excessDown (lower : Int) : Option Int → Nat
  | some v => (lower - v).toNat
  | none => 0

/-- The raw contribution: e k, or e k q / 4 rounded up in a partial close (R91, R101). -/
def rawContribution (excess scale quarters : Nat) : Nat :=
  if quarters < 4 then (ceilDiv ((excess * scale * quarters : Nat) : Int) 4).toNat else excess * scale

/-- The draw on the door allowance (R92). -/
def doorDraw (view : DoorView) (raw allowance drawn : Nat) : Nat :=
  if view.inEpisode && !view.overrun then min raw (allowance - drawn) else 0

/-- The unevidenced run after a close (R93). -/
def runAfter (grade : Grade) (run : Nat) : Nat :=
  if grade = .none then satAdd Config.maxRun run 1 else 0

/-! ### Verdict (R94) -/

def reachesCeiling (ceiling : Int) : Option Int → Bool
  | some v => decide (ceiling ≤ v)
  | none => false
def reachesFloor (floor : Int) : Option Int → Bool
  | some v => decide (v ≤ floor)
  | none => false

/-- The verdict candidate (R94). -/
def candidate (ceilingReached floorReached : Bool) (exposure budget run gap : Nat) : Verdict :=
  if ceilingReached then .broken
  else if floorReached then .broken
  else if budget < exposure then .broken
  else if gap < run then .unproven
  else if 0 < exposure then .strained
  else .intact

/-! ### Chill-note byte (R44) -/

/-- The AIR byte b of a reading in sixteenths. -/
def airByte (r : Int) : Int := clampInt (-128) 127 ((r + 2) / 4)

end Sys2Proof.Machine
end

