-- ==== Sys2Proof/Machine/Journal.lean ====
section
/-! DEFINITION. What segments and entries read as (R105 to R113), the merged output of consolidation (R130 to R132), the
walk of a fragment (R175 to R178), and the scan's readings and facts (R107, R124, R127). Nothing here changes a state. -/

namespace Sys2Proof.Machine

/-! ### Entries (R112) -/

/-- Slots an entry takes. -/
def Entry.size : Entry → Nat
  | .leg e => if 4 < e.founders.length then 2 else 1
  | .conclude _ => 2
  | .epoch _ => 1
  | .run _ => 1
  | .gap _ => 1
  | .door _ => 1
  | .checkpoint _ => 1

/-- The stamp epoch. -/
def Entry.stamp : Entry → Nat
  | .epoch e => e.epoch
  | .run e => e.first
  | .gap e => e.first
  | .leg e => e.start
  | .door e => e.stamp
  | .checkpoint e => e.epoch
  | .conclude e => e.stamp

/-- The first and last covered epoch of a coverage entry; absent for the other kinds. -/
def Entry.coverage : Entry → Option (Nat × Nat)
  | .epoch e => some (e.epoch, e.epoch)
  | .run e => some (e.first, e.first + e.count - 1)
  | .gap e => some (e.first, match e.count with
    | some n => e.first + n - 1
    | none => e.first)
  | .leg _ => none
  | .door _ => none
  | .checkpoint _ => none
  | .conclude _ => none

def Entry.covers (e : Entry) : Bool := e.coverage.isSome

/-- The slots an entry programs (R112). -/
def Entry.slots (e : Entry) : List Slot := if e.size = 2 then [.first e, .cont e] else [.one e]

/-! ### Slots of a segment (R105) -/

def Slot.isErased : Slot → Bool
  | .erased => true
  | .one _ => false
  | .first _ => false
  | .cont _ => false
  | .void => false
  | .unreadable => false

/-- Drops the erased slots at the end: the canonical form of a slot list. -/
def trimSlots (ss : List Slot) : List Slot := (ss.reverse.dropWhile Slot.isErased).reverse

/-- The first slot after the last one that is not erased (R108). -/
def Segment.fill (g : Segment) : Nat := g.slots.length + 1

/-- Puts slots at slot number `at1`, over what is there. -/
def Segment.put (g : Segment) (at1 : Nat) (new : List Slot) : Segment :=
  { g with slots := trimSlots (g.slots.take (at1 - 1) ++ List.replicate (at1 - 1 - g.slots.length) .erased ++
      new ++ g.slots.drop (at1 - 1 + new.length)) }

/-- The entries of a segment in slot order. Skipped and erased slots are passed over; a two-slot entry counts only when
its continuation stands directly after it (R105, R110, R184). -/
def entriesOf : List Slot → List Entry
  | [] => []
  | .one e :: rest => e :: entriesOf rest
  | .first e :: .cont e' :: rest =>
    if e = e' then e :: entriesOf rest else entriesOf (.cont e' :: rest)
  | .first _ :: rest => entriesOf rest
  | .cont _ :: rest => entriesOf rest
  | .erased :: rest => entriesOf rest
  | .void :: rest => entriesOf rest
  | .unreadable :: rest => entriesOf rest

/-- What an interrupted or failed program leaves of the slots it was to program (R117, R123). -/
def leftSlots : List Slot → List SlotLeft → List Slot
  | [], _ => []
  | s :: ss, left =>
    (match left.headD .erased with
      | .asIs => s
      | .unreadable => .unreadable
      | .void => .void
      | .erased => .erased) :: leftSlots ss left.tail

/-! ### Headers (R106, R107) -/

/-- The allocation fields pass: their check, their range and their sources (R106). -/
def AllocFields.pass (f : AllocFields) : Bool :=
  decide (1 ≤ f.seq ∧ f.seq ≤ Config.maxSeq) &&
    match f.sources with
    | none => true
    | some (a, b) => a != b && a != f.seq && b != f.seq

/-- A segment's reading (R107). -/
inductive SegReading where
  | blank
  | invalid
  | journal (f : AllocFields)
  | pendingTarget (f : AllocFields)
  | committedTarget (f : AllocFields)
  deriving DecidableEq, Repr

def Header.marked (h : Header) : Bool := h.protection != .clear || h.lock

/-- The rows of R107's table in order; stray header bits read INVALID (R185). -/
def Segment.reading (g : Segment) : SegReading :=
  if g = Segment.erased then .blank
  else if g.header.stray then .invalid
  else match g.header.alloc with
    | .erased => .invalid
    | .failing _ => .invalid
    | .fields f =>
      if !f.pass then .invalid
      else match f.sources with
        | none => if g.header.commit then .invalid else .journal f
        | some _ =>
          if g.header.commit then .committedTarget f
          else if g.header.marked then .invalid else .pendingTarget f

/-- The allocation fields of a header that holds some. -/
def Segment.fields (g : Segment) : Option AllocFields :=
  match g.header.alloc with
  | .fields f => some f
  | .failing _ => none
  | .erased => none

def Segment.span (g : Segment) : Nat := (g.fields.map AllocFields.span).getD 0

/-- The own number and, of a TARGET, the sources. -/
def AllocFields.numbers (f : AllocFields) : List Nat :=
  match f.sources with
  | some (a, b) => [f.seq, a, b]
  | none => [f.seq]

/-- The numbers that allocation fields show, passing or not; the own one comes first. -/
def AllocRead.numbers : AllocRead → List Nat
  | .erased => []
  | .failing shown => shown
  | .fields f => f.numbers

/-- What an erase leaves (R105, R123): bits only turn back to one, so a number still shown has every bit it had. -/
def Segment.erasedTo (g : Segment) (left : EraseLeft) : Segment where
  header :=
    { g.header with
      alloc := match left.alloc, g.header.alloc with
        | .asIs, a => a
        | .broken _, .erased => .erased
        | .broken shown, a => .failing (a.numbers.zipWith (· ||| ·) shown)
        | .gone, _ => .erased
      commit := g.header.commit && left.commit
      stray := g.header.stray && left.stray }
  slots := trimSlots ((leftSlots g.slots left.slots).zipWith
    (fun new old => if old.isErased then .erased else new) g.slots)

/-! ### Quiet entries and the merged output (R130 to R132) -/

def EpochFlags.anySet (f : EpochFlags) : Bool :=
  f.above || f.below || f.ceiling || f.floor || f.door || f.overrun || f.discord || f.suspect || f.clamped ||
    f.partialEpoch

/-- A quiet entry, as the run it could begin or join (R130, R132); loud entries are absent. -/
def Entry.quietRun : Entry → Option RunEntry
  | .epoch e =>
    if e.grade = .probe ∧ e.flags.anySet = false ∧ e.contribution = 0 ∧ e.draw = 0 ∧ e.run = 0 then
      some ⟨e.epoch, 1, e.value.getD 0, e.value.getD 0, e.exposure, e.drawn, e.leg, e.verdict⟩
    else none
  | .run r => some r
  | .gap _ => none
  | .leg _ => none
  | .door _ => none
  | .checkpoint _ => none
  | .conclude _ => none

/-- A quiet entry joins the run being formed (R131). -/
def RunEntry.joins (run r : RunEntry) : Bool :=
  decide (r.first = run.first + run.count ∧ r.leg = run.leg ∧ r.verdict = run.verdict ∧
    r.exposure = run.exposure ∧ r.drawn = run.drawn ∧ run.count + r.count ≤ Config.maxRun)

/-- R132 -/
def RunEntry.join (run r : RunEntry) : RunEntry :=
  { run with
    count := run.count + r.count
    minimum := min run.minimum r.minimum
    maximum := max run.maximum r.maximum }

/-- A run that ends: one RUN entry, or the single quiet entry it came from (R131). -/
def endRun : Option (RunEntry × Entry) → List Entry
  | none => []
  | some (run, single) => if 2 ≤ run.count then [.run run] else [single]

/-- The merged output, the run being formed first (R131). -/
def mergeFrom : Option (RunEntry × Entry) → List Entry → List Entry
  | acc, [] => endRun acc
  | acc, e :: rest =>
    match e.quietRun with
    | none => endRun acc ++ e :: mergeFrom none rest
    | some r =>
      match acc with
      | some (run, single) =>
        if run.joins r then mergeFrom (some (run.join r, single)) rest
        else endRun acc ++ mergeFrom (some (r, e)) rest
      | none => mergeFrom (some (r, e)) rest

/-- The merged output of two sources, as slots from slot 1 on (R131). -/
def mergedSlots (a b : Segment) : List Slot :=
  (mergeFrom none (entriesOf a.slots ++ entriesOf b.slots)).flatMap Entry.slots

/-- Pages a planned output takes (R137). -/
def pagesFor (planned : Nat) : Nat := (planned + 7) / 8

/-! ### The walk of a fragment (R175 to R178) -/

/-- The place after the last coverage entry that ends below an epoch; the beginning when there is none. -/
def afterCoverageBelow (epoch : Nat) : Nat → Nat → List Entry → Nat
  | _, best, [] => best
  | i, best, e :: rest =>
    afterCoverageBelow epoch (i + 1)
      (match e.coverage with
        | some (_, last) => if last < epoch then i + 1 else best
        | none => best) rest

/-- The place of the first non-coverage entry stamped at `epoch` or later. -/
def firstStamped (epoch : Nat) : Nat → List Entry → Option Nat
  | _, [] => none
  | i, e :: rest => if e.covers = false ∧ epoch ≤ e.stamp then some i else firstStamped epoch (i + 1) rest

/-- Passes over `k` non-coverage entries, stopping at the next coverage entry (R175). -/
def passCarry : Nat → List Entry → Nat
  | 0, _ => 0
  | _, [] => 0
  | k + 1, e :: rest => if e.covers then 0 else passCarry k rest + 1

/-- Where a fragment's walk begins (R175). -/
def walkStart (journal : List Entry) (c : Cursor) : Nat :=
  match c.position with
  | .unanchored =>
    let after := afterCoverageBelow c.start 0 0 journal
    match firstStamped c.start 0 journal with
    | some i => min after i
    | none => after
  | .anchored epoch carry =>
    let after := afterCoverageBelow epoch 0 0 journal
    after + passCarry carry (journal.drop after)

/-- The journal a fragment's walk sees: all of it, or what stood when its last read was made (R115, R180). -/
def walked (seen : Option Nat) (journal : List Entry) : List Entry :=
  match seen with
  | some n => journal.take n
  | none => journal

/-- An entry is included in the fragment (R176). -/
def Cursor.includes (c : Cursor) (e : Entry) : Bool :=
  (match e.coverage with
    | some (_, last) => decide (c.start ≤ last)
    | none => true) &&
  (match e with
    | .epoch x => (x.epoch - c.start) % c.stride == 0
    | .run _ => true
    | .gap _ => true
    | .leg _ => true
    | .door _ => true
    | .checkpoint _ => true
    | .conclude _ => true) &&
  (match c.window with
    | some w => decide (e.stamp ≤ w)
    | none => true)

/-- The included entries with their places, within the slots left, and what the walk did not pass (R176). -/
def takeFragment (inc : Entry → Bool) : Nat → Nat → List Entry → List (Nat × Entry) × List Entry
  | _, _, [] => ([], [])
  | room, i, e :: rest =>
    if inc e then
      if e.size ≤ room then
        let r := takeFragment inc (room - e.size) (i + 1) rest
        ((i, e) :: r.1, r.2)
      else ([], e :: rest)
    else takeFragment inc room (i + 1) rest

/-- The cursor epoch of a position (R177, R178). -/
def Cursor.epoch (c : Cursor) : Nat :=
  match c.position with
  | .unanchored => c.start
  | .anchored e _ => max c.start e

/-- The ANCHORED position after the last entry of a stretch of the journal (R177). -/
def anchorAfter (stretch : List Entry) : Position :=
  let p := stretch.foldl (fun (p : Nat × Nat) e =>
    match e.coverage with
    | some (_, last) => (last + 1, 0)
    | none => (p.1, p.2 + 1)) (0, 0)
  .anchored p.1 p.2

/-- An included entry is RESTATED (R178). -/
def restated (cursorEpoch : Nat) (e : Entry) : Bool :=
  match e.coverage with
  | some (first, _) => decide (first < cursorEpoch)
  | none => false

/-- A composed fragment: its entries, whether more follow, and the position after it (R176, R177). -/
structure Fragment where
  entries : List (Entry × Bool)
  more : Bool
  position : Position
  deriving DecidableEq, Repr

def composeFragment (journal : List Entry) (c : Cursor) (start : Nat) : Fragment :=
  let r := takeFragment c.includes 6 start (journal.drop start)
  { entries := r.1.map fun p => (p.2, restated c.epoch p.2)
    more := r.2.any c.includes
    position := match r.1.getLast? with
      | some (i, _) => anchorAfter (journal.take (i + 1))
      | none => c.position }

/-! ### Facts of the scan (R127) -/

/-- The last entry of a list that `f` picks. -/
def lastPick {α : Type} (f : Entry → Option α) (es : List Entry) : Option α :=
  es.foldl (fun acc e => (f e).or acc) none

def Entry.account : Entry → Option (Nat × Nat)
  | .epoch e => some (e.exposure, e.drawn)
  | .run e => some (e.exposure, e.drawn)
  | .gap _ => none
  | .leg _ => none
  | .door _ => none
  | .checkpoint _ => none
  | .conclude _ => none

def Entry.asLeg : Entry → Option LegEntry
  | .leg e => some e
  | .epoch _ => none
  | .run _ => none
  | .gap _ => none
  | .door _ => none
  | .checkpoint _ => none
  | .conclude _ => none

def Entry.asGap : Entry → Option GapEntry
  | .gap e => some e
  | .epoch _ => none
  | .run _ => none
  | .leg _ => none
  | .door _ => none
  | .checkpoint _ => none
  | .conclude _ => none

/-- The GAP count: a full GAP entry that the next one continues is not counted (R127). -/
def countGaps : List GapEntry → Nat
  | [] => 0
  | [_] => 1
  | a :: b :: rest =>
    (if a.count = some Config.maxRun ∧ b.first = a.first + Config.maxRun then 0 else 1) + countGaps (b :: rest)

/-- The last covered epoch of the last coverage entry (R127). -/
def lastCovered (es : List Entry) : Option Nat := (lastPick Entry.coverage es).map Prod.snd

/-- The highest number of a protection mark read whole or of a CHECKPOINT entry (R127). -/
def highestCheckpoint (live : List Segment) (es : List Entry) : Nat :=
  let marks := live.map fun g => match g.header.protection with
    | .whole n => n
    | .part => 0
    | .clear => 0
  let entries := es.map fun
    | .checkpoint e => e.number
    | .epoch _ => 0
    | .run _ => 0
    | .gap _ => 0
    | .leg _ => 0
    | .door _ => 0
    | .conclude _ => 0
  (marks ++ entries).foldl max 0

/-- The facts of a live map, given as its segments in order (R127). -/
def factsOf (live : List Segment) : Facts :=
  let es := live.flatMap fun g => entriesOf g.slots
  { entryPresent := !es.isEmpty
    lastCovered := lastCovered es
    lastCoverage := lastPick (fun e => if e.covers then some e else none) es
    lastAccount := lastPick Entry.account es
    lastLeg := lastPick Entry.asLeg es
    gaps := countGaps (es.filterMap Entry.asGap)
    checkpoint := highestCheckpoint live es }

/-! ### The scan (R109, R124, R125) -/

/-- Sequence numbers that stand as sources of COMMITTED TARGETs (R108, R124). -/
def namedSources (store : List Segment) : List Nat :=
  store.flatMap fun g => match g.reading with
    | .committedTarget f => match f.sources with
      | some (a, b) => [a, b]
      | none => []
    | .journal _ => []
    | .pendingTarget _ => []
    | .blank => []
    | .invalid => []

/-- A number that the two bytes of its field show, when they do not read erased (notes/assumptions/13.md). -/
def shownNumber (n : Nat) : Bool := n != 65535

/-- Every sequence number a header holds, as its own or as a source, whether or not its fields pass (R109). -/
def Header.numbers (h : Header) : List Nat :=
  match h.alloc with
  | .erased => []
  | .failing shown => shown.filter shownNumber
  | .fields f => if f.pass then f.numbers else f.numbers.filter shownNumber

/-- An INVALID segment may be a source that a stopped erase left in part: with bits that only turned back to one, its own
number, or an erased field, can stand where a committed target's source did (R144; notes/assumptions/14.md). -/
def Header.mayBeSource (h : Header) (named : List Nat) : Bool :=
  named.any fun m => m ||| h.alloc.numbers.headD 65535 == h.alloc.numbers.headD 65535

/-- Every sequence number in any header of the store (R109). -/
def seqNumbers (store : List Segment) : List Nat := store.flatMap fun g => g.header.numbers

/-- One above the highest number named anywhere; 1 when none is (R109). -/
def nextSeqOf (store : List Segment) : Nat := (seqNumbers store).foldl max 0 + 1

/-- What the scan makes of one segment: its state, and whether it is to be erased (R124, R125). A source left in part by the
stopped erase of a conclusion stays RETIRING, whatever it reads as (R144). -/
def scanVerdict (commissioned concluded : Bool) (named : List Nat) (g : Segment) : SegStatus × Bool :=
  let leftover (kept : SegStatus) (unerasable : SegStatus) : SegStatus × Bool :=
    if commissioned && concluded then (kept, false)
    else if g.header.marked then (unerasable, false) else (kept, true)
  let candidate (seq : Nat) : SegStatus × Bool :=
    if named.contains seq then leftover .retiring .retiring
    else if commissioned then (.full, false)
    else if g.header.marked then (.outOfService, false) else (.full, true)
  match g.reading with
  | .blank => (.blank, false)
  | .invalid => leftover (if g.header.mayBeSource named then .retiring else .invalidKept) .outOfService
  | .pendingTarget f => leftover (if named.contains f.seq then .retiring else .targetPending) .outOfService
  | .journal f => candidate f.seq
  | .committedTarget f => candidate f.seq

end Sys2Proof.Machine
end

