-- ==== Sys2Proof/Machine/Operands.lean ====
section
/-! DEFINITION. The operand forms: a note's payload and the fields of each request (R36, R182, R183), and the clamps and
refusals of COMMISSION's terms (R168). -/

namespace Sys2Proof.Machine

/-- `n` bytes of a payload from offset `i` on, as a number. -/
def numberAt (fs : List Byte) (i n : Nat) : Nat := beNat ((fs.drop i).take n)

/-! ### Notes (R36, R182) -/

def DoorFlag.ofCode : Nat → Option DoorFlag
  | 0 => some .closed | 1 => some .light | 2 => some .relayed | _ => none

/-- The payload checks of R36; `air` is the byte b as carried. -/
def parseNote (payload : List Byte) : Option Note :=
  let cls := numberAt payload 0 1
  let flags := payload.getD 1 0
  let airPresent := flags.getLsbD 7
  if (payload.length = 3 ∧ airPresent = false ∨ payload.length = 4 ∧ airPresent = true)
      ∧ 1 ≤ cls ∧ cls ≤ 7 ∧ flags.toNat % 4 = 0 then
    match DoorFlag.ofCode (flags.toNat / 16 % 4) with
    | some door => some
        { cls := cls
          air := if airPresent then some (signedOf 8 (numberAt payload 3 1)) else none
          fit := flags.getLsbD 6
          door := door
          verdict := Verdict.ofCode (flags.toNat / 4 % 4)
          leg := numberAt payload 2 1 }
    | none => none
  else none

/-- The peer reading of a note: b times 4, saturated at −128 and 127 (R36). -/
def Note.reading (n : Note) : Option PeerReading :=
  n.air.map fun b => ⟨b * 4, b == -128 || b == 127⟩

/-- The signal level brought into −120 to −20 dBm (R33). -/
def noteLevel (level : Int) : Int := clampInt (-120) (-20) level

/-! ### Requests (R183) -/

def codeDiscover : Byte := 0x10
def codeCommission : Byte := 0x11
def codeQuery : Byte := 0x12
def codeRead : Byte := 0x13
def codeReadOn : Byte := 0x14
def codeCheckpoint : Byte := 0x15
def codeConclude : Byte := 0x16

/-- The codes of R183's table. -/
def knownCode (c : Byte) : Bool := decide (0x10 ≤ c.toNat ∧ c.toNat ≤ 0x16)

/-- The terms of a COMMISSION as the reader sent them, and the reference (R168, R183). -/
structure RawTerms where
  cls : Nat
  upper : Int
  lower : Int
  ceiling : Int
  floor : Int
  budget : Nat
  allowance : Nat
  gap : Nat
  length : Nat
  delay : Nat
  link : Int
  reference : List Byte
  deriving DecidableEq, Repr

/-- R183: length 21 + r; R168: a reference of 0 bytes or more than 24 is FORMAT. -/
def parseCommission (fs : List Byte) : Option RawTerms :=
  let r := numberAt fs 20 1
  if fs.length = 21 + r ∧ 1 ≤ r ∧ r ≤ 24 then
    some
      { cls := numberAt fs 0 1
        upper := signedOf 16 (numberAt fs 1 2)
        lower := signedOf 16 (numberAt fs 3 2)
        ceiling := signedOf 16 (numberAt fs 5 2)
        floor := signedOf 16 (numberAt fs 7 2)
        budget := numberAt fs 9 2
        allowance := numberAt fs 11 2
        gap := numberAt fs 13 2
        length := numberAt fs 15 2
        delay := numberAt fs 17 2
        link := signedOf 8 (numberAt fs 19 1)
        reference := fs.drop 21 }
  else none

/-- An epoch length in its range (R168). -/
def clampLength (l : Nat) : Nat := if l < 15 then 15 else if 600 < l then 600 else l / 15 * 15

/-- Each term brought into its range (R168); the class is left as it is. -/
def RawTerms.clamped (t : RawTerms) : RawTerms :=
  { t with
    upper := clampInt (-640) 960 t.upper
    lower := clampInt (-640) 960 t.lower
    ceiling := clampInt (-640) 960 t.ceiling
    floor := clampInt (-640) 960 t.floor
    budget := min 16383 t.budget
    allowance := min 1023 t.allowance
    gap := min 255 t.gap
    length := clampLength t.length
    delay := min 1440 t.delay
    link := clampInt (-100) (-40) t.link }

/-- The two TERMS checks, on the clamped terms (R168). -/
def RawTerms.acceptable (t : RawTerms) : Bool :=
  decide (1 ≤ t.cls ∧ t.cls ≤ 7 ∧ t.floor ≤ t.lower ∧ t.lower < t.upper ∧ t.upper ≤ t.ceiling)

/-- The adjusted terms: code and value stored, in the order of the codes (R168, R183; notes/assumptions/28.md). -/
def RawTerms.adjusted (t : RawTerms) : List (Nat × Int) :=
  let c := t.clamped
  (if c.upper = t.upper then [] else [(1, c.upper)]) ++
  (if c.lower = t.lower then [] else [(2, c.lower)]) ++
  (if c.ceiling = t.ceiling then [] else [(3, c.ceiling)]) ++
  (if c.floor = t.floor then [] else [(4, c.floor)]) ++
  (if c.budget = t.budget then [] else [(5, ((c.budget * 64 : Nat) : Int))]) ++
  (if c.allowance = t.allowance then [] else [(6, ((c.allowance * 64 : Nat) : Int))]) ++
  (if c.gap = t.gap then [] else [(7, (c.gap : Int))]) ++
  (if c.length = t.length then [] else [(8, (c.length : Int))]) ++
  (if c.delay = t.delay then [] else [(9, (c.delay : Int))]) ++
  (if c.link = t.link then [] else [(10, c.link)])

/-- The bytes of the consignment part before its commit byte, from offset 0 on (R169, R185). -/
def RawTerms.bytes (t : RawTerms) : List Byte :=
  beBytes 1 t.cls ++ beSigned 2 t.upper ++ beSigned 2 t.lower ++ beSigned 2 t.ceiling ++ beSigned 2 t.floor ++
  beBytes 3 (t.budget * 64) ++ beBytes 2 (t.allowance * 64) ++ beBytes 1 t.gap ++ beBytes 2 t.length ++
  beBytes 2 t.delay ++ beSigned 1 t.link ++ beBytes 1 t.reference.length ++ t.reference

/-- The byte programs of a commissioning, the commit byte last (R169). -/
def RawTerms.programs (t : RawTerms) : List (Nat × Byte) :=
  (List.range t.bytes.length).zip t.bytes ++ [(commitAddress, 0x00)]

/-- A CONCLUDE's reference and receipt tag (R154, R183). -/
def parseConclude (fs : List Byte) : Option (List Byte × List Byte) :=
  let r := numberAt fs 0 1
  let t := numberAt fs (1 + r) 1
  if fs.length = 2 + r + t ∧ 1 ≤ r ∧ r ≤ 24 ∧ t ≤ 16 then
    some ((fs.drop 1).take r, fs.drop (2 + r))
  else none

/-- The base of a READ's locator (R173). -/
inductive Base where
  | absolute
  | leg (n : Nat)
  | checkpoint (n : Nat)
  deriving DecidableEq, Repr

/-- R173 -/
structure Locator where
  base : Base
  displacement : Nat
  stride : Nat
  window : Option Nat
  deriving DecidableEq, Repr

def parseBase : Nat → Nat → Option Base
  | 0, n => if n = 0 then some .absolute else none
  | 1, n => some (.leg n)
  | 2, n => if 1 ≤ n ∧ n ≤ 32 then some (.checkpoint n) else none
  | _, _ => none

/-- R173, R183: 6 bytes without a window end, 9 with one. -/
def parseRead (fs : List Byte) : Option Locator :=
  let stride := numberAt fs 5 1
  if (fs.length = 6 ∨ fs.length = 9) ∧ (stride = 1 ∨ stride = 2 ∨ stride = 4 ∨ stride = 8) then
    match parseBase (numberAt fs 0 1) (numberAt fs 1 1) with
    | some base => some
        { base := base
          displacement := numberAt fs 2 3
          stride := stride
          window := if fs.length = 9 then some (numberAt fs 6 3) else none }
    | none => none
  else none

/-- QUERY's option byte (R172, R183). -/
inductive QueryOption where
  | status | peers
  deriving DecidableEq, Repr

def parseQuery (fs : List Byte) : Option QueryOption :=
  if fs = [0x01] then some .status else if fs = [0x02] then some .peers else none

end Sys2Proof.Machine
end

