-- ==== Sys2Proof/Machine/Formats.lean ====
section
/-! DEFINITION. The byte layouts of chapter 11: the check, frames, notes, replies, journal slots and segment headers
(R32, R181 to R185). -/

namespace Sys2Proof.Machine

/-! ### The check (R32) -/

/-- One bit of the register: generator x^16 + x^12 + x^5 + 1. -/
def crcBit (r : BitVec 16) : BitVec 16 := if r.msb then (r <<< 1) ^^^ 0x1021 else r <<< 1

/-- One byte enters, most significant bit first. -/
def crcByte (r : BitVec 16) (b : Byte) : BitVec 16 :=
  crcBit (crcBit (crcBit (crcBit (crcBit (crcBit (crcBit (crcBit (r ^^^ (b.zeroExtend 16 <<< 8)))))))))

/-- The check over some bytes; the register starts at all-ones. -/
def crc (bs : List Byte) : BitVec 16 := bs.foldl crcByte 0xFFFF

def crcBytes (bs : List Byte) : List Byte := beBytes 2 (crc bs).toNat

/-! ### Common codes (R181) -/

def ReportedState.code : ReportedState → Nat
  | .blank => 0 | .blankSpoilt => 1 | .dormant => 2 | .active => 3 | .concluded => 4
def Grade.code : Grade → Nat
  | .probe => 0 | .air => 1 | .peer => 2 | .none => 3
def Grade.ofCode : Nat → Grade
  | 0 => .probe | 1 => .air | 2 => .peer | _ => .none
def DoorFlag.code : DoorFlag → Nat
  | .closed => 0 | .light => 1 | .relayed => 2
def Status.code : Status → Nat
  | .ok => 0 | .format => 1 | .busy => 2 | .state => 3 | .terms => 4 | .range => 5 | .cursor => 6
  | .limit => 7 | .store => 8 | .mismatch => 9
def ReportedPhase.code : ReportedPhase → Nat
  | .idle => 0 | .planning => 1 | .allocate => 2 | .copy => 3 | .commit => 4 | .erase1 => 5 | .erase2 => 6
  | .cleanup => 7 | .stopped => 8
def ProbeCondition.code : ProbeCondition → Nat
  | .unknown => 0 | .connected => 1 | .opened => 2 | .shorted => 3
def RestartCause.code : RestartCause → Nat
  | .firstPower => 0 | .brownout => 1 | .stall => 2 | .retentionLost => 3
def GapCause.code : GapCause → Nat
  | .brownout => 1 | .stall => 2 | .retentionLost => 3
def GapCause.ofCode : Nat → Option GapCause
  | 1 => some .brownout | 2 => some .stall | 3 => some .retentionLost | _ => none
def PeerState.code : PeerState → Nat
  | .heard => 0 | .coLocated => 1 | .lapsing => 2

def flagBit (b : Bool) (i : Nat) : Nat := if b then 2 ^ i else 0

/-- A presence byte and a number, sent as zeros when absent (R183). -/
def presentBytes (w : Nat) : Option Nat → List Byte
  | some n => 0x01 :: beBytes w n
  | none => List.replicate (w + 1) 0x00

def idBytes (i : PartyId) : List Byte := beBytes 4 i.toNat

/-- A temperature in sixteenths; absent is 0x7FFF (R181). -/
def temperatureBytes : Option Int → List Byte
  | some t => beSigned 2 t
  | none => [0x7F, 0xFF]

def temperatureOf (n : Nat) : Option Int := if n = 0x7FFF then none else some (signedOf 16 n)

/-! ### Notes and frames (R182) -/

def Note.payload (n : Note) : List Byte :=
  beBytes 1 n.cls ++
  beBytes 1 (flagBit n.air.isSome 7 + flagBit n.fit 6 + n.door.code * 16 + n.verdict.rank * 4) ++
  beBytes 1 n.leg ++ (match n.air with
    | some b => beSigned 1 b
    | none => [])

/-- A frame: length, kind, sender, destination, payload, check (R31, R182). -/
def wireFrame (kind : Byte) (sender destination : PartyId) (payload : List Byte) : List Byte :=
  let covered := kind :: (idBytes sender ++ idBytes destination ++ payload)
  beBytes 1 payload.length ++ covered ++ crcBytes covered

/-! ### Journal slots (R184) -/

/-- The kind code of an entry's first slot. -/
def Entry.kind : Entry → Byte
  | .epoch _ => 0x11
  | .run _ => 0x12
  | .gap _ => 0x13
  | .leg _ => 0x21
  | .door _ => 0x31
  | .checkpoint _ => 0x41
  | .conclude _ => 0x51

/-- A slot's bytes: kind, fields padded with 0x00 to byte 29, slot check. -/
def slotImage (kind : Byte) (fields : List Byte) : List Byte :=
  let body := (kind :: fields ++ List.replicate (29 - fields.length) 0x00)
  body ++ crcBytes body

def EpochFlags.number (f : EpochFlags) : Nat :=
  flagBit f.above 0 + flagBit f.below 1 + flagBit f.ceiling 2 + flagBit f.floor 3 + flagBit f.door 4 +
  flagBit f.overrun 5 + flagBit f.discord 6 + flagBit f.suspect 7 + flagBit f.clamped 8 + flagBit f.partialEpoch 9

def EpochFlags.ofNumber (n : Nat) : EpochFlags where
  above := n.testBit 0
  below := n.testBit 1
  ceiling := n.testBit 2
  floor := n.testBit 3
  door := n.testBit 4
  overrun := n.testBit 5
  discord := n.testBit 6
  suspect := n.testBit 7
  clamped := n.testBit 8
  partialEpoch := n.testBit 9

/-- Founding ids in `places` places; places beyond the list hold 0. -/
def founderBytes (places : Nat) (ids : List PartyId) : List Byte :=
  (List.range places).flatMap fun i => idBytes (ids.getD i 0)

/-- The fields of an entry's first slot, from byte 1 on. Bits that R184 does not name are 0, and so are the bytes of a
CONCLUDE entry's final epoch when that is absent (DESIGN CHOICE; notes/assumptions/53.md, 61.md). -/
def Entry.fieldBytes : Entry → List Byte
  | .epoch e =>
    beBytes 3 e.epoch ++ beBytes 1 (e.grade.code * 64 + e.peers) ++ beBytes 2 e.flags.number ++
    temperatureBytes e.value ++ temperatureBytes e.probe ++ temperatureBytes e.air ++
    beBytes 2 e.contribution ++ beBytes 2 e.draw ++ beBytes 4 e.exposure ++ beBytes 2 e.drawn ++
    beBytes 2 e.run ++ beBytes 1 e.leg ++ beBytes 1 e.verdict.rank
  | .run e =>
    beBytes 3 e.first ++ beBytes 2 e.count ++ beSigned 2 e.minimum ++ beSigned 2 e.maximum ++
    beBytes 4 e.exposure ++ beBytes 2 e.drawn ++ beBytes 1 e.leg ++ beBytes 1 e.verdict.rank
  | .gap e =>
    beBytes 3 e.first ++ beBytes 2 (e.count.getD 0) ++ beBytes 1 e.cause.code ++ beBytes 2 e.run ++
    beBytes 1 e.verdict.rank
  | .leg e =>
    beBytes 1 e.leg ++ beBytes 3 e.start ++ beBytes 1 e.founders.length ++ founderBytes 4 e.founders
  | .door e =>
    beBytes 3 e.start ++ beBytes 3 e.stop ++
    beBytes 1 (flagBit (e.origin == .heard) 0 + flagBit e.overrun 1 + flagBit e.conclusion 2) ++
    beBytes 2 e.drawn ++ beBytes 3 e.stamp
  | .checkpoint e =>
    beBytes 1 e.number ++ beBytes 3 e.epoch ++ idBytes e.reader ++ beBytes 1 e.verdict.rank ++ beBytes 4 e.exposure
  | .conclude e =>
    presentBytes 3 e.figures.epoch ++ beBytes 1 e.figures.verdict.rank ++ beBytes 4 e.figures.exposure ++
    beBytes 2 e.figures.drawn ++ beBytes 1 e.figures.restarts ++ idBytes e.reader ++
    beBytes 1 e.tag.length ++ beBytes 3 e.stamp

/-- The fields of the continuation slot, with its kind, where the entry has one. -/
def Entry.continuation : Entry → Option (Byte × List Byte)
  | .leg e => if 4 < e.founders.length then some (0x22, founderBytes 4 (e.founders.drop 4)) else none
  | .conclude e => some (0x52, e.tag)
  | .epoch _ => none
  | .run _ => none
  | .gap _ => none
  | .door _ => none
  | .checkpoint _ => none

/-- The stored slot images of an entry, 32 or 64 bytes (R183, R184). -/
def Entry.image (e : Entry) : List Byte :=
  slotImage e.kind e.fieldBytes ++ (match e.continuation with
    | some (k, fs) => slotImage k fs
    | none => [])

/-- What one slot's 32 bytes read as (R105, R184). -/
inductive SlotCondition where
  | erased | void | unreadable
  /-- The check passes and the kind code is in R184's list. -/
  | passes (kind : Byte)
  deriving DecidableEq, Repr

def slotKinds : List Byte := [0x11, 0x12, 0x13, 0x21, 0x22, 0x31, 0x41, 0x51, 0x52]

def slotCondition (bs : List Byte) : SlotCondition :=
  if bs.all (· == erasedByte) then .erased
  else if bs.headD 0 = 0x00 then .void
  else if bs.drop 30 = crcBytes (bs.take 30) ∧ slotKinds.contains (bs.headD 0) then .passes (bs.headD 0)
  else .unreadable

def foundersAt (bs : List Byte) (at1 n : Nat) : List PartyId :=
  (List.range n).map fun i => BitVec.ofNat 32 (numberAt bs (at1 + 4 * i) 4)

/-- The entry whose first slot and, where it has one, continuation slot hold these bytes (R184). -/
def decodeEntry (bs : List Byte) (more : Option (List Byte)) : Option Entry :=
  match slotCondition bs with
  | .passes kind =>
    if kind = 0x11 then
      some (.epoch
        { epoch := numberAt bs 1 3
          grade := Grade.ofCode (numberAt bs 4 1 / 64)
          peers := numberAt bs 4 1 % 16
          flags := EpochFlags.ofNumber (numberAt bs 5 2)
          value := temperatureOf (numberAt bs 7 2)
          probe := temperatureOf (numberAt bs 9 2)
          air := temperatureOf (numberAt bs 11 2)
          contribution := numberAt bs 13 2
          draw := numberAt bs 15 2
          exposure := numberAt bs 17 4
          drawn := numberAt bs 21 2
          run := numberAt bs 23 2
          leg := numberAt bs 25 1
          verdict := Verdict.ofCode (numberAt bs 26 1) })
    else if kind = 0x12 then
      some (.run
        { first := numberAt bs 1 3
          count := numberAt bs 4 2
          minimum := signedOf 16 (numberAt bs 6 2)
          maximum := signedOf 16 (numberAt bs 8 2)
          exposure := numberAt bs 10 4
          drawn := numberAt bs 14 2
          leg := numberAt bs 16 1
          verdict := Verdict.ofCode (numberAt bs 17 1) })
    else if kind = 0x13 then
      (GapCause.ofCode (numberAt bs 6 1)).map fun cause => .gap
        { first := numberAt bs 1 3
          count := if numberAt bs 4 2 = 0 then none else some (numberAt bs 4 2)
          cause := cause
          run := numberAt bs 7 2
          verdict := Verdict.ofCode (numberAt bs 9 1) }
    else if kind = 0x21 then
      let n := numberAt bs 5 1
      if n ≤ 4 then
        some (.leg ⟨numberAt bs 1 1, numberAt bs 2 3, foundersAt bs 6 n⟩)
      else match more with
        | some c =>
          if slotCondition c = .passes 0x22 then
            some (.leg ⟨numberAt bs 1 1, numberAt bs 2 3, foundersAt bs 6 4 ++ foundersAt c 1 (n - 4)⟩)
          else none
        | none => none
    else if kind = 0x31 then
      some (.door
        { start := numberAt bs 1 3
          stop := numberAt bs 4 3
          origin := if (numberAt bs 7 1).testBit 0 then .heard else .own
          overrun := (numberAt bs 7 1).testBit 1
          conclusion := (numberAt bs 7 1).testBit 2
          drawn := numberAt bs 8 2
          stamp := numberAt bs 10 3 })
    else if kind = 0x41 then
      some (.checkpoint
        { number := numberAt bs 1 1
          epoch := numberAt bs 2 3
          reader := BitVec.ofNat 32 (numberAt bs 5 4)
          verdict := Verdict.ofCode (numberAt bs 9 1)
          exposure := numberAt bs 10 4 })
    else if kind = 0x51 then
      match more with
      | some c =>
        if slotCondition c = .passes 0x52 then
          some (.conclude
            { figures :=
                { epoch := if numberAt bs 1 1 = 1 then some (numberAt bs 2 3) else none
                  verdict := Verdict.ofCode (numberAt bs 5 1)
                  exposure := numberAt bs 6 4
                  drawn := numberAt bs 10 2
                  restarts := numberAt bs 12 1 }
              reader := BitVec.ofNat 32 (numberAt bs 13 4)
              tag := (c.drop 1).take (numberAt bs 17 1)
              stamp := numberAt bs 18 3 })
        else none
      | none => none
    else none
  | .erased => none
  | .void => none
  | .unreadable => none

/-! ### Segment headers (R185) -/

def roleJournal : Byte := 0x0F
def roleTarget : Byte := 0x3C

/-- Bytes 0 to 9 of a header: sequence number, role, span start, sources. -/
def AllocFields.bytes (f : AllocFields) : List Byte :=
  beBytes 2 f.seq ++ [if f.sources.isSome then roleTarget else roleJournal] ++ beBytes 3 f.span ++
  (match f.sources with
    | some (a, b) => beBytes 2 a ++ beBytes 2 b
    | none => List.replicate 4 erasedByte)

/-- Bytes 0 to 11: the allocation fields and their check. -/
def AllocFields.image (f : AllocFields) : List Byte := f.bytes ++ crcBytes f.bytes

/-- A protection mark's three bytes: marker, number, its inverse. -/
def protectionImage (number : Nat) : List Byte :=
  [0x00, BitVec.ofNat 8 number, ~~~(BitVec.ofNat 8 number)]

/-- How the twelve bytes of the allocation fields read: a role of another value fails them, and only a TARGET names
sources (R109, R185). -/
def readAlloc (bs : List Byte) : AllocRead :=
  if bs.all (· == erasedByte) then .erased
  else
    let sources := if bs.getD 2 0 = roleTarget then some (numberAt bs 6 2, numberAt bs 8 2) else none
    let f : AllocFields := ⟨numberAt bs 0 2, numberAt bs 3 3, sources⟩
    if (bs.getD 2 0 = roleTarget ∨ bs.getD 2 0 = roleJournal) ∧ bs.drop 10 = crcBytes (bs.take 10) then .fields f
    else .failing f.numbers

/-- How the three bytes of a protection mark read. -/
def readProtection (bs : List Byte) : Protection :=
  if bs.all (· == erasedByte) then .clear
  else
    let n := bs.getD 1 0
    if bs.getD 0 0xFF = 0x00 ∧ 1 ≤ n.toNat ∧ n.toNat ≤ 32 ∧ bs.getD 2 0 = ~~~n then .whole n.toNat else .part

/-- How 64 header bytes read (R106, R181, R185). -/
def readHeader (bs : List Byte) : Header where
  alloc := readAlloc (bs.take 12)
  commit := bs.getD 12 erasedByte != erasedByte
  protection := readProtection ((bs.drop 13).take 3)
  lock := bs.getD 16 erasedByte != erasedByte
  stray := (bs.drop 17).any (· != erasedByte)

/-! ### Replies (R183) -/

def adjustedBytes (a : Nat × Int) : List Byte := beBytes 1 a.1 ++ beSigned 3 a.2

/-- The hearing history, newest mark in bit 7. -/
def historyNumber (marks : List Bool) : Nat := marks.foldl (fun n b => 2 * n + b.toNat) 0

/-- The hearing count h (R49). -/
def hearingCount (p : Peer) : Nat := (p.history.filter id).length

def Peer.bytes (p : Peer) : List Byte :=
  idBytes p.id ++
  beBytes 1 (p.state.code * 64 + p.door.code * 16 + p.verdict.rank * 4 + flagBit p.fit 1 + flagBit p.heard 0) ++
  beBytes 1 (historyNumber p.history) ++ beSigned 1 p.level ++
  beBytes 1 (flagBit p.fresh.isSome 7 + hearingCount p) ++
  (match p.fresh with
    | some r => beSigned 1 (r.value / 4)
    | none => [0x00]) ++
  beBytes 1 p.leg

/-- Bit i is set when the (i + 1)-th entry is RESTATED. -/
def restatedMask : List (Entry × Bool) → Nat
  | [] => 0
  | e :: rest => flagBit e.2 0 + 2 * restatedMask rest

/-- A reply's payload from its third byte on. Bits that R183 does not name in a byte of bit fields are 0, and a cursor epoch
past its three bytes is sent as its lowest 24 bits (DESIGN CHOICE; notes/assumptions/53.md, 50.md). -/
def Reply.body : Reply → List Byte
  | .status _ _ => []
  | .discover r => idBytes r.id ++ beBytes 1 (r.cls.getD 0) ++ beBytes 1 r.state.code ++ beBytes 1 r.verdict.rank
  | .commission state adjusted =>
    beBytes 1 state.code ++ beBytes 1 adjusted.length ++ adjusted.flatMap adjustedBytes
  | .queryStatus r =>
    idBytes r.id ++ beBytes 1 r.state.code ++ beBytes 1 r.verdict.rank ++ beBytes 4 r.exposure ++
    beBytes 2 r.drawn ++ presentBytes 3 r.epoch ++ beBytes 2 r.run ++ presentBytes 1 r.leg ++
    beBytes 1 r.coLocated ++ beBytes 1 r.suspect.toNat ++ beBytes 1 r.probe.code ++
    beBytes 1 r.journalFull.toNat ++ beBytes 1 r.blanks ++ beBytes 1 r.phase.code ++
    beBytes 1 r.suspended.toNat ++ beBytes 1 r.cause.code ++ beBytes 1 r.restarts ++
    (match r.figures with
      | some bs => 0x01 :: bs
      | none => List.replicate 14 0x00)
  | .queryPeers r =>
    beBytes 1 (flagBit r.leg.isSome 0 + flagBit r.turnover.isSome 1) ++ beBytes 1 (r.leg.getD 0) ++
    beBytes 1 (r.turnover.getD 0) ++ beBytes 1 r.founders.length ++
    (List.range 8).flatMap (fun i => idBytes (r.founders.getD i (BitVec.allOnes 32))) ++
    beBytes 1 r.records.length ++ r.records.flatMap Peer.bytes
  | .fragment _ line entries =>
    beBytes 1 line.state.code ++ beBytes 1 line.verdict.rank ++ beBytes 1 line.entries ++
    beBytes 1 (flagBit line.more 0) ++ beBytes 1 (restatedMask entries) ++ beBytes 3 line.cursorEpoch ++
    entries.flatMap (fun e => e.1.image)
  | .checkpoint number epoch verdict exposure recorded newly failed =>
    beBytes 1 number ++ beBytes 3 epoch ++ beBytes 1 verdict.rank ++ beBytes 4 exposure ++
    beBytes 1 recorded.toNat ++ beBytes 1 newly ++ beBytes 1 failed
  | .conclude f recorded locked failed =>
    presentBytes 3 f.epoch ++ beBytes 1 f.verdict.rank ++ beBytes 4 f.exposure ++ beBytes 2 f.drawn ++
    beBytes 1 f.restarts ++ beBytes 1 recorded.toNat ++ beBytes 1 locked ++ beBytes 1 failed

/-- The request code a reply echoes. -/
def Reply.code : Reply → Byte
  | .status code _ => code
  | .discover _ => codeDiscover
  | .commission _ _ => codeCommission
  | .queryStatus _ => codeQuery
  | .queryPeers _ => codeQuery
  | .fragment on _ _ => if on then codeReadOn else codeRead
  | .checkpoint _ _ _ _ _ _ _ => codeCheckpoint
  | .conclude _ _ _ _ => codeConclude

def Reply.statusOf : Reply → Status
  | .status _ s => s
  | .discover _ => .ok
  | .commission _ _ => .ok
  | .queryStatus _ => .ok
  | .queryPeers _ => .ok
  | .fragment _ _ _ => .ok
  | .checkpoint _ _ _ _ _ _ _ => .ok
  | .conclude _ _ _ _ => .ok

def Reply.payload (r : Reply) : List Byte := r.code :: (beBytes 1 r.statusOf.code ++ r.body)

/-- The bytes the station sends for a frame (R31, R182). -/
def frameBytes (own : PartyId) : Frame → List Byte
  | .note n => wireFrame 0x01 own (BitVec.allOnes 32) n.payload
  | .reply reader r => wireFrame 0x03 own reader r.payload

/-! ### Reception (R33) -/

/-- A frame as delivered passes the tests of R33: kind, sender, destination and payload. -/
def soundFrame (bs : List Byte) : Option (Byte × PartyId × PartyId × List Byte) :=
  let length := numberAt bs 0 1
  let body := bs.drop 1
  let covered := body.take (9 + length)
  let kind := body.getD 0 0
  let sender : PartyId := BitVec.ofNat 32 (numberAt body 1 4)
  if length ≤ 208 ∧ body.length = 11 + length ∧ body.drop (9 + length) = crcBytes covered ∧
      (kind = 0x01 ∨ kind = 0x02 ∨ kind = 0x03) ∧ soundSender sender = true then
    some (kind, sender, BitVec.ofNat 32 (numberAt body 5 4), covered.drop 9)
  else none

end Sys2Proof.Machine
end

