-- ==== Sys2Proof/Decode.lean ====
section
/-! DEFINITION. Which command a word or a delivered frame spells. The opcode table gives its rows no bits, so a word spells
none; a frame's bytes do (R31 to R36, R182, R183). -/

namespace Sys2Proof

/-- The table's rows carry no bits: no word spells a command. -/
def decodeTableWord (_nbits _w : Nat) : Option Instr := none

/-- What the part does not read from a frame: the reported level, and the operands of the command it becomes. -/
structure Reception where
  level : Int
  left : Leftover
  env : Env
  deriving DecidableEq, Repr

/-- The command a sound REQUEST addressed to this station or to broadcast becomes (R35, R183). -/
def decodeRequest (r : Reception) (req : Request) : List Byte → Instr
  | [] => .unknownRequest req none [] r.env
  | code :: fields =>
    if code = Machine.codeDiscover then .discover req fields r.env
    else if code = Machine.codeCommission then .commission req fields r.env
    else if code = Machine.codeQuery then
      (match Machine.parseQuery fields with
        | some .peers => .queryPeers req fields r.env
        | some .status => .queryStatus req fields r.env
        | none => .queryStatus req fields r.env)
    else if code = Machine.codeRead then .read req fields r.env
    else if code = Machine.codeReadOn then .readOn req fields r.env
    else if code = Machine.codeCheckpoint then .checkpoint req fields r.left r.env
    else if code = Machine.codeConclude then .conclude req fields r.left r.env
    else .unknownRequest req (some code) fields r.env

/-- The command a frame's bytes become at a station with id `own` (R33, R35, R36). -/
def decodeFrame (own : PartyId) (r : Reception) (bs : List Byte) : Instr :=
  match Machine.soundFrame bs with
  | none => .unsoundFrame bs
  | some (kind, sender, destination, payload) =>
    if kind = 0x01 then
      if (Machine.parseNote payload).isSome then .chillNote sender r.level payload r.env
      else .discardedNote sender r.level payload
    else if kind = 0x03 then .replyFrame sender destination payload
    else if destination = own then decodeRequest r ⟨sender, false⟩ payload
    else if destination = BitVec.allOnes 32 then decodeRequest r ⟨sender, true⟩ payload
    else .requestForAnotherStation sender destination payload

end Sys2Proof
end

