-- ==== Sys2Proof/Machine/Channel.lean ====
section
/-! DEFINITION. The channel controller (chapter 03): the transmit queue, carrier sense and backoff, notes and replies. -/

namespace Sys2Proof.Machine

/-! ### The transmit queue (R37, R38) -/

def Frame.isNote : Frame → Bool
  | .note _ => true
  | .reply _ _ => false

/-- A note replaces the queued note in its place (R38). -/
def replaceNote (n : Note) : List Frame → List Frame
  | [] => []
  | f :: fs => if f.isNote then .note n :: fs else f :: replaceNote n fs

/-- A note is offered: it replaces a queued note, joins the tail, or is dropped (R38). -/
def Chc.offerNote (c : Chc) (n : Note) : Chc :=
  if c.queue.any Frame.isNote then { c with queue := replaceNote n c.queue }
  else if c.queue.length < Config.transmitRoom then { c with queue := c.queue ++ [.note n] }
  else c

/-- A reply is offered: it joins the tail, or is dropped (R38). -/
def Chc.offerReply (c : Chc) (reader : PartyId) (r : Reply) : Chc :=
  if c.queue.length < Config.transmitRoom then { c with queue := c.queue ++ [.reply reader r] } else c

/-- The request service hands over a reply other than DISCOVER's (R46). -/
def sendReply (reader : PartyId) (r : Reply) (s : State) : State := s.setChc (s.chc.offerReply reader r)

/-! ### Carrier sense (R39, R40) -/

/-- The report of a carrier sense for the head frame. -/
def Chc.senseReport (c : Chc) (busy : Bool) (slots : Nat) : Chc :=
  match c.queue with
  | [] => { c with transmitter := .idle, busy := 0 }
  | f :: rest =>
    if busy then
      if c.busy + 1 = 8 then { c with queue := rest, busy := 0, transmitter := .idle }
      else { c with busy := c.busy + 1, transmitter := .backoff slots }
    else { c with queue := rest, busy := 0, transmitter := .onAir f }

/-- In IDLE a queued frame's carrier sense begins (R39). -/
def Chc.beginSense (c : Chc) : Chc :=
  match c.transmitter, c.queue with
  | .idle, _ :: _ => { c with transmitter := .sensing }
  | _, _ => c

/-- The sense under way reports. -/
def Chc.endSense (c : Chc) (busy : Bool) (slots : Nat) : Chc :=
  match c.transmitter with
  | .sensing => c.senseReport busy slots
  | .idle => c
  | .backoff _ => c
  | .onAir _ => c

/-- At the end of a command: a waiting frame is sensed, and the next head too when the first was discarded
(notes/assumptions/21.md). -/
def Chc.kick (env : Env) (c : Chc) : Chc :=
  ((c.beginSense.endSense env.busy (env.backoff.val + 1)).beginSense).endSense env.busyNext (env.backoff.val + 1)

def kick (env : Env) (s : State) : State := s.setChc (s.chc.kick env)

/-! ### Notes (R41 to R45, R76) -/

/-- The door flag (R76). -/
def doorFlag (s : State) : DoorFlag :=
  if s.eve.station = .active then
    if s.dmn.latch then .light
    else match s.dmn.episode with
      | some e => if e.relay then .relayed else .closed
      | none => .closed
  else .closed

/-- A note composed now, with a door flag (R43). With no leg, as before a commissioning with start delay 0 has its OPEN
segment, the leg byte is 0 (R182; DESIGN CHOICE; notes/assumptions/57.md). -/
def composeNote (door : DoorFlag) (s : State) : Note where
  cls := s.cmr.cls
  air := s.chc.content.bind fun c => c.air.map airByte
  fit := match s.chc.content with
    | some c => c.fit
    | none => false
  door := door
  verdict := committedVerdict s
  leg := s.ptb.leg.getD 0

/-- The regular note is composed and offered, and the schedule becomes NONE (R41). -/
def offerRegularNote (s : State) : State :=
  s.setChc { s.chc.offerNote (composeNote (doorFlag s) s) with schedule := .none }

/-- The door monitor asks for a door note (R45). -/
def offerDoorNote (s : State) : State := s.setChc (s.chc.offerNote (composeNote .light s))

/-- An ACTIVE epoch end starts the note schedule of that epoch; a delay of 0 has run out at once (R41). -/
def startSchedule (env : Env) (epoch : Nat) (s : State) : State :=
  let delay := env.noteDelay % (2 * s.cmr.epochLength + 1)
  s.setChc { s.chc with schedule := if delay = 0 then .due epoch else .waiting epoch delay false }

/-- The note content of a close arrives (R41, R42). -/
def takeContent (c : NoteContent) (s : State) : State :=
  let s := s.setChc { s.chc with content := some c }
  match s.chc.schedule with
  | .none => s
  | .waiting epoch remaining arrived =>
    s.setChc { s.chc with schedule := .waiting epoch remaining (arrived || epoch == c.epoch) }
  | .due epoch => if epoch = c.epoch then offerRegularNote s else s

/-! ### DISCOVER replies (R46, R167) -/

/-- A DISCOVER reply takes the discovery hold. -/
def holdDiscover (slots : Nat) (reader : PartyId) (s : State) : State :=
  let state := reportedState s
  let r : DiscoverReply :=
    { id := s.cmr.stationId
      cls := if s.eve.station = .blank then none else some s.cmr.cls
      state := state
      verdict := if s.eve.station = .blank then .intact else committedVerdict s }
  s.setChc { s.chc with hold := some ⟨reader, r, slots⟩ }

/-! ### Conclusion (R47) -/

/-- Notes leave the queue; a head that leaves ends its backoff (R47; notes/assumptions/20.md). -/
def Chc.conclude (c : Chc) : Chc :=
  let c' := { c with queue := c.queue.filter (fun f => !f.isNote), schedule := .none, content := none }
  match c.queue with
  | .note _ :: _ =>
    { c' with
      busy := 0
      transmitter := match c.transmitter with
        | .backoff _ => .idle
        | .sensing => .idle
        | .idle => .idle
        | .onAir f => .onAir f }
  | .reply _ _ :: _ => c'
  | [] => c'

/-! ### The commands of the channel -/

/-- NOTE_DELAY_EXPIRY (R41) -/
def execNoteDelayExpiry (env : Env) (s : State) : Host.Outcome State Fault Refusal :=
  done <|
    if running s then
      match s.chc.schedule with
      | .none => s
      | .waiting epoch _ arrived =>
        kick env (if arrived then offerRegularNote s else s.setChc { s.chc with schedule := .due epoch })
      | .due _ => s
    else s

/-- BACKOFF_END (R39): the last slot ends and the head is sensed afresh. -/
def execBackoffEnd (env : Env) (s : State) : Host.Outcome State Fault Refusal :=
  done <|
    if running s then
      match s.chc.transmitter with
      | .backoff _ => kick env (s.setChc { s.chc with transmitter := .idle })
      | .idle => s
      | .sensing => s
      | .onAir _ => s
    else s

/-- TRANSMISSION_END (R39) -/
def execTransmissionEnd (env : Env) (s : State) : Host.Outcome State Fault Refusal :=
  done <|
    if running s then
      match s.chc.transmitter with
      | .onAir _ => kick env (s.setChc { s.chc with transmitter := .idle })
      | .idle => s
      | .sensing => s
      | .backoff _ => s
    else s

/-- DISCOVERY_DELAY_EXPIRY (R46) -/
def execDiscoveryDelayExpiry (env : Env) (s : State) : Host.Outcome State Fault Refusal :=
  done <|
    if running s then
      match s.chc.hold with
      | some h => kick env (sendReply h.reader (.discover h.reply) (s.setChc { s.chc with hold := none }))
      | none => s
    else s

/-- UNSOUND_FRAME (R33): a discarded frame leaves no trace. -/
def execUnsoundFrame (_bytes : List Byte) (s : State) : Host.Outcome State Fault Refusal := done s

/-- REPLY_FRAME (R35): discarded in every state. -/
def execReplyFrame (_sender _destination : PartyId) (_payload : List Byte) (s : State) :
    Host.Outcome State Fault Refusal := done s

/-- DISCARDED_NOTE (R35, R36): a note that fails the payload checks, or arrives in BLANK or CONCLUDED. -/
def execDiscardedNote (_sender : PartyId) (_level : Int) (_payload : List Byte) (s : State) :
    Host.Outcome State Fault Refusal := done s

/-- REQUEST_FOR_ANOTHER_STATION (R35): discarded in every state. -/
def execRequestForAnotherStation (_sender _destination : PartyId) (_payload : List Byte) (s : State) :
    Host.Outcome State Fault Refusal := done s

end Sys2Proof.Machine
end

