-- ==== Sys2Proof/Machine/Store.lean ====
section
/-! DEFINITION. The journal store's shared operations (chapters 07, 08): the segment table, the live map, allocation, the
append queue's offer, suspension, the store condition and the consolidation job's bookkeeping. -/

namespace Sys2Proof.Machine

/-! ### Segment table and live map (R108, R110) -/

def segAt (s : State) (i : Nat) : Segment := s.store.getD i .erased
def statusAt (s : State) (i : Nat) : SegStatus := s.jst.status.getD i .outOfService
def putSeg (i : Nat) (g : Segment) (s : State) : State := s.setStore (s.store.set i g)
def putStatus (i : Nat) (x : SegStatus) (s : State) : State :=
  s.setJst { s.jst with status := s.jst.status.set i x }
def setJob (j : Job) (s : State) : State := s.setJst { s.jst with job := j }
def setAccess (a : Access) (s : State) : State := s.setJst { s.jst with access := a }

/-- OPEN or FULL (R110). -/
def SegStatus.live : SegStatus → Bool
  | .opened => true
  | .full => true
  | .blank => false
  | .targetPending => false
  | .retiring => false
  | .erasing => false
  | .outOfService => false
  | .invalidKept => false

/-- The live map: indices of live segments in ascending order of span start (R110). -/
def liveMap (s : State) : List Nat :=
  sortBy (fun a b => decide ((segAt s a).span < (segAt s b).span))
    ((List.range Config.segments).filter fun i => (statusAt s i).live)

def liveSegments (s : State) : List Segment := (liveMap s).map (segAt s)

/-- The journal: the entries of the live map in journal order (R110). -/
def journal (s : State) : List Entry := (liveSegments s).flatMap fun g => entriesOf g.slots

/-- The OPEN segment (R111). -/
def openSeg (s : State) : Option Nat :=
  (List.range Config.segments).find? fun i => statusAt s i == .opened

/-- BLANK segments in service (R108). -/
def blankCount (s : State) : Nat :=
  ((List.range Config.segments).filter fun i => statusAt s i == .blank).length

/-- The BLANK segment of lowest index in service, unless the sequence numbers are used up (R109). -/
def nextBlank (s : State) : Option Nat :=
  if Config.maxSeq < s.jst.nextSeq then none
  else (List.range Config.segments).find? fun i => statusAt s i == .blank

/-- The span start of a new JOURNAL segment (R109). -/
def openSpan (s : State) : Nat :=
  (liveSegments s).foldl (fun n g => max n (g.span + 1)) s.ret.epoch

/-- What an allocation for appends would program; absent when none can be made (R109). -/
def planOpen (s : State) : Option (Nat × AllocFields) :=
  if Config.maxEpoch < openSpan s then none
  else (nextBlank s).map fun i => (i, ⟨s.jst.nextSeq, openSpan s, none⟩)

/-- A JOURNAL segment's free slots, as R126 asks for them: the live JOURNAL segment of highest sequence number, when
its fill is below 127 (R111). -/
def openableSeg (s : State) : Option Nat :=
  let journals := (liveMap s).filter fun i => match (segAt s i).reading with
    | .journal _ => true
    | .committedTarget _ => false
    | .pendingTarget _ => false
    | .blank => false
    | .invalid => false
  let seqOf := fun i => ((segAt s i).fields.map AllocFields.seq).getD 0
  match sortBy (fun a b => decide (seqOf b < seqOf a)) journals with
  | i :: _ => if (segAt s i).fill < 127 then some i else none
  | [] => none

/-! ### Suspension (R140) -/

/-- A page program or an erase in flight is suspended at once. -/
def suspend (s : State) : State :=
  match s.jst.access with
  | .pageProgram => s.setJst { s.jst with access := .none, job := { s.jst.job with suspended := some .page } }
  | .sourceErase i =>
    s.setJst { s.jst with access := .none, job := { s.jst.job with suspended := some (.sourceErase i) } }
  | .cleanupErase i =>
    s.setJst { s.jst with access := .none, job := { s.jst.job with suspended := some (.cleanupErase i) } }
  | .none => s
  | .entry _ _ => s
  | .alloc _ _ _ => s
  | .pageRead => s
  | .commitMark => s
  | .protectMark _ => s
  | .lockMark _ => s
  | .scanErase _ => s

/-! ### The append queue's offer (R114) -/

def offerAccepted (s : State) : Bool :=
  s.jst.condition == .normal && !s.jst.frozen && decide (s.jst.queue.length < Config.appendRoom)

/-- An entry is offered: accepted at the tail, suspending a step in flight, or refused at the offer. -/
def offer (e : Entry) (s : State) : State × Bool :=
  if offerAccepted s then (suspend (s.setJst { s.jst with queue := s.jst.queue ++ [e] }), true) else (s, false)

/-! ### Room (R119 to R121) -/

/-- The consolidation work under way can still free a segment (R119). A cleanup target that a conclusion leaves waiting counts
(DESIGN CHOICE; notes/assumptions/48.md). -/
def canFree (s : State) : Bool :=
  !s.jst.job.stopped &&
    (s.jst.job.phase != .none || s.jst.job.cleanup.isSome ||
      (List.range Config.segments).any fun i => statusAt s i == .retiring && !(segAt s i).header.marked)

/-- The store becomes JOURNAL-FULL, but for the entries it refuses (R121). -/
def fillStore (s : State) : State :=
  let s := match openSeg s with
    | some i => putStatus i .full s
    | none => s
  s.setJst { s.jst with condition := .journalFull, wantOpen := none }

/-- Work that could free a segment has ended: a SHORT store with none left is JOURNAL-FULL (R120). A BLANK segment that
R109 lets no allocation take counts as none (notes/assumptions/43.md). -/
def settleShort (s : State) : State :=
  if s.jst.condition = .short then
    if (planOpen s).isSome then s.setJst { s.jst with condition := .normal }
    else if canFree s then s else fillStore s
  else s

/-! ### The consolidation job (R129, R133) -/

/-- The job ends: the phase returns to NONE and its fields become absent; a cleanup target may stay. -/
def endJob (cleanup : Option Nat) (s : State) : State := setJob { Job.initial with cleanup := cleanup } s

/-- The index of the job's target, when it has one. -/
def Job.targetSeg (j : Job) : Option Nat := j.target.map Prod.fst

/-- The trigger (R133): when it holds, the job enters PLANNING. A conclusion ends its evaluations (R144). -/
def evaluateTrigger (s : State) : State :=
  if s.eve.station = .active ∧ s.jst.condition ≠ .journalFull ∧ s.jst.frozen = false ∧ blankCount s ≤ 3 ∧
      s.jst.job.phase = .none ∧ s.jst.job.cleanup = none ∧ concluding s = false then
    setJob { Job.initial with phase := .planning } s
  else s

/-- The merged output of the job's sources (R131). -/
def jobOutput (s : State) : List Slot :=
  match s.jst.job.first, s.jst.job.second with
  | some (a, _), some (b, _) => mergedSlots (segAt s a) (segAt s b)
  | _, _ => []

/-- The slots of the page being programmed (R137). -/
def jobPage (s : State) : List Slot := ((jobOutput s).drop (8 * s.jst.job.pages)).take 8

/-- Puts slots where the page in hand goes. -/
def putPage (slots : List Slot) (s : State) : State :=
  match s.jst.job.targetSeg with
  | some t => putSeg t ((segAt s t).put (8 * s.jst.job.pages + 1) slots) s
  | none => s

/-- An erase leaves what it leaves. -/
def eraseSeg (i : Nat) (left : EraseLeft) (s : State) : State := putSeg i ((segAt s i).erasedTo left) s

/-- An erase has ended and the segment is read back (R125, R139, R145). -/
def endErase (i : Nat) (left : EraseLeft) (s : State) : State :=
  let s := eraseSeg i left s
  putStatus i (if segAt s i = Segment.erased then .blank else .outOfService) s

/-- What the work in flight or suspended leaves when a stop, a checkpoint or a conclusion ends it (R123, R143, R144). -/
def dropSuspended (left : Leftover) (s : State) : State :=
  let s' := match s.jst.job.suspended with
    | some .page => putPage (leftSlots (jobPage s) left.page) s
    | some (.sourceErase i) => eraseSeg i left.erase s
    | some (.cleanupErase i) => eraseSeg i left.erase s
    | none => s
  setJob { s'.jst.job with suspended := none } s'

/-! ### A checkpoint's and a conclusion's requests (R143, R144) -/

/-- A header program of the job is in progress, and runs to its end first (R143). -/
def jobHeaderInProgress (s : State) : Bool :=
  match s.jst.access with
  | .alloc .target _ _ => true
  | .commitMark => true
  | _ => false

/-- A step of the job is in flight that is not suspended, a page read or a header program: a conclusion waits for it to end
(R135, R140, R155). -/
def jobStepInProgress (s : State) : Bool := s.jst.access == .pageRead || jobHeaderInProgress s

/-- The job is abandoned; a target already allocated becomes the cleanup target (R143, R145). -/
def abandonJob (s : State) : State := endJob (s.jst.job.targetSeg.or s.jst.job.cleanup) s

/-- JST deals with its consolidation work for a checkpoint, no header program of the job being in progress (R143). -/
def dealForCheckpoint (left : Leftover) (s : State) : State :=
  let s := suspend s
  match s.jst.job.phase with
  | .none => s
  | .planning => endJob s.jst.job.cleanup s
  | .allocate => abandonJob s
  | .copy => abandonJob (dropSuspended left s)
  | .commit => abandonJob s
  | .erase1 => s
  | .erase2 => s

/-- JST stops its consolidation work for a conclusion, no page read or header program of the job being in progress (R144). -/
def stopConsolidation (left : Leftover) (s : State) : State :=
  let s := suspend s
  let erasing := match s.jst.job.suspended with
    | some (.sourceErase i) => some (i, SegStatus.retiring)
    | some (.cleanupErase i) => some (i, SegStatus.targetPending)
    | some .page => none
    | none => none
  let s := dropSuspended left s
  let s := match erasing with
    | some (i, st) => putStatus i (if segAt s i = Segment.erased then .blank else st) s
    | none => s
  match s.jst.job.phase with
  | .none => if erasing.isSome then setJob { s.jst.job with stopped := true } s else s
  | .planning => endJob s.jst.job.cleanup s
  | .allocate => setJob { s.jst.job with stopped := true } s
  | .copy => setJob { s.jst.job with stopped := true } s
  | .commit => setJob { s.jst.job with stopped := true } s
  | .erase1 => setJob { s.jst.job with stopped := true } s
  | .erase2 => setJob { s.jst.job with stopped := true } s

end Sys2Proof.Machine
end

