-- ==== Sys2Proof/Machine/Door.lean ====
section
/-! DEFINITION. The door monitor (chapter 05): episodes, door views, draw reports and DOOR entries. -/

namespace Sys2Proof.Machine

/-- An episode opens (R74, R75, R80, R82). -/
def Episode.begin (origin : Origin) (epoch : Nat) : Episode where
  start := epoch
  origin := origin
  age := 0
  ownMark := origin == .own
  heardMark := origin == .heard
  relay := origin == .heard
  quiet := 0
  overrun := false
  drawn := 0
  stop := none

def setEpisode (e : Option Episode) (s : State) : State := s.setDmn { s.dmn with episode := e }

/-- The own light opens an episode or marks the open one (R74, R80, R82). With no epoch in progress, after the close of epoch
16,777,215, an episode starts in that epoch (DESIGN CHOICE; notes/assumptions/56.md). -/
def markOwn (s : State) : State :=
  match s.dmn.episode with
  | none => setEpisode (some (.begin .own s.ret.epoch)) s
  | some e => setEpisode (some { e with ownMark := true }) s

/-- A rise while ACTIVE and taking events (R74). -/
def rise (s : State) : State := offerDoorNote (markOwn s)

/-- The peer table reports light heard (R75). With no epoch in progress, after the close of epoch 16,777,215, an episode
starts in that epoch (DESIGN CHOICE; notes/assumptions/56.md). -/
def lightHeard (s : State) : State :=
  if s.dmn.taking then
    match s.dmn.episode with
    | none => setEpisode (some (.begin .heard s.ret.epoch)) s
    | some e => setEpisode (some { e with heardMark := true, relay := true }) s
  else s

/-- At activation and at a start-up into ACTIVE a latch at LIGHT opens an episode, without a door note (R80, R82). -/
def openAtLight (epoch : Nat) (s : State) : State :=
  if s.dmn.latch then setEpisode (some (.begin .own epoch)) s else s

/-- The door view of an epoch (R77). -/
def doorView (epoch : Nat) (d : Dmn) : DoorView where
  epoch := epoch
  inEpisode := d.episode.isSome
  overrun := match d.episode with
    | some e => decide (30 ≤ e.age)
    | none => false

/-- Handing over a view with overrun yes sets the episode's overrun field (R77). -/
def Dmn.viewed (d : Dmn) : Dmn :=
  { d with episode := d.episode.map fun e => { e with overrun := e.overrun || decide (30 ≤ e.age) } }

/-- A record's DOOR entry is offered; a refusal loses it (R79). -/
def offerDoor (e : Episode) (stop : Nat) (conclusion : Bool) (s : State) : State :=
  (offer (.door
    { start := e.start
      stop := stop
      origin := e.origin
      overrun := e.overrun
      drawn := e.drawn
      conclusion := conclusion
      stamp := s.ret.epoch }) s).1

/-- The closing record's DOOR entry is offered, and the record becomes NONE (R79). -/
def offerClosing (s : State) : State :=
  match s.dmn.closing with
  | some e => (offerDoor e (e.stop.getD e.start) false s).setDmn { s.dmn with closing := none }
  | none => s

/-- The open episode's quiet count at an epoch end (R78). -/
def Episode.quietAfter (e : Episode) : Nat := if e.ownMark || e.heardMark then 0 else e.quiet + 1

/-- The open episode is settled at an ACTIVE epoch end (R78). -/
def settleEpisode (epoch : Nat) (s : State) : State :=
  match s.dmn.episode with
  | none => s
  | some e =>
    if 2 ≤ e.quietAfter then
      let s := offerClosing s
      s.setDmn { s.dmn with episode := none, closing := some { e with quiet := e.quietAfter, stop := some epoch } }
    else
      setEpisode (some
        { e with
          quiet := e.quietAfter
          age := satAdd 65535 e.age 1
          ownMark := s.dmn.latch
          heardMark := false }) s

/-- The draw report of an epoch (R79, R92). -/
def drawReport (epoch draw : Nat) (s : State) : State :=
  let open' (s : State) : State :=
    match s.dmn.episode with
    | some e => if e.start ≤ epoch then setEpisode (some { e with drawn := e.drawn + draw }) s else s
    | none => s
  match s.dmn.closing with
  | some e =>
    if e.stop = some epoch then
      offerClosing (s.setDmn { s.dmn with closing := some { e with drawn := e.drawn + draw } })
    else if e.start ≤ epoch ∧ epoch < e.stop.getD 0 then
      s.setDmn { s.dmn with closing := some { e with drawn := e.drawn + draw } }
    else open' s
  | none => open' s

/-- The conclusion's close (R81): the waiting record, then the open episode. -/
def closeForConclusion (draw : Nat) (finalEpoch : Option Nat) (s : State) : State :=
  let toClosing := match s.dmn.closing with
    | some e => finalEpoch.isSome && e.stop == finalEpoch
    | none => false
  let s := if toClosing then
      s.setDmn { s.dmn with closing := s.dmn.closing.map fun e => { e with drawn := e.drawn + draw } }
    else s
  let s := offerClosing s
  match s.dmn.episode with
  | some e =>
    let e := if toClosing then e else { e with drawn := e.drawn + draw }
    (offerDoor e (match finalEpoch with
      | some f => max f e.start
      | none => e.start) true s).setDmn { s.dmn with episode := none }
  | none => s

/-- LIGHT_EVENT (R73): the latch follows the line; a rise in ACTIVE while taking events does R74. -/
def execLightEvent (light : Bool) (env : Env) (s : State) : Host.Outcome State Fault Refusal :=
  done <|
    if s.logic = .stopped ∨ s.dmn.latch = light then s
    else
      let s := s.setDmn { s.dmn with latch := light }
      if light ∧ running s ∧ s.eve.station = .active ∧ s.dmn.taking then kick env (rise s) else s

end Sys2Proof.Machine
end

