-- ==== Sys2Proof/Machine/Peers.lean ====
section
/-! DEFINITION. The peer table (chapter 04): notes, hearing history, co-location, close views, legs and turnover. -/

namespace Sys2Proof.Machine

/-! ### Taking a note (R51 to R55) -/

/-- The fields a record takes from an accepted note (R52). -/
def Peer.take (p : Peer) (level : Int) (n : Note) : Peer :=
  { p with
    heard := true
    level := level
    fit := n.fit
    door := n.door
    fresh := n.reading
    verdict := n.verdict
    leg := n.leg }

/-- A record as an accepted note creates it (R53). -/
def Peer.create (sender : PartyId) (level : Int) (n : Note) : Peer where
  id := sender
  state := .heard
  history := List.replicate 8 false
  heard := true
  level := level
  fit := n.fit
  door := n.door
  fresh := n.reading
  verdict := n.verdict
  leg := n.leg

/-- h plus 1 if heard this epoch (R54). -/
def hearingScore (p : Peer) : Nat := hearingCount p + p.heard.toNat

/-- The record of lowest score, the least recent among equals (R54). -/
def lowestScore : List Peer → Option Peer
  | [] => none
  | p :: ps =>
    match lowestScore ps with
    | some q => if hearingScore q < hearingScore p then some q else some p
    | none => some p

/-- The record a newcomer replaces in a full table (R54). -/
def replaceable (ps : List Peer) : Option Peer :=
  match lowestScore (ps.filter fun p => p.state == .lapsing) with
  | some p => some p
  | none => lowestScore (ps.filter fun p => p.state == .heard)

/-- The records without one sender's. -/
def withoutPeer (i : PartyId) (ps : List Peer) : List Peer := ps.filter fun p => p.id != i

/-- A commissioning with start delay 0 waits for its OPEN segment (R170). -/
def opening (s : State) : Bool :=
  match s.rqs.service with
  | some (.opening _ _) => true
  | _ => false

/-- A note passes R51's tests. The activation of a commissioning finds the table empty (R61, R170): no note enters it
before (DESIGN CHOICE; notes/assumptions/44.md). -/
def noteAccepted (s : State) (sender : PartyId) (level : Int) (n : Note) : Bool :=
  sender != s.cmr.stationId && n.cls == s.cmr.cls && decide (s.cmr.linkThreshold ≤ level) && !s.ptb.viewTaken &&
    !opening s

/-- The table after an accepted note (R52, R53, R54). -/
def peersAfter (ps : List Peer) (sender : PartyId) (level : Int) (n : Note) : List Peer :=
  match ps.find? fun p => p.id == sender with
  | some p => withoutPeer sender ps ++ [p.take level n]
  | none =>
    if ps.length < Config.peerRoom then ps ++ [.create sender level n]
    else match replaceable ps with
      | some old => withoutPeer old.id ps ++ [.create sender level n]
      | none => ps

/-- The note is reported as light heard (R55). -/
def reportsLight (s : State) (sender : PartyId) (n : Note) : Bool :=
  s.eve.station == .active && n.door == .light &&
    s.ptb.peers.any fun p => p.id == sender && p.state == .coLocated

def takeNote (sender : PartyId) (level : Int) (n : Note) (s : State) : State :=
  if noteAccepted s sender level n then
    let light := reportsLight s sender n
    let s := s.setPtb { s.ptb with peers := peersAfter s.ptb.peers sender level n }
    if light then lightHeard s else s
  else s

/-! ### Epoch closes (R56 to R60) -/

/-- R56 -/
def Peer.shift (p : Peer) : Peer :=
  { p with history := (p.heard :: p.history).take 8, heard := false, fresh := none }

/-- R57; a removed record is absent -/
def Peer.evaluate (p : Peer) : Option Peer :=
  let h := hearingCount p
  match p.state with
  | .heard => if h = 0 then none else if 5 ≤ h then some { p with state := .coLocated } else some p
  | .coLocated => if h ≤ 2 then some { p with state := .lapsing } else some p
  | .lapsing => if h = 0 then none else if 5 ≤ h then some { p with state := .coLocated } else some p

/-- The shift and the evaluation of a close (R56, R57). -/
def closePeers (ps : List Peer) : List Peer := (ps.map Peer.shift).filterMap Peer.evaluate

def itemBefore (a b : Item) : Bool :=
  decide (a.value < b.value ∨ a.value = b.value ∧ a.id.toNat < b.id.toNat)

/-- The corroborating set (R59). -/
def corroborating (ps : List Peer) : List Item :=
  sortBy itemBefore (ps.filterMap fun p =>
    if p.state = .coLocated ∧ p.heard = true ∧ p.fit = true then
      p.fresh.map fun r => ⟨p.id, r.value, r.saturated⟩
    else none)

/-- The close view of an epoch (R59). -/
def closeView (epoch : Nat) (t : Ptb) : CloseView := ⟨epoch, t.leg, corroborating t.peers⟩

/-! ### Legs and turnover (R62 to R66) -/

def coLocated (ps : List Peer) : List Peer := ps.filter fun p => p.state == .coLocated

/-- The founding list: CO-LOCATED records, strongest first, equal levels by ascending id, at most 8 (R62, R64). -/
def foundersOf (ps : List Peer) : List PartyId :=
  ((sortBy (fun a b => decide (b.level < a.level ∨ a.level = b.level ∧ a.id.toNat < b.id.toNat))
    (coLocated ps)).take 8).map Peer.id

/-- The turnover test (R63). -/
def turnoverHolds (t : Ptb) : Bool :=
  let near := coLocated t.peers
  let remaining := (t.founders.filter fun i => near.any fun p => p.id == i).length
  t.turnover.isNone && decide (2 ≤ near.length) &&
    (t.founders.isEmpty || decide (2 * remaining < t.founders.length))

/-- A turnover is proposed at the close of an epoch; a refusal at the offer ends it at once (R64, R65). -/
def proposeTurnover (epoch : Nat) (s : State) : State :=
  let leg := satAdd 255 (s.ptb.leg.getD 0) 1
  let founders := foundersOf s.ptb.peers
  let r := offer (.leg ⟨leg, epoch + 1, founders⟩) s
  if r.2 then r.1.setPtb { s.ptb with turnover := some ⟨leg, epoch + 1, founders⟩ } else r.1

/-- The work of the table at an ACTIVE epoch end, after the close view is handed (R60). -/
def closeTable (epoch : Nat) (s : State) : State :=
  let s := s.setPtb { s.ptb with peers := closePeers s.ptb.peers }
  if turnoverHolds s.ptb then proposeTurnover epoch s else s

/-- A listening epoch end (R58). -/
def listeningClose (s : State) : State := s.setPtb { s.ptb with peers := closePeers s.ptb.peers }

/-- Activation (R62). -/
def activatePeers (s : State) : State :=
  let peers := s.ptb.peers.map fun p => { p with heard := false, fresh := none }
  let founders := foundersOf peers
  (offer (.leg ⟨0, 0, founders⟩)
    (s.setPtb
      { s.ptb with
        peers := peers
        leg := some 0
        founders := founders
        turnover := none })).1

/-- The LEG entry of the pending turnover is settled (R65). -/
def settleLeg (e : LegEntry) (programmed : Bool) (s : State) : State :=
  match s.ptb.turnover with
  | some t =>
    if e = ⟨t.leg, t.start, t.founders⟩ then
      if programmed then s.setPtb { s.ptb with leg := some t.leg, founders := t.founders, turnover := none }
      else s.setPtb { s.ptb with turnover := none }
    else s
  | none => s

/-- The leg is restored once the station state is known (R69, R70); a start-up that performs activation does R62. -/
def restoreLeg (activation : Bool) (f : Facts) (s : State) : State :=
  match s.eve.station with
  | .blank => s
  | .dormant => s
  | .active =>
    if activation then activatePeers s
    else match f.lastLeg with
      | some e => s.setPtb { s.ptb with leg := some e.leg, founders := e.founders }
      | none => (offer (.leg ⟨0, 0, []⟩) (s.setPtb { s.ptb with leg := some 0 })).1
  | .concluded =>
    match f.lastLeg with
    | some e => s.setPtb { s.ptb with leg := some e.leg, founders := e.founders }
    | none => s

/-- CHILL_NOTE (R35, R36, R51): a note whose payload passes goes to the peer table in DORMANT and ACTIVE. -/
def execChillNote (sender : PartyId) (level : Int) (payload : List Byte) (env : Env) (s : State) :
    Host.Outcome State Fault Refusal :=
  done <|
    if delivered env s && soundSender sender && (s.eve.station == .dormant || s.eve.station == .active) then
      match parseNote payload with
      | some n => kick env (takeNote sender (noteLevel level) n s)
      | none => s
    else s

end Sys2Proof.Machine
end

