-- ==== Sys2Proof/Machine/Evidence.lean ====
section
/-! DEFINITION. The evidence engine's operations (chapter 06): the inputs of a close, verdict marks, the computation of a
close, EPOCH and GAP entries, the concluding figures and the restoration. Machine/Closes.lean has its commands. -/

namespace Sys2Proof.Machine

/-! ### Gathering the inputs (R85) -/

/-- Changes the inputs held under a key, new ones standing last. -/
def updateInputs (key : Nat) (f : CloseInputs → CloseInputs) : List CloseInputs → List CloseInputs
  | [] => [f ⟨key, none, none, none⟩]
  | c :: cs => if c.epoch = key then f c :: cs else c :: updateInputs key f cs

/-- The three inputs, once all are held. -/
def CloseInputs.joined (c : CloseInputs) : Option Joined :=
  match c.readings, c.view, c.door with
  | some r, some v, some d => some ⟨c.epoch, r, v, d⟩
  | _, _, _ => none

/-- Readings with q = 4 make an ordinary close, the others a partial close (R85). -/
def Joined.piece (j : Joined) : Piece := if j.readings.quarters = 4 then .ordinary j else .partialClose j

/-- An input arrives; a close whose inputs are all held goes on the work list (R85). -/
def handInput (key : Nat) (f : CloseInputs → CloseInputs) (s : State) : State :=
  let inputs := updateInputs key f s.eve.inputs
  match (inputs.find? fun c => c.epoch == key).bind CloseInputs.joined with
  | some j => s.setEve
      { s.eve with inputs := inputs.filter (fun c => c.epoch != key), work := s.eve.work ++ [j.piece] }
  | none => s.setEve { s.eve with inputs := inputs }

/-- The key under which what a conclusion obtains after the schedule has stopped is joined (R85;
notes/assumptions/35.md). -/
def stoppedKey : Nat := Config.maxEpoch + 1

/-- The temperature channels hand a set of readings; it belongs to the next epoch in order (R85). -/
def handReadings (r : EpochReadings) (s : State) : State :=
  let key := if r.quarters = 0 ∧ s.ret.schedule = .stopped then stoppedKey else s.eve.readingsEpoch
  let s := handInput key (fun c => { c with readings := some r }) s
  s.setEve { s.eve with readingsEpoch := s.eve.readingsEpoch + 1 }

/-- The key of a view formed at a conclusion's request. -/
def conclusionKey (s : State) : Nat := if s.ret.schedule = .stopped then stoppedKey else s.ret.epoch

def handView (key : Nat) (v : CloseView) (s : State) : State := handInput key (fun c => { c with view := some v }) s

def handDoor (key : Nat) (d : DoorView) (s : State) : State := handInput key (fun c => { c with door := some d }) s

/-! ### Verdict marks (R95) -/

/-- The marks a raise to a level still has to set, in ascending order. -/
def marksFor (c : Cmr) (target : Verdict) : List Verdict :=
  [Verdict.strained, .unproven, .broken].filter fun v =>
    decide (v.rank ≤ target.rank) && !c.markSet (verdictMarkAddress v)

/-- Raises the working verdict to a level at least. Where marks are to be set first, their programs begin and the
piece waits; the flag says that it goes on at once. -/
def raise (v : Verdict) (next : Continuation) (s : State) : State × Bool :=
  let target := s.eve.verdict.higher v
  if target = s.eve.verdict then (s, true)
  else match marksFor s.cmr target with
    | [] => (s.setEve { s.eve with verdict := target }, true)
    | m :: ms =>
      ((s.setEve { s.eve with current := some ⟨target, m :: ms, next⟩ }).setCmr { s.cmr with program := .verdictMark m },
        false)

/-! ### The close (R87 to R94, R97) -/

/-- What a close computes: the working figures after it but for the verdict, the EPOCH entry with the new verdict, and
what is left to do. -/
structure Close where
  eve : Eve
  entry : EpochEntry
  rest : CloseEnd
  deriving DecidableEq, Repr

/-- The computation of a close (R87 to R94, R97). A close view with leg none gives the EPOCH entry leg 0 (DESIGN CHOICE;
notes/assumptions/58.md). -/
def computeClose (c : Cmr) (e : Eve) (j : Joined) : Close :=
  let compared := comparison j.readings.air j.view.items
  let air := airAfter e.suspect e.discord e.concord compared
  let ev := evidence j.readings air.1 j.view.items
  let up := excessUp c.upper ev.value
  let down := excessDown c.lower ev.value
  let raw := rawContribution (up + down) c.scale j.readings.quarters
  let draw := doorDraw j.door raw c.allowance e.drawn
  let exposure := satAdd Config.maxExposure e.exposure (raw - draw)
  let run := runAfter ev.grade e.run
  let ceiling := reachesCeiling c.ceiling ev.value
  let floor := reachesFloor c.floor ev.value
  { eve :=
      { e with
        exposure := exposure
        drawn := e.drawn + draw
        run := run
        suspect := air.1
        discord := air.2.1
        concord := air.2.2 }
    entry :=
      { epoch := j.epoch
        value := ev.value
        grade := ev.grade
        peers := j.view.items.length
        flags :=
          { above := decide (0 < up)
            below := decide (0 < down)
            ceiling := ceiling
            floor := floor
            door := j.door.inEpisode
            overrun := j.door.overrun
            discord := compared == some true
            suspect := air.1
            clamped := ev.clamped
            partialEpoch := decide (j.readings.quarters < 4) }
        probe := j.readings.probe.map Reading.value
        air := j.readings.air.map Reading.value
        contribution := raw - draw
        draw := draw
        exposure := exposure
        drawn := e.drawn + draw
        run := run
        leg := j.view.leg.getD 0
        verdict := e.verdict.higher (candidate ceiling floor exposure c.budget run c.gapAllowance) }
    rest :=
      { epoch := j.epoch
        quarters := j.readings.quarters
        inEpisode := j.door.inEpisode
        draw := draw
        air := j.readings.air.map Reading.value
        fit := j.readings.air.isSome && !air.1 } }

/-! ### The end of a close (R98, R101, R156) -/

/-- Starts the stall timer with a period, unless the schedule has stopped (R23). -/
def startStall (period : Nat) (s : State) : State :=
  if s.ret.schedule = .stopped then s else s.setTmb { s.tmb with stall := some period }

/-- 2 L seconds, in steps of 250 ms (R23). -/
def activeStall (s : State) : Nat := 8 * s.cmr.epochLength

/-- The piece under way is finished (R86). -/
def endPiece (s : State) : State := s.setEve { s.eve with current := none }

/-- The final epoch, from the concluding figures (R156; notes/assumptions/11.md). Whether the schedule has stopped is tested
when the figures are handed (DESIGN CHOICE; notes/assumptions/49.md). -/
def finalEpoch (s : State) (epoch quarters : Nat) : Option Nat :=
  if quarters ≠ 0 then some epoch
  else if s.ret.schedule = .stopped then some Config.maxEpoch
  else if epoch = s.ret.firstEpoch ∨ epoch = 0 then none
  else some (epoch - 1)

/-- The concluding figures reach the conclusion, which has the door monitor close (R101, R157). -/
def concludingFigures (epoch quarters draw : Nat) (s : State) : State :=
  match s.rqs.service with
  | some (.conclude reader tag (.closing _)) =>
    let final := finalEpoch s epoch quarters
    let s := closeForConclusion draw final s
    s.setRqs { s.rqs with service := some (.conclude reader tag (.draining final)) }
  | _ => s

/-- R98, steps 2 to 4 -/
def finishOrdinary (r : CloseEnd) (s : State) : State :=
  let s := if r.inEpisode then drawReport r.epoch r.draw s else s
  let s := takeContent ⟨r.epoch, r.air, r.fit⟩ s
  endPiece (startStall (activeStall s) s)

def finishClose (r : CloseEnd) (s : State) : State :=
  if r.quarters = 4 then finishOrdinary r s else endPiece (concludingFigures r.epoch r.quarters r.draw s)

def Piece.isOrdinary : Piece → Bool
  | .ordinary _ => true
  | .partialClose _ => false
  | .restoration _ _ => false
  | .lateRefusal => false

/-- The piece that waits for a mark is a close. -/
def Continuation.isClose : Continuation → Bool
  | .offerEpoch _ _ => true
  | .endClose _ => true
  | .offerGap _ _ => false
  | .gaps _ => false
  | .done => false

/-- An ordinary close is still to be taken, or a close waits for its marks. -/
def closesLeft (e : Eve) : Bool := e.work.any Piece.isOrdinary || e.current.any fun w => w.next.isClose

/-- Third row of R156: with the ordinary closes finished and the three requests answered, the figures do not wait for a view
that will not come (notes/assumptions/36.md). -/
def lateConcluding (s : State) : State :=
  if !closesLeft s.eve && s.ptb.viewTaken && !s.dmn.taking then
    match s.eve.inputs.find? fun c => (c.readings.map EpochReadings.quarters) == some 0 && c.joined.isNone with
    | some c => concludingFigures c.epoch 0 0 s
    | none => s
  else s

/-! ### Entries offered by a piece (R97, R100, R103) -/

/-- The EPOCH entry is offered; a refusal raises the verdict to UNPROVEN (R97, R98, R100). -/
def offerEpoch (e : EpochEntry) (r : CloseEnd) (s : State) : State :=
  let o := offer (.epoch { e with verdict := s.eve.verdict }) s
  if o.2 then finishClose r o.1
  else
    let q := raise .unproven (.endClose r) o.1
    if q.2 then finishClose r q.1 else q.1

/-- A GAP entry is offered; the flag says that the piece goes on at once. -/
def offerGap (g : GapEntry) (rest : List GapEntry) (s : State) : State × Bool :=
  let o := offer (.gap { g with verdict := s.eve.verdict }) s
  if o.2 then (o.1, true) else raise .unproven (.gaps rest) o.1

/-- The run after a GAP (R103, R104). -/
def gapRun (run : Nat) : Option Nat → Nat
  | some n => satAdd Config.maxRun run n
  | none => Config.maxRun

/-- The candidate of a GAP (R103, R104). -/
def gapCandidate (allowance run : Nat) : Option Nat → Verdict
  | some _ => if allowance < run then .unproven else .intact
  | none => .unproven

/-- The GAP entries still to compose, in epoch order (R103, R104). -/
def runGaps : List GapEntry → State → State
  | [], s => endPiece s
  | g :: rest, s =>
    let run := gapRun s.eve.run g.count
    let g := { g with run := run }
    let r := raise (gapCandidate s.cmr.gapAllowance run g.count) (.offerGap g rest) (s.setEve { s.eve with run := run })
    if r.2 then
      let o := offerGap g rest r.1
      if o.2 then runGaps rest o.1 else o.1
    else r.1

/-- A piece goes on once its marks are set (R95). -/
def runContinuation (c : Continuation) (s : State) : State :=
  match c with
  | .offerEpoch e r => offerEpoch e r s
  | .endClose r => finishClose r s
  | .offerGap g rest =>
    let o := offerGap g rest s
    if o.2 then runGaps rest o.1 else o.1
  | .gaps rest => runGaps rest s
  | .done => endPiece s

/-! ### The pieces (R86) -/

/-- A close, ordinary or of q from 1 to 3 quarters (R87 to R98, R101). -/
def runClose (j : Joined) (s : State) : State :=
  let k := computeClose s.cmr s.eve j
  let r := raise k.entry.verdict (.offerEpoch k.entry k.rest) (s.setEve k.eve)
  if r.2 then offerEpoch k.entry k.rest r.1 else r.1

/-- A partial close; with q = 0 it changes no figure and composes no entry (R101). -/
def runPartial (j : Joined) (s : State) : State :=
  if j.readings.quarters = 0 then endPiece (concludingFigures j.epoch 0 0 s) else runClose j s

/-- The reaction to a late refusal (R100). -/
def runLateRefusal (s : State) : State :=
  let r := raise .unproven .done s
  if r.2 then endPiece r.1 else r.1

/-! ### The restoration (R102 to R104) -/

/-- The run and verdict the last coverage entry carries. -/
def coverageStanding : Option Entry → Nat × Verdict
  | some (.epoch e) => (e.run, e.verdict)
  | some (.run e) => (0, e.verdict)
  | some (.gap e) => (e.run, e.verdict)
  | some (.leg _) => (0, .intact)
  | some (.door _) => (0, .intact)
  | some (.checkpoint _) => (0, .intact)
  | some (.conclude _) => (0, .intact)
  | none => (0, .intact)

/-- A final figure that reads whole, or what stands in its place (R102, R158). -/
def figureOr (c : Cmr) (i other : Nat) : Nat :=
  if c.figureWhole i then c.number (figureAddress i) (figureWidth i) else other

/-- R102's table; the station state, the inputs and the work list are as they are. -/
def restoredEve (c : Cmr) (e : Eve) (station : Station) (f : Facts) : Eve :=
  let account := f.lastAccount.getD (0, 0)
  let standing := coverageStanding f.lastCoverage
  let build (exposure drawn run : Nat) (last : Verdict) (working : Verdict) : Eve :=
    { e with
      exposure := exposure
      drawn := drawn
      run := run
      verdict := working
      committedExposure := exposure
      committedDrawn := drawn
      lastVerdict := last
      suspect := false
      discord := 0
      concord := 0 }
  match station with
  | .blank => build 0 0 0 .intact .intact
  | .dormant => build 0 0 0 .intact .intact
  | .active => build account.1 account.2 standing.1 standing.2 (standing.2.higher c.highestMark)
  | .concluded =>
    let last := if c.figureWhole 1 then standing.2.higher (Verdict.ofCode (c.number 54 1)) else standing.2
    build (figureOr c 2 account.1) (figureOr c 3 account.2) standing.1 last (last.higher c.highestMark)

/-- The cause a GAP entry carries (R103, R104). -/
def GapCause.ofRestart : RestartCause → GapCause
  | .firstPower => .brownout
  | .brownout => .brownout
  | .stall => .stall
  | .retentionLost => .retentionLost

/-- The GAP entries of a stretch of known length: 65,535 epochs each, the remainder last (R103). -/
def knownGaps (first count : Nat) (cause : GapCause) : List GapEntry :=
  (List.range ((count + Config.maxRun - 1) / Config.maxRun)).map fun i =>
    { first := first + i * Config.maxRun
      count := some (min Config.maxRun (count - i * Config.maxRun))
      cause := cause
      run := 0
      verdict := .intact }

/-- The GAP entries a finding asks for, run and verdict still open (R103, R104). -/
def gapsOf (r : Report) (f : Facts) : List GapEntry :=
  let first := match f.lastCovered with
    | some p => p + 1
    | none => 0
  match r.station, r.finding with
  | .active, .count n => knownGaps first n (GapCause.ofRestart r.cause)
  | .active, .unknown => [⟨first, none, .retentionLost, 0, .intact⟩]
  | _, _ => []

/-- The restoration, with the GAP entries it composes (R102 to R104). -/
def runRestoration (r : Report) (f : Facts) (s : State) : State :=
  runGaps (gapsOf r f) (s.setEve (restoredEve s.cmr s.eve r.station f))

/-- The head of the work list, when EVE can take a piece (R86; notes/assumptions/40.md). -/
def nextPiece (s : State) : Option Piece :=
  if running s && s.eve.current.isNone && s.cmr.program == .none then s.eve.work.head? else none

/-- The work list without its head. -/
def takePiece (s : State) : State := s.setEve { s.eve with work := s.eve.work.tail }

/-! ### Fates of entries (R99, R100) -/

/-- JST reports a coverage entry. -/
def coverageFate (programmed : Bool) (e : Entry) (s : State) : State :=
  if programmed then
    match e with
    | .epoch x => s.setEve
        { s.eve with committedExposure := x.exposure, committedDrawn := x.drawn, lastVerdict := x.verdict }
    | .gap x => s.setEve { s.eve with lastVerdict := x.verdict }
    | .run _ => s
    | .leg _ => s
    | .door _ => s
    | .checkpoint _ => s
    | .conclude _ => s
  else s.setEve { s.eve with work := s.eve.work ++ [.lateRefusal] }

end Sys2Proof.Machine
end

