-- ==== Sys2Proof/Machine/Service.lean ====
section
/-! DEFINITION. The request service's operations (chapters 09, 10): replies, the steps of a checkpoint and of a conclusion,
activation, and what the fate of an entry brings about. Machine/Requests.lean has its commands. -/

namespace Sys2Proof.Machine

def setService (x : Option Service) (s : State) : State := s.setRqs { s.rqs with service := x }

/-- A request refused: code and status alone (R165, R183). -/
def refuse (reader : PartyId) (code : Byte) (st : Status) (s : State) : State := sendReply reader (.status code st) s

/-- A request in service completes with its reply (R164). -/
def complete (reader : PartyId) (r : Reply) (s : State) : State := sendReply reader r (setService none s)

/-! ### Status (R71, R146, R172) -/

/-- R146 -/
def reportedPhase (s : State) : ReportedPhase :=
  if s.jst.job.stopped then .stopped
  else match s.jst.job.phase with
    | .none => if s.jst.job.cleanup.isSome then .cleanup else .idle
    | .planning => .planning
    | .allocate => .allocate
    | .copy => .copy
    | .commit => .commit
    | .erase1 => .erase1
    | .erase2 => .erase2

/-- The store condition reported: in CONCLUDED as R126 gives it (R121, R163; notes/assumptions/25.md). -/
def reportedFull (s : State) : Bool :=
  if s.eve.station = .concluded then blankCount s == 0 else s.jst.condition == .journalFull

/-- The current epoch, while ACTIVE and RUNNING (R19, R172). -/
def reportedEpoch (s : State) : Option Nat :=
  if s.eve.station = .active ∧ s.ret.schedule = .running then some s.ret.epoch else none

/-- R172 -/
def statusReply (s : State) : StatusReply where
  id := s.cmr.stationId
  state := reportedState s
  verdict := committedVerdict s
  exposure := s.eve.committedExposure
  drawn := s.eve.committedDrawn
  epoch := reportedEpoch s
  run := s.eve.run
  leg := s.ptb.leg
  coLocated := (coLocated s.ptb.peers).length
  suspect := s.eve.suspect
  probe := s.tch.condition
  journalFull := reportedFull s
  blanks := blankCount s
  phase := reportedPhase s
  suspended := s.jst.job.suspended.isSome
  cause := s.tmb.lastCause
  restarts := s.ret.restarts
  figures := if s.eve.station = .concluded then some (Memory.readBytes s.cmr.consignment 50 13) else none

/-- R71: the records stand most recently heard first. -/
def peersReply (s : State) : PeersReply where
  leg := s.ptb.leg
  turnover := s.ptb.turnover.map Turnover.leg
  founders := s.ptb.founders
  records := s.ptb.peers.reverse

/-! ### Fragments (R165, R173, R176 to R178) -/

/-- The status line of a fragment (R177). -/
def statusLine (s : State) (g : Fragment) (c : Cursor) : StatusLine where
  state := reportedState s
  verdict := committedVerdict s
  entries := g.entries.length
  more := g.more
  cursorEpoch := c.epoch

/-- The fragment answers a READ-ON. -/
def Asked.on : Asked → Bool
  | .read _ => false
  | .readOn => true

/-- A fragment without an entry is answered RANGE: a READ taken in DORMANT or CONCLUDED (R166, R173). -/
def Asked.emptyIsRange : Asked → Bool
  | .read station => station == .dormant || station == .concluded
  | .readOn => false

/-- The fragment has been composed (R173, R176 to R178). -/
def finishFragment (c : Cursor) (asked : Asked) (start : Nat) (seen : Option Nat) (s : State) : State :=
  let g := composeFragment (walked seen (journal s)) c start
  if g.entries.isEmpty && asked.emptyIsRange then complete c.owner (.status codeRead .range) s
  else
    let moved := { c with position := g.position }
    complete c.owner (.fragment asked.on (statusLine s g moved) g.entries) (s.setRqs { s.rqs with cursor := some moved })

/-- The byte program that a composed fragment waited for has ended: its status line is read now (R165). -/
def fragmentStage (s : State) : State :=
  match s.rqs.service with
  | some (.statusLine c asked start seen) =>
    if s.cmr.program = .none then finishFragment c asked start (some seen) s else s
  | _ => s

/-! ### Activation (R21, R62, R80, R84) -/

/-- The door monitor and the peer table begin the trip, with no conversion taken yet (R13, R62, R80). An episode opened while
a commissioning waited for its OPEN segment is dropped (DESIGN CHOICE; notes/assumptions/45.md). -/
def activateBlocks (s : State) : State :=
  let s := s.setTch { s.tch with probe := .pending, air := .pending }
  let s := activatePeers s
  openAtLight 0 (s.setDmn { s.dmn with episode := none, closing := none })

/-- An OPEN segment is asked for, unless one is (R111). -/
def askOpen (why : AllocWhy) (s : State) : State :=
  if (openSeg s).isSome then s else s.setJst { s.jst with wantOpen := some why }

/-- The last step of a commissioning with start delay 0 (R170). -/
def finishOpening (s : State) : State :=
  match s.rqs.service with
  | some (.opening reader adjusted) =>
    let s := activateBlocks s
    complete reader (.commission (reportedState s) adjusted) s
  | _ => s

/-! ### Checkpoints (R150 to R152) -/

/-- The entry of a checkpoint, composed now (R152). -/
def checkpointEntry (number epoch : Nat) (reader : PartyId) (s : State) : CheckpointEntry where
  number := number
  epoch := epoch
  reader := reader
  verdict := committedVerdict s
  exposure := s.eve.committedExposure

/-- The checkpoint's reply (R152). -/
def checkpointReply (c : CheckpointEntry) (recorded : Bool) (newly failed : Nat) : Reply :=
  .checkpoint c.number c.epoch c.verdict c.exposure recorded newly failed

/-- Step 4: the entry is composed and offered; a refusal completes the request (R152). -/
def offerCheckpoint (reader : PartyId) (number epoch newly failed : Nat) (s : State) : State :=
  let c := checkpointEntry number epoch reader s
  let o := offer (.checkpoint c) s
  if o.2 then setService (some (.checkpoint reader number epoch (.entry c.verdict c.exposure newly failed))) o.1
  else complete reader (checkpointReply c false newly failed) o.1

/-- The checkpoint entry's fate is known (R152). -/
def checkpointFate (recorded : Bool) (s : State) : State :=
  match s.rqs.service with
  | some (.checkpoint reader number epoch (.entry verdict exposure newly failed)) =>
    complete reader (.checkpoint number epoch verdict exposure recorded newly failed) s
  | _ => s

/-! ### Conclusion (R155 to R161) -/

/-- The temperature channels take the request for partial readings (R10, R11). -/
def requestReadings (s : State) : State :=
  let converting := (s.tch.probe.slots ++ s.tch.air.slots).any (· == .converting)
  let s := s.setTch { s.tch with taking := false, partialWaiting := converting }
  if converting then s else handReadings s.tch.readings s

/-- The peer table takes the request for the close view of the epoch in progress (R67). -/
def requestView (s : State) : State :=
  handView (conclusionKey s) (closeView s.ret.epoch s.ptb) (s.setPtb { s.ptb with viewTaken := true })

/-- The door monitor takes the request for the door view of the epoch in progress (R81). -/
def requestDoor (s : State) : State :=
  handDoor (conclusionKey s) (doorView s.ret.epoch s.dmn) (s.setDmn { s.dmn.viewed with taking := false })

/-- The blocks named take their requests, in R155's order. -/
def takeRequests (blocks : Overtaken) (s : State) : State :=
  let s := if blocks.readings then requestReadings s else s
  let s := if blocks.view then requestView s else s
  if blocks.door then requestDoor s else s

/-- The blocks that take an epoch end before the conclusion's request: none, where the quarter in progress ends no epoch
(R155; notes/assumptions/36.md). -/
def overtakenNow (env : Env) (s : State) : Overtaken :=
  if s.ret.schedule = .running ∧ s.ret.quarter = 4 then env.overtaken else ⟨false, false, false⟩

/-- Consolidation has been dealt with: the other requests follow (R155). -/
def beginClosing (env : Env) (left : Leftover) (reader : PartyId) (tag : List Byte) (s : State) : State :=
  let late := overtakenNow env s
  takeRequests ⟨!late.readings, !late.view, !late.door⟩
    (setService (some (.conclude reader tag (.closing late))) (settleShort (stopConsolidation left s)))

/-- The epoch end has been taken: the requests it overtook follow (R11, R67, R81, R155). -/
def lateRequests (s : State) : State :=
  match s.rqs.service with
  | some (.conclude reader tag (.closing late)) =>
    takeRequests late (setService (some (.conclude reader tag (.closing ⟨false, false, false⟩))) s)
  | _ => s

/-- The conclusion mark's program begins (R158). -/
def beginMark (reader : PartyId) (tag : List Byte) (f : FinalFigures) (s : State) : State :=
  (setService (some (.conclude reader tag (.mark f))) s).setCmr { s.cmr with program := .conclusionMark }

/-- A coverage entry waits in the append queue (R157). -/
def coverageWaits (s : State) : Bool := s.jst.queue.any Entry.covers

/-- The final figures, composed now (R157). -/
def finalFigures (epoch : Option Nat) (s : State) : FinalFigures where
  epoch := epoch
  verdict := committedVerdict s
  exposure := s.eve.exposure
  drawn := s.eve.drawn
  restarts := s.ret.restarts

/-- The final figures are composed, and the conclusion mark is due, where no byte program is in progress (R157, R165). -/
def figuresStage (s : State) : State :=
  match s.rqs.service with
  | some (.conclude reader tag (.composing epoch)) =>
    if s.cmr.program = .none then setService (some (.conclude reader tag (.mark (finalFigures epoch s)))) s else s
  | _ => s

/-- The final figures of a DORMANT station (R161). -/
def dormantFigures (s : State) : FinalFigures where
  epoch := none
  verdict := .intact
  exposure := 0
  drawn := 0
  restarts := s.ret.restarts

/-- The program of a final-figure field begins (R158). -/
def figureProgram (f : FinalFigures) (i : Nat) : CrProgram := .figure i (figureAddress i) (f.bytes i)

/-- The station becomes CONCLUDED and the reply is handed over (R19, R47, R85, R111, R160). The committed exposure and drawn
are taken from the record, where they read whole; the last committed verdict and the reply take the figures as composed,
whether or not their fields read whole (DESIGN CHOICE; notes/assumptions/60.md). -/
def becomeConcluded (reader : PartyId) (f : FinalFigures) (recorded : Bool) (locked failed : Nat) (s : State) : State :=
  let s := match openSeg s with
    | some i => putStatus i .full s
    | none => s
  let s := s.setRet
    { s.ret with
      schedule := .stopped
      countdown := match s.ret.countdown with
        | .counting _ _ => .halted
        | .idle => .idle
        | .expired => .expired
        | .halted => .halted }
  let s := (s.setTmb { s.tmb with stall := none }).setChc s.chc.conclude
  let s := s.setEve
    { s.eve with
      station := .concluded
      committedExposure := figureOr s.cmr 2 s.eve.committedExposure
      committedDrawn := figureOr s.cmr 3 s.eve.committedDrawn
      lastVerdict := s.eve.lastVerdict.higher f.verdict
      inputs := [] }
  complete reader (.conclude f recorded locked failed) s

/-! ### Fates (R118) -/

/-- JST reports the fate of an entry other than CHECKPOINT and CONCLUDE (R118). -/
def blockFate (programmed : Bool) (e : Entry) (s : State) : State :=
  match e with
  | .epoch _ => coverageFate programmed e s
  | .gap _ => coverageFate programmed e s
  | .leg x => settleLeg x programmed s
  | .run _ => s
  | .door _ => s
  | .checkpoint _ => s
  | .conclude _ => s

/-- An entry program is in progress (R105). -/
def programmingEntry (s : State) : Bool :=
  match s.jst.access with
  | .entry _ _ => true
  | _ => false

/-- The frozen flag becomes set: every entry still waiting is refused and reported, but for a head whose program is in
progress (R122; notes/assumptions/24.md). -/
def freeze (s : State) : State :=
  let kept := if programmingEntry s then s.jst.queue.take 1 else []
  let refused := if programmingEntry s then s.jst.queue.tail else s.jst.queue
  let s := s.setJst { s.jst with queue := kept, frozen := true }
  refused.foldl (fun s e => blockFate false e s) s

/-- The CONCLUDE entry's fate is known: the store freezes and the lock marks follow (R159, R160). -/
def concludeFate (recorded : Bool) (s : State) : State :=
  match s.rqs.service with
  | some (.conclude reader tag (.entry f)) =>
    freeze (setService (some (.conclude reader tag (.locking f recorded [] false 0 0))) s)
  | _ => s

/-- The CONCLUDE entry is composed and offered (R159). -/
def offerConclude (reader : PartyId) (tag : List Byte) (f : FinalFigures) (s : State) : State :=
  let o := offer (.conclude ⟨f, reader, tag, f.epoch.getD s.ret.epoch⟩) s
  let s := setService (some (.conclude reader tag (.entry f))) o.1
  if o.2 then s else concludeFate false s

/-! ### The programs of the commission record (R95, R158) -/

/-- The program of a conclusion that is due (R158). -/
def conclusionDue (s : State) : Option CrProgram :=
  match s.rqs.service with
  | some (.conclude _ _ (.mark _)) => some .conclusionMark
  | some (.conclude _ _ (.figure f i)) => if i < 5 then some (figureProgram f i) else none
  | _ => none

/-- The verdict mark that the piece under way waits for (R95). -/
def markDue (e : Eve) : Option Verdict := e.current.bind fun w => w.marks.head?

/-- With all its figures programmed a conclusion offers its entry (R159). -/
def recordDone (s : State) : State :=
  match s.rqs.service with
  | some (.conclude reader tag (.figure f _)) => offerConclude reader tag f s
  | _ => s

/-- With no program in progress the commission record takes the next: a verdict mark or a conclusion's, in the order drawn
where both are due (R158). With neither due a conclusion goes on to its entry, which waits for the verdict marks (DESIGN
CHOICE; notes/assumptions/59.md). -/
def nextProgram (env : Env) (mark : Option Verdict) (s : State) : State :=
  if s.cmr.program = .none then
    let marks := mark.map CrProgram.verdictMark
    match if env.conclusionFirst then (conclusionDue s).or marks else marks.or (conclusionDue s) with
    | some p => s.setCmr { s.cmr with program := p }
    | none => recordDone s
  else s

/-- JST reports the fate of an accepted entry to its block (R118). -/
def reportFate (programmed : Bool) (e : Entry) (s : State) : State :=
  match e with
  | .epoch _ => blockFate programmed e s
  | .gap _ => blockFate programmed e s
  | .leg _ => blockFate programmed e s
  | .run _ => blockFate programmed e s
  | .door _ => blockFate programmed e s
  | .checkpoint _ => checkpointFate programmed s
  | .conclude _ => concludeFate programmed s

/-- Every entry in the queue is refused and reported (R120, R121). -/
def refuseQueue (s : State) : State :=
  s.jst.queue.foldl (fun s e => reportFate false e s) (s.setJst { s.jst with queue := [], secondTry := false })

end Sys2Proof.Machine
end

