-- ==== Sys2Proof/Machine/Pump.lean ====
section
/-! DEFINITION. What takes the array when it is free (R105, R115, R116, R120, R121, R126, R135, R141, R151, R160), and what
every command ends with. -/

namespace Sys2Proof.Machine

def arrayFree (s : State) : Bool := s.jst.access == .none

/-! ### The OPEN segment (R109, R111, R126) -/

/-- No OPEN segment can be allocated (R121, R126; notes/assumptions/32.md). -/
def openFailed (why : AllocWhy) (s : State) : State :=
  let s := s.setJst { s.jst with wantOpen := none }
  match why with
  | .startUp => refuseQueue (fillStore s)
  | .commissioning => finishOpening s
  | .activation => s
  | .rollover => s
  | .target => s

def openStage (s : State) : State :=
  match s.jst.wantOpen with
  | some why =>
    if arrayFree s then
      match planOpen s with
      | some (i, f) => setAccess (.alloc why i f) s
      | none => openFailed why s
    else s
  | none => s

/-! ### The head of the append queue (R115, R116) -/

/-- An entry fits at the fill of a segment (R116). -/
def Segment.fits (g : Segment) (e : Entry) : Bool := decide (g.fill + e.size ≤ Config.slotsPerSegment + 1)

/-- A rollover: an allocation, or SHORT or JOURNAL-FULL (R116, R119 to R121). -/
def rollover (s : State) : State :=
  match planOpen s with
  | some (i, f) => setAccess (.alloc .rollover i f) s
  | none =>
    if canFree s then refuseQueue (s.setJst { s.jst with condition := .short })
    else refuseQueue (fillStore s)

def headStage (s : State) : State :=
  match s.jst.queue with
  | e :: _ =>
    if arrayFree s then
      match (openSeg s).filter fun i => (segAt s i).fits e with
      | some i => setAccess (.entry i (segAt s i).fill) s
      | none => rollover s
    else s
  | [] => s

/-! ### Reads and marks (R151, R160, R180) -/

/-- A fragment's array reads: its walk begins, and where the reads come before a waiting append, ends too (R115, R175,
R180; notes/assumptions/16.md). -/
def readStage (first : Bool) (s : State) : State :=
  match s.rqs.service with
  | some (.fragment c on start none) =>
    if arrayFree s then
      setService (some (.fragment c on (some (start.getD (walkStart (journal s) c)))
        (if first && !s.jst.queue.isEmpty then some (journal s).length else none))) s
    else s
  | _ => s

/-- The next live segment to protect (R151). -/
def nextProtect (s : State) (tried : List Nat) : Option Nat :=
  (liveMap s).find? fun i => (segAt s i).header.protection == .clear && !tried.contains i

/-- The next live segment to lock (R160). -/
def nextLock (s : State) (tried : List Nat) : Option Nat := (liveMap s).find? fun i => !tried.contains i

/-- The live map holds no segment still to protect, and no protection mark program is in progress (R151). -/
def marksDone (s : State) (tried : List Nat) : Bool :=
  (nextProtect s tried).isNone && (match s.jst.access with
    | .protectMark _ => false
    | _ => true)

/-- Step 4 of a checkpoint: the entry is offered at once, or when the byte program in progress in the commission record,
which the entry reads, has ended (R150, R152, R165). -/
def composeCheckpoint (reader : PartyId) (number epoch newly failed : Nat) (s : State) : State :=
  if s.cmr.program = .none then offerCheckpoint reader number epoch newly failed s
  else setService (some (.checkpoint reader number epoch (.composing newly failed))) s

/-- Step 4 begins when the marks are done, and does not go back to them (R150, R151). -/
def checkpointStage (s : State) : State :=
  match s.rqs.service with
  | some (.checkpoint reader number epoch (.marking tried _ newly failed)) =>
    if marksDone s tried then composeCheckpoint reader number epoch newly failed s else s
  | some (.checkpoint reader number epoch (.composing newly failed)) =>
    composeCheckpoint reader number epoch newly failed s
  | _ => s

/-- The marks of a checkpoint or of a conclusion (R151, R160). -/
def markStage (s : State) : State :=
  if arrayFree s then
    match s.rqs.service with
    | some (.checkpoint _ _ _ (.marking tried _ _ _)) =>
      match nextProtect s tried with
      | some i => setAccess (.protectMark i) s
      | none => s
    | some (.conclude reader _ (.locking f recorded tried _ locked failed)) =>
      match nextLock s tried with
      | some i => setAccess (.lockMark i) s
      | none => becomeConcluded reader f recorded locked failed s
    | _ => s
  else s

/-! ### Consolidation (R134 to R141, R145) -/

/-- The service leaves the store to consolidation: no read and no mark program (R135), and no conclusion (R144). -/
def serviceClear (s : State) : Bool :=
  match s.rqs.service with
  | none => true
  | some (.commission _ _ _ _) => true
  | some (.opening _ _) => true
  | some (.fragment _ _ _ _) => false
  | some (.statusLine _ _ _ _) => false
  | some (.checkpoint _ _ _ .dealing) => false
  | some (.checkpoint _ _ _ (.marking tried _ _ _)) => marksDone s tried
  | some (.checkpoint _ _ _ (.composing _ _)) => true
  | some (.checkpoint _ _ _ (.entry _ _ _ _)) => true
  | some (.conclude _ _ _) => false

/-- The store is clear for consolidation, and the array is free (R135). -/
def clearForJob (s : State) : Bool :=
  arrayFree s && s.jst.queue.isEmpty && serviceClear s && !s.jst.frozen && !s.jst.job.stopped

/-- Two adjacent segments of the live map. -/
def pairAt (s : State) (k : Nat) : Option (Nat × Nat) :=
  match (liveMap s)[k]?, (liveMap s)[k + 1]? with
  | some a, some b => some (a, b)
  | _, _ => none

/-- A segment that may be a source: FULL and without a mark (R134). -/
def sourceable (s : State) (i : Nat) : Bool := statusAt s i == .full && !(segAt s i).header.marked

def isCandidate (s : State) (k : Nat) : Bool :=
  match pairAt s k with
  | some (a, b) => sourceable s a && sourceable s b
  | none => false

/-- The first candidate pair from a place of the live map on (R134). -/
def nextPair (s : State) (start : Nat) : Option Nat :=
  (List.range Config.segments).find? fun k => decide (start ≤ k) && isCandidate s k

/-- The allocation of the target (R136). -/
def planTarget (s : State) : Option (Nat × AllocFields) :=
  match s.jst.job.first, s.jst.job.second, nextBlank s with
  | some (a, sa), some (_, sb), some i => some (i, ⟨s.jst.nextSeq, (segAt s a).span, some (sa, sb)⟩)
  | _, _, _ => none

/-- An erase begins; a marked segment is never erased (R122, R139, R145). -/
def beginErase (i : Nat) (a : Access) (s : State) : State :=
  if (segAt s i).header.marked then s else setAccess a (putStatus i .erasing s)

def eraseSource (source : Option (Nat × Nat)) (s : State) : State :=
  match source with
  | some (i, _) => beginErase i (.sourceErase i) s
  | none => s

/-- The suspended step resumes (R141). -/
def resume (step : Suspended) (s : State) : State :=
  s.setJst
    { s.jst with
      job := { s.jst.job with suspended := none }
      access := match step with
        | .page => .pageProgram
        | .sourceErase i => .sourceErase i
        | .cleanupErase i => .cleanupErase i }

/-- The next step of the job, or of the cleanup (R134 to R139, R145). -/
def jobStep (s : State) : State :=
  let j := s.jst.job
  match j.phase with
  | .none => match j.cleanup with
    | some t => beginErase t (.cleanupErase t) s
    | none => s
  | .planning =>
    if j.reading then setAccess .pageRead s
    else match nextPair s j.walkAt with
      | some k => setAccess .pageRead (setJob { j with walkAt := k, pagesRead := 0, reading := true } s)
      | none => settleShort (endJob j.cleanup s)
  | .allocate => match planTarget s with
    | some (i, f) => setAccess (.alloc .target i f) s
    | none => settleShort (endJob none s)
  | .copy => if j.composed then setAccess .pageProgram s else setAccess .pageRead s
  | .commit => setAccess .commitMark s
  | .erase1 => eraseSource j.first s
  | .erase2 => eraseSource j.second s

def jobStage (s : State) : State :=
  if clearForJob s then
    match s.jst.job.suspended with
    | some step => resume step s
    | none => jobStep s
  else s

/-! ### The end of a command -/

/-- One turn: a checkpoint's entry, the OPEN segment, the append head and a fragment's reads in the order drawn, marks,
consolidation. An entry whose first attempt has failed is programmed again before the next read (R115). -/
def turn (env : Env) (s : State) : State :=
  let s := openStage (checkpointStage s)
  let s := if env.readFirst && !s.jst.secondTry then readStage true s else s
  jobStage (markStage (readStage false (headStage s)))

/-- The array's next access, and the transmitter's. A first turn may offer an entry, which the second places. -/
def settle (env : Env) (s : State) : State :=
  if running s then kick env (turn env (turn env s)) else s

/-- DISCOVERs that waited for a byte program are answered when it has ended (R167; notes/assumptions/27.md). -/
def answerDiscovers (env : Env) (s : State) : State :=
  s.rqs.discovers.foldl (fun s reader => holdDiscover env.discovery.val reader s)
    (s.setRqs { s.rqs with discovers := [] })

end Sys2Proof.Machine
end

