-- ==== Sys2Proof/Machine/Closes.lean ====
section
/-! DEFINITION. The commands of the evidence engine: its pieces of work, and the end of a verdict mark's program. -/

namespace Sys2Proof.Machine

/-- RESTART_RESTORATION (R102) -/
def execRestartRestoration (env : Env) (s : State) : Host.Outcome State Fault Refusal :=
  done <| match nextPiece s with
    | some (.restoration r f) => settle env (runRestoration r f (takePiece s))
    | some (.ordinary _) => s
    | some (.partialClose _) => s
    | some .lateRefusal => s
    | none => s

/-- ORDINARY_CLOSE (R98) -/
def execOrdinaryClose (env : Env) (s : State) : Host.Outcome State Fault Refusal :=
  done <| match nextPiece s with
    | some (.ordinary j) => settle env (lateConcluding (runClose j (takePiece s)))
    | some (.restoration _ _) => s
    | some (.partialClose _) => s
    | some .lateRefusal => s
    | none => s

/-- PARTIAL_CLOSE (R101) -/
def execPartialClose (env : Env) (s : State) : Host.Outcome State Fault Refusal :=
  done <| match nextPiece s with
    | some (.partialClose j) => settle env (runPartial j (takePiece s))
    | some (.ordinary _) => s
    | some (.restoration _ _) => s
    | some .lateRefusal => s
    | none => s

/-- LATE_REFUSAL (R100) -/
def execLateRefusal (env : Env) (s : State) : Host.Outcome State Fault Refusal :=
  done <| match nextPiece s with
    | some .lateRefusal => settle env (lateConcluding (runLateRefusal (takePiece s)))
    | some (.ordinary _) => s
    | some (.partialClose _) => s
    | some (.restoration _ _) => s
    | none => s

/-- A mark reads set: the next one is due, or the working verdict takes the new level and the piece goes on. -/
def markIsSet (w : Waiting) (s : State) : State :=
  match w.marks.tail with
  | m :: ms => s.setEve { s.eve with current := some { w with marks := m :: ms } }
  | [] => lateConcluding (runContinuation w.next (s.setEve { s.eve with current := none, verdict := w.target }))

/-- VERDICT_MARK_PROGRAMMED (R95): the mark is read back, and programmed again for as long as it reads clear. A checkpoint,
a fragment and a conclusion that wait to read the commission record read it between two byte programs (R165); so their
entry and reply are offered before the entry and the note of the piece that goes on (DESIGN CHOICE;
notes/assumptions/52.md). -/
def execVerdictMarkProgrammed (miss : Byte) (env : Env) (s : State) : Host.Outcome State Fault Refusal :=
  done <|
    match running s, s.cmr.program, s.eve.current with
    | true, .verdictMark v, some w =>
      let a := verdictMarkAddress v
      let s := fragmentStage (checkpointStage (figuresStage
        (s.setCmr { s.cmr with consignment := Memory.program s.cmr.consignment a 0x00 miss, program := .none })))
      settle env (answerDiscovers env (if s.cmr.markSet a then nextProgram env w.marks.tail.head? (markIsSet w s)
        else nextProgram env (some v) s))
    | _, _, _ => s

end Sys2Proof.Machine
end

