-- ==== Sys2Proof/Machine/Timebase.lean ====
section
/-! DEFINITION. The commands of the timebase and of the temperature channels: quarter ends, countdown steps, conversions, and
what stops the logic (chapters 01, 02; R123). -/

namespace Sys2Proof.Machine

/-! ### Quarter ends (R3, R17 to R19) -/

/-- The timing part of a quarter end, the same with the logic running and stopped (R16 to R19). After the last numbered
epoch the counter and the quarter index stay (notes/assumptions/12.md). -/
def Retention.quarterEnd (r : Retention) : Retention :=
  match r.schedule with
  | .idle => r
  | .listening => { r with position := 0, quarter := if r.quarter < 4 then r.quarter + 1 else 1 }
  | .running =>
    if r.quarter < 4 then { r with position := 0, quarter := r.quarter + 1 }
    else if r.epoch < Config.maxEpoch then { r with position := 0, quarter := 1, epoch := r.epoch + 1 }
    else { r with position := 0, schedule := .stopped }
  | .stopped => r

/-- Puts a slot state in a quarter's place. -/
def Quad.set (q : Quad) (quarter : Nat) (x : QuarterSlot) : Quad :=
  match quarter with
  | 1 => { q with q1 := x }
  | 2 => { q with q2 := x }
  | 3 => { q with q3 := x }
  | _ => { q with q4 := x }

/-- A quarter end at the temperature channels (R3, R10). -/
def startConversions (quarter : Nat) (s : State) : State :=
  if s.eve.station = .active ∧ s.tch.taking = true then
    s.setTch
      { s.tch with probe := s.tch.probe.set quarter .converting, air := s.tch.air.set quarter .converting }
  else s

/-- An ACTIVE epoch end at the peer table (R59, R60, R67). -/
def epochEndPeers (epoch : Nat) (s : State) : State :=
  if s.ptb.viewTaken then s else closeTable epoch (handView epoch (closeView epoch s.ptb) s)

/-- An ACTIVE epoch end at the door monitor (R77, R78, R81). -/
def epochEndDoor (epoch : Nat) (s : State) : State :=
  if s.dmn.taking then
    let view := doorView epoch s.dmn
    settleEpisode epoch (handDoor epoch view (s.setDmn s.dmn.viewed))
  else s

/-- The epoch end reaches the blocks that work at epoch close (R17), and then the conclusion's requests it overtook
(R155). The peer table takes it before the door monitor, so that a LEG entry (R64) is offered before a DOOR entry (R79)
(DESIGN CHOICE; notes/assumptions/55.md). -/
def epochEnd (env : Env) (epoch : Nat) (s : State) : State :=
  if s.eve.station = .active then
    lateRequests (startSchedule env epoch (epochEndDoor epoch (epochEndPeers epoch s)))
  else s

/-- The stall timer becomes IDLE when the schedule becomes STOPPED (R19, R23). -/
def stopStall (s : State) : State :=
  if s.ret.schedule = .stopped then s.setTmb { s.tmb with stall := none } else s

/-- A quarter end with the logic running (R17, R18). -/
def runningQuarterEnd (env : Env) (s : State) : State :=
  let r := s.ret
  let s := stopStall (s.setRet r.quarterEnd)
  match r.schedule with
  | .idle => s
  | .stopped => s
  | .listening => if r.quarter < 4 then s else if s.eve.station = .dormant then listeningClose s else s
  | .running =>
    let s := startConversions r.quarter s
    if r.quarter < 4 then s else epochEnd env r.epoch s

/-- QUARTER_END (R17). With the logic stopped or in start-up the retention domain alone advances (R16, R27). -/
def execQuarterEnd (env : Env) (s : State) : Host.Outcome State Fault Refusal :=
  done <|
    if running s then
      if s.ret.schedule = .listening ∨ s.ret.schedule = .running then settle env (runningQuarterEnd env s) else s
    else if s.retValid then s.setRet s.ret.quarterEnd
    else s

/-! ### The countdown (R20 to R22) -/

/-- The timing part of a countdown step (R16, R20, R21). -/
def Retention.countdownStep (r : Retention) : Retention :=
  match r.countdown with
  | .counting minutes _ =>
    if minutes ≤ 1 then { r with countdown := .expired, schedule := .running, epoch := 0, quarter := 1, position := 0 }
    else { r with countdown := .counting (minutes - 1) 0 }
  | .idle => r
  | .expired => r
  | .halted => r

def Countdown.isCounting : Countdown → Bool
  | .counting _ _ => true
  | .idle => false
  | .expired => false
  | .halted => false

/-- A conclusion taken in DORMANT holds the countdown while the logic runs (R22; notes/assumptions/51.md). -/
def countdownHeld (s : State) : Bool := s.eve.station == .dormant && concluding s

/-- Start-delay expiry (R21, R62, R80, R84, R111). -/
def startDelayExpiry (s : State) : State :=
  let s := s.setEve (Eve.initial .active 0)
  let s := startStall (activeStall s) (s.setRet { s.ret with firstEpoch := 0 })
  activateBlocks (askOpen .activation s)

/-- COUNTDOWN_STEP (R20). With the logic stopped or in start-up the retention domain steps alone (R16). -/
def execCountdownStep (env : Env) (s : State) : Host.Outcome State Fault Refusal :=
  done <|
    if s.ret.countdown.isCounting then
      if running s then
        if countdownHeld s then s
        else
          let s := s.setRet s.ret.countdownStep
          if s.ret.countdown = .expired then settle env (startDelayExpiry s)
          else s.setTmb { s.tmb with stall := some Config.dormantStall }
      else if s.retValid then
        let r := s.ret.countdownStep
        s.setRet { r with expiredStopped := r.countdown == .expired }
      else s
    else s

/-! ### Conversions (R4 to R11) -/

/-- The first slot that is CONVERTING (notes/assumptions/37.md). -/
def Quad.converting (q : Quad) : Option Nat :=
  if q.q1 = .converting then some 1 else if q.q2 = .converting then some 2
  else if q.q3 = .converting then some 3 else if q.q4 = .converting then some 4 else none

/-- The slot a PROBE outcome leaves, with the probe condition (R4, R6, R7); absent for an AIR outcome. -/
def probeSlot (offset : Int) : Conversion → Option (QuarterSlot × ProbeCondition)
  | .probe raw => some (calibrate offset raw, .connected)
  | .probeOpen => some (.invalid .opened, .opened)
  | .probeShort => some (.invalid .shorted, .shorted)
  | .air _ => none
  | .airFault => none

/-- The slot an AIR outcome leaves (R5, R6); absent for a PROBE outcome. -/
def airSlot (offset : Int) : Conversion → Option QuarterSlot
  | .air raw => some (calibrate offset raw)
  | .airFault => some (.invalid .refFault)
  | .probe _ => none
  | .probeOpen => none
  | .probeShort => none

/-- A conversion completes; absent when none of its channel was in progress (R4, R5, R7). -/
def Tch.convert (t : Tch) (outcome : Conversion) : Option Tch :=
  match probeSlot t.probeOffset outcome, airSlot t.airOffset outcome with
  | some (slot, condition), _ =>
    t.probe.converting.map fun q => { t with probe := t.probe.set q slot, condition := condition }
  | none, some slot => t.air.converting.map fun q => { t with air := t.air.set q slot }
  | none, none => none

/-- The slot holds a completed conversion. -/
def QuarterSlot.converted : QuarterSlot → Bool
  | .valid _ _ => true
  | .invalid _ => true
  | .lost => false
  | .pending => false
  | .converting => false

/-- Both fourth-quarter conversions have completed (R9). -/
def Tch.epochDone (t : Tch) : Bool := t.probe.q4.converted && t.air.q4.converted

/-- Some conversion is still in progress (R10). -/
def Tch.busy (t : Tch) : Bool := t.probe.converting.isSome || t.air.converting.isSome

/-- Readings are handed over: at the close of the epoch, and to a conclusion that waits (R9 to R11). -/
def handOver (s : State) : State :=
  let s := if s.tch.epochDone then
      handReadings ⟨4, s.tch.probe.reading, s.tch.air.reading⟩
        (s.setTch { s.tch with probe := .pending, air := .pending })
    else s
  if s.tch.partialWaiting && !s.tch.busy then
    handReadings s.tch.readings (s.setTch { s.tch with partialWaiting := false })
  else s

/-- CONVERSION_COMPLETE (R4, R5) -/
def execConversionComplete (outcome : Conversion) (env : Env) (s : State) : Host.Outcome State Fault Refusal :=
  done <|
    match running s, s.tch.convert outcome with
    | true, some t => settle env (lateConcluding (handOver (s.setTch t)))
    | _, _ => s

/-! ### What stops the logic (R16, R23, R24, R123) -/

/-- The checkpoint number whose marks are being programmed. -/
def checkpointNumber (s : State) : Nat :=
  match s.rqs.service with
  | some (.checkpoint _ number _ _) => number
  | _ => 0

/-- A header with its allocation fields, commit mark, protection mark or lock mark replaced. -/
def setHeader (i : Nat) (f : Header → Header) (s : State) : State :=
  putSeg i { segAt s i with header := f (segAt s i).header } s

/-- The array access in progress is abandoned, and leaves what it leaves (R123). -/
def interruptAccess (left : Leftover) (s : State) : State :=
  match s.jst.access with
  | .none => s
  | .entry i n => match s.jst.queue with
    | e :: _ => putSeg i ((segAt s i).put n (leftSlots e.slots left.entry)) s
    | [] => s
  | .alloc _ i f => match left.header with
    | .nothing => setHeader i (fun h => { h with alloc := .failing [] }) s
    | .part shown => setHeader i (fun h => { h with alloc := .failing shown }) s
    | .whole => setHeader i (fun h => { h with alloc := .fields f }) s
  | .pageRead => s
  | .pageProgram => putPage (leftSlots (jobPage s) left.page) s
  | .commitMark => match s.jst.job.targetSeg with
    | some t => setHeader t (fun h => { h with commit := h.commit || left.header != .nothing }) s
    | none => s
  | .protectMark i => setHeader i
      (fun h => { h with protection := match left.header with
        | .nothing => h.protection
        | .part _ => .part
        | .whole => .whole (checkpointNumber s) }) s
  | .lockMark i => setHeader i (fun h => { h with lock := h.lock || left.header != .nothing }) s
  | .sourceErase i => eraseSeg i left.erase s
  | .cleanupErase i => eraseSeg i left.erase s
  | .scanErase i => eraseSeg i left.erase s

/-- The bits of a field of `w` bytes, as bytes. -/
def missBytes (w : Nat) (miss : BitVec 32) : List Byte := beBytes w miss.toNat

/-- The commission-record program in progress is abandoned: some bits have changed, some not (R95, R158, R169). -/
def interruptProgram (bits : BitVec 32) (s : State) : State :=
  let m := s.cmr.consignment
  let m := match s.cmr.program with
    | .none => m
    | .verdictMark v => Memory.program m (verdictMarkAddress v) 0x00 (bits.truncate 8)
    | .commissionByte a v => Memory.program m a v (bits.truncate 8)
    | .conclusionMark => Memory.program m conclusionAddress 0x00 (bits.truncate 8)
    | .figure _ a bs => Memory.programBytes m a bs (missBytes bs.length bits)
  s.setCmr { s.cmr with consignment := m, program := .none }

/-- The logic stops: work in progress is abandoned and a frame on air is cut off (R24, R48, R123). -/
def stopLogic (left : Leftover) (s : State) : State :=
  let s := dropSuspended left (interruptAccess left s)
  let s := interruptProgram left.bits (setAccess .none s)
  (s.setChc .initial).setLogic .stopped

/-- A pending cause is latched, unless one is pending already (R23, R24). -/
def latchCause (cause : PendingCause) (s : State) : State :=
  if s.ret.cause = .none then s.setRet { s.ret with cause := cause } else s

/-- STALL_EXPIRY (R23): a timer whose time has run out; one that a completed close has restarted meanwhile does not expire.
The start of the logic that follows is RESTART (notes/assumptions/9.md). -/
def execStallExpiry (left : Leftover) (s : State) : Host.Outcome State Fault Refusal :=
  done <| if running s && s.tmb.stall == some 0 then stopLogic left (latchCause .stall s) else s

/-- BROWNOUT (R24) -/
def execBrownout (left : Leftover) (s : State) : Host.Outcome State Fault Refusal :=
  done <| if s.logic = .stopped then s else stopLogic left (latchCause .brownout s)

/-- RETENTION_LOSS (R16, R24): the items of the retention domain are meaningless from here on
(notes/assumptions/8.md). -/
def execRetentionLoss (left : Leftover) (s : State) : Host.Outcome State Fault Refusal :=
  done <|
    let s := if s.logic = .stopped then s else stopLogic left s
    ((s.setRetValid false).setRet (Config.lostRetention s.free)).setFree (s.free + 1)

end Sys2Proof.Machine
end

