-- ==== Sys2Proof/Machine/Startup.lean ====
section
/-! DEFINITION. The start of the logic: the scan, the restart kind, the restart record, the timebase's table and the restart
report (R12, R25 to R30, R48, R69, R70, R82, R102, R124 to R128, R147, R148, R164, R171). -/

namespace Sys2Proof.Machine

/-! ### The restart kind (R25) -/

/-- R25 -/
inductive Kind where
  | firstPower | kept | lost
  deriving DecidableEq, Repr

/-- The countdown reads EXPIRED. -/
def Countdown.isExpired : Countdown → Bool
  | .expired => true
  | .idle => false
  | .counting _ _ => false
  | .halted => false

/-- One more than the last covered epoch; 0 for P = −1 (R28). -/
def Facts.nextUncovered (f : Facts) : Nat :=
  match f.lastCovered with
  | some p => p + 1
  | none => 0

/-- The retained state agrees with the commission record and the journal (R25). -/
def consistent (c : Cmr) (r : Retention) (f : Facts) : Bool :=
  if !c.commissioned then true
  else if c.concluded then r.schedule == .stopped
  else
    r.countdown.isCounting && !f.entryPresent ||
    r.countdown.isExpired &&
      (decide (f.nextUncovered ≤ r.epoch) || r.schedule == .stopped && r.epoch == Config.maxEpoch)

def restartKind (c : Cmr) (valid : Bool) (r : Retention) (f : Facts) : Kind :=
  if valid then (if consistent c r f then .kept else .lost)
  else if c.commissioned then .lost else .firstPower

/-- The cause a kept restart records; a pending cause of NONE is recorded as BROWNOUT (R25). -/
def PendingCause.recorded : PendingCause → RestartCause
  | .stall => .stall
  | .brownout => .brownout
  | .none => .brownout

/-- The cause recorded; `noted` is the cause taken at the start of the logic (R25, R30). -/
def causeOf (k : Kind) (noted : RestartCause) : RestartCause :=
  match k with
  | .firstPower => .firstPower
  | .lost => .retentionLost
  | .kept => noted

/-- A start with the retention domain VALID takes the pending cause and counts itself at once, so a restart that
interrupts its scan is a restart of its own (R26, R30).  DEDUCED, safe: assumption 42. -/
def noteRestart (s : State) : State :=
  if s.retValid then
    let count := if s.cmr.commissioned then satAdd 255 s.ret.restarts 1 else s.ret.restarts
    (s.setTmb { s.tmb with lastCause := s.ret.cause.recorded }).setRet { s.ret with restarts := count, cause := .none }
  else s

/-- The restart count after start-up; a kept restart was counted by `noteRestart` (R26, R158). -/
def restartCount (k : Kind) (c : Cmr) (r : Retention) (f : Facts) : Nat :=
  match k with
  | .firstPower => 0
  | .kept => if c.commissioned then r.restarts else 0
  | .lost => satAdd 255 (if c.concluded then figureOr c 4 f.gaps else f.gaps) 1

/-! ### The timebase's table (R27 to R29) -/

/-- What start-up decides: the retention domain, the station state, whether it performs activation, and the finding. -/
structure Decision where
  ret : Retention
  station : Station
  activation : Bool
  finding : Finding
  deriving DecidableEq, Repr

def Finding.ofCount (n : Nat) : Finding := if n = 0 then .none else .count n

/-- The missed epochs after a RESTART-KEPT in ACTIVE (R28). -/
def keptFinding (r : Retention) (f : Facts) : Finding :=
  if r.schedule = .stopped then .ofCount (Config.maxEpoch + 1 - f.nextUncovered)
  else .ofCount (r.epoch - f.nextUncovered)

def decideKept (c : Cmr) (r : Retention) (f : Facts) (count : Nat) : Decision :=
  let r := { r with restarts := count, cause := .none }
  if !c.commissioned then ⟨{ Retention.initial with restarts := count }, .blank, false, .none⟩
  else if c.concluded then ⟨{ r with expiredStopped := false }, .concluded, false, .none⟩
  else if r.countdown.isExpired then
    let r' := if r.expiredStopped then { r with firstEpoch := r.epoch, expiredStopped := false } else r
    ⟨r', .active, r.expiredStopped, keptFinding r f⟩
  else ⟨r, .dormant, false, .none⟩

/-- ACTIVE after a RESTART-LOST: the lost stretch takes the number P + 1 (R29). -/
def decideLostActive (f : Facts) (count : Nat) (activation : Bool) : Decision :=
  let next := f.nextUncovered
  let epoch := min Config.maxEpoch (next + 1)
  { ret :=
      { Retention.initial with
        schedule := if Config.maxEpoch ≤ next then .stopped else .running
        epoch := epoch
        countdown := .expired
        restarts := count
        firstEpoch := if activation then epoch else 0 }
    station := .active
    activation := activation
    finding := if Config.maxEpoch < next then .none else .unknown }

def decideLost (c : Cmr) (f : Facts) (count : Nat) : Decision :=
  if c.concluded then
    ⟨{ Retention.initial with schedule := .stopped, countdown := .halted, restarts := count }, .concluded, false, .none⟩
  else if f.entryPresent then decideLostActive f count false
  else if c.startDelay = 0 then decideLostActive f count true
  else
    ⟨{ Retention.initial with
        schedule := .listening, countdown := .counting c.startDelay 0, restarts := count }, .dormant, false, .none⟩

/-- R27 -/
def decideStart (k : Kind) (c : Cmr) (r : Retention) (f : Facts) (count : Nat) : Decision :=
  match k with
  | .firstPower => ⟨{ Retention.initial with restarts := count }, .blank, false, .none⟩
  | .kept => decideKept c r f count
  | .lost => decideLost c f count

/-! ### The blocks after the report -/

/-- The quarters already passed in the epoch in progress (R12, R27). -/
def quartersPassed (d : Decision) : Nat :=
  if d.station = .active ∧ d.ret.schedule = .running then d.ret.quarter - 1 else 0

/-- The conversion set of an epoch with quarters passed (R12). -/
def Quad.resumed (passed : Nat) : Quad where
  q1 := if 1 ≤ passed then .lost else .pending
  q2 := if 2 ≤ passed then .lost else .pending
  q3 := if 3 ≤ passed then .lost else .pending
  q4 := if 4 ≤ passed then .lost else .pending

/-- The OPEN segment, the store condition and the frozen flag (R126). -/
def settleOpen (station : Station) (s : State) : State :=
  match station with
  | .blank => s
  | .dormant => s
  | .concluded => s.setJst
      { s.jst with frozen := true, condition := if blankCount s = 0 then .journalFull else .normal }
  | .active => match openableSeg s with
    | some i => putStatus i .opened s
    | none => s.setJst { s.jst with wantOpen := some .startUp }

/-- The stall timer at the end of start-up (R23). -/
def startUpStall (d : Decision) (s : State) : Option Nat :=
  match d.station with
  | .active => if d.ret.schedule = .running then some (activeStall s) else none
  | .dormant => if d.ret.countdown.isCounting then some Config.dormantStall else none
  | .blank => none
  | .concluded => none

/-- The evidence engine takes the report: the restoration goes on its work list, and R102's figures stand from now on, so
that no request meets an account below the one reported before (R99, R163).  DEDUCED, safe: assumption 46. -/
def reportedEve (c : Cmr) (d : Decision) (cause : RestartCause) (f : Facts) : Eve :=
  restoredEve c { Eve.initial d.station d.ret.epoch with work := [.restoration ⟨d.station, cause, d.finding⟩ f] }
    d.station f

/-- The scan has ended: the timebase decides, delivers its report, and the blocks take it. After a RESTART-LOST in ACTIVE the
OPEN segment is allocated with the counter at P + 2 (R29, R109, R126; DESIGN CHOICE; notes/assumptions/54.md). -/
def finishScan (env : Env) (s : State) : State :=
  let f := factsOf (liveSegments s)
  let k := restartKind s.cmr s.retValid s.ret f
  let cause := causeOf k s.tmb.lastCause
  let d := decideStart k s.cmr s.ret f (restartCount k s.cmr s.ret f)
  let quad := Quad.resumed (quartersPassed d)
  let s := ((s.setRet d.ret).setRetValid true).setTmb ⟨startUpStall d s, cause⟩
  let s := s.setTch { s.tch with probe := quad, air := quad }
  let s := s.setEve (reportedEve s.cmr d cause f)
  let s := s.setRqs { s.rqs with checkpoints := if s.cmr.commissioned then f.checkpoint else 0 }
  let s := restoreLeg d.activation f (settleOpen d.station (s.setLogic .running))
  let s := if d.station = .active then openAtLight d.ret.epoch s else s
  settle env s

/-- The next erase of the scan begins, or the scan ends (R125). -/
def continueScan (env : Env) (s : State) : State :=
  match s.jst.scan with
  | i :: _ => setAccess (.scanErase i) (putStatus i .erasing s)
  | [] => finishScan env (setAccess .none s)

/-- The scan reads the commission record and every segment (R109, R124, R125). Its erases follow in ascending index (DESIGN
CHOICE; notes/assumptions/47.md). -/
def scanned (s : State) : Jst :=
  let named := namedSources s.store
  let verdicts := s.store.map (scanVerdict s.cmr.commissioned s.cmr.concluded named)
  { Jst.initial with
    status := verdicts.map Prod.fst
    nextSeq := nextSeqOf s.store
    scan := (List.range Config.segments).filter fun i => ((verdicts[i]?).map Prod.snd).getD false }

/-- RESTART (R25): every block resets its state in the main logic, and the scan begins. -/
def execRestart (light : Bool) (env : Env) (s : State) : Host.Outcome State Fault Refusal :=
  done <|
    if s.logic = .stopped then
      let s := noteRestart s
      let s := s.setTch
        { probe := .pending
          air := .pending
          probeOffset := s.cmr.probeOffset
          airOffset := s.cmr.airOffset
          condition := .unknown
          taking := true
          partialWaiting := false }
      let s := (s.setTmb { s.tmb with stall := none }).setChc .initial
      let s := ((s.setPtb .initial).setDmn (.initial light)).setEve (.initial .blank 0)
      let s := s.setCmr { s.cmr with program := .none }
      let s := s.setRqs { Rqs.initial with spoilt := s.cmr.spoilt }
      continueScan env ((s.setJst (scanned s)).setLogic .startUp)
    else s

/-- SCAN_ERASE_END (R125) -/
def execScanEraseEnd (left : EraseLeft) (env : Env) (s : State) : Host.Outcome State Fault Refusal :=
  done <|
    if s.logic = .startUp then
      match s.jst.access with
      | .scanErase i =>
        let s := endErase i left s
        continueScan env (s.setJst { s.jst with scan := s.jst.scan.tail })
      | _ => s
    else s

end Sys2Proof.Machine
end

