-- ==== Sys2Proof/Machine/Requests.lean ====
section
/-! DEFINITION. The commands of the request service (chapters 09, 10): the requests, and the ends of the
commission-record programs they bring about. -/

namespace Sys2Proof.Machine

/-! ### Taking a request (R35, R165, R166) -/

/-- An addressed request reaches the request service: one sent to the broadcast address is discarded (R35, R165). -/
def reaches (req : Request) (env : Env) (s : State) : Bool :=
  delivered env s && soundSender req.reader && !req.broadcast

/-- A request is in service, or the commission record is programming a byte (R165). -/
def serviceBusy (s : State) : Bool := s.rqs.service.isSome || s.cmr.program != .none

/-- READ and READ-ON are allowed; CONCLUDE needs the first two states (R166). -/
def readAllowed (s : State) : Bool :=
  s.eve.station == .dormant || s.eve.station == .active || s.eve.station == .concluded

/-- A request whose form is sound is answered BUSY, STATE, or served (R165). -/
def serve (reader : PartyId) (code : Byte) (allowed : Bool) (go : State → State) (s : State) : State :=
  if serviceBusy s then refuse reader code .busy s
  else if allowed then go s
  else refuse reader code .state s

/-! ### UNKNOWN_REQUEST and DISCOVER (R165, R167) -/

/-- UNKNOWN_REQUEST (R165): answered FORMAT; a frame whose code is known is another command (notes/assumptions/26.md). -/
def execUnknownRequest (req : Request) (code : Option Byte) (_fields : List Byte) (env : Env) (s : State) :
    Host.Outcome State Fault Refusal :=
  done <|
    if reaches req env s then
      match code with
      | none => settle env (refuse req.reader Config.missingCodeEcho .format s)
      | some c => if knownCode c then s else settle env (refuse req.reader c .format s)
    else s

/-- DISCOVER (R167): with a payload it has no reply; during a byte program it waits for its end. -/
def execDiscover (req : Request) (fields : List Byte) (env : Env) (s : State) : Host.Outcome State Fault Refusal :=
  done <|
    if delivered env s && soundSender req.reader && fields.isEmpty then
      if s.cmr.program = .none then holdDiscover env.discovery.val req.reader s
      else s.setRqs { s.rqs with discovers := s.rqs.discovers ++ [req.reader] }
    else s

/-! ### Commissioning (R168 to R171) -/

/-- The program of a consignment byte begins. -/
def programByte (reader : PartyId) (todo : List (Nat × Byte)) (again : Bool) (adjusted : List (Nat × Int)) (s : State) :
    State :=
  match todo with
  | (a, v) :: _ =>
    (setService (some (.commission reader todo again adjusted)) s).setCmr { s.cmr with program := .commissionByte a v }
  | [] => s

/-- COMMISSION (R168, R169) -/
def execCommission (req : Request) (fields : List Byte) (env : Env) (s : State) : Host.Outcome State Fault Refusal :=
  done <|
    if reaches req env s then
      settle env <| match parseCommission fields with
        | none => refuse req.reader codeCommission .format s
        | some t =>
          serve req.reader codeCommission (s.eve.station == .blank && !s.rqs.spoilt)
            (fun s =>
              if t.clamped.acceptable then programByte req.reader t.clamped.programs false t.adjusted s
              else refuse req.reader codeCommission .terms s) s
    else s

/-- The timebase takes the start delay (R20, R170). -/
def Retention.commissioned (r : Retention) (delay : Nat) : Retention :=
  { r with
    schedule := if delay = 0 then .running else .listening
    epoch := 0
    quarter := 1
    position := 0
    countdown := if delay = 0 then .expired else .counting delay 0
    restarts := 0
    cause := .none
    expiredStopped := false
    firstEpoch := 0 }

/-- Commissioning completes (R20, R61, R84, R148, R170); with start delay 0 the OPEN segment comes first. What the station
takes while it waits for it stands, but for notes (DESIGN CHOICE; notes/assumptions/44.md, 45.md). -/
def completeCommission (reader : PartyId) (adjusted : List (Nat × Int)) (s : State) : State :=
  let delay := s.cmr.startDelay
  let s := s.setRet (s.ret.commissioned delay)
  let s := s.setTmb { s.tmb with stall := some (if delay = 0 then activeStall s else Config.dormantStall) }
  let s := (s.setEve (.initial (if delay = 0 then .active else .dormant) 0)).setPtb .initial
  let s := s.setRqs { s.rqs with checkpoints := 0 }
  if delay = 0 then
    setService (some (.opening reader adjusted)) (s.setJst { s.jst with wantOpen := some .commissioning })
  else complete reader (.commission (reportedState s) adjusted) s

/-- A commission byte reads back as composed; the commit byte counts once any part of it reads programmed (R169;
notes/assumptions/23.md). -/
def byteTaken (c : Cmr) (a : Nat) (v : Byte) : Bool :=
  if a = commitAddress then c.markSet a else c.byte a == v

/-- COMMISSION_BYTE_PROGRAMMED (R169) -/
def execCommissionByteProgrammed (miss : Byte) (env : Env) (s : State) : Host.Outcome State Fault Refusal :=
  done <|
    match running s, s.cmr.program, s.rqs.service with
    | true, .commissionByte a v, some (.commission reader todo again adjusted) =>
      let s := s.setCmr { s.cmr with consignment := Memory.program s.cmr.consignment a v miss, program := .none }
      settle env <| answerDiscovers env <|
        if byteTaken s.cmr a v then
          match todo.tail with
          | [] => completeCommission reader adjusted s
          | next => programByte reader next false adjusted s
        else if again then
          complete reader (.status codeCommission .store) (s.setRqs { s.rqs with spoilt := true })
        else programByte reader todo true adjusted s
    | _, _, _ => s

/-! ### QUERY (R71, R172) -/

/-- QUERY_STATUS (R172); QUERY with option PEERS is another command (notes/assumptions/34.md). -/
def execQueryStatus (req : Request) (fields : List Byte) (env : Env) (s : State) : Host.Outcome State Fault Refusal :=
  done <|
    if reaches req env s then
      match parseQuery fields with
      | some .status => settle env
          (serve req.reader codeQuery true (fun s => sendReply req.reader (.queryStatus (statusReply s)) s) s)
      | some .peers => s
      | none => settle env (refuse req.reader codeQuery .format s)
    else s

/-- QUERY_PEERS (R71); QUERY with option STATUS is another command (notes/assumptions/34.md). -/
def execQueryPeers (req : Request) (fields : List Byte) (env : Env) (s : State) : Host.Outcome State Fault Refusal :=
  done <|
    if reaches req env s then
      match parseQuery fields with
      | some .peers => settle env
          (serve req.reader codeQuery true (fun s => sendReply req.reader (.queryPeers (peersReply s)) s) s)
      | some .status => s
      | none => settle env (refuse req.reader codeQuery .format s)
    else s

/-! ### Reading (R173 to R180) -/

/-- The start epoch of the first LEG entry with a leg number (R173). -/
def legBase (n : Nat) (es : List Entry) : Option Nat :=
  (es.filterMap Entry.asLeg).find? (fun e => e.leg == n) |>.map LegEntry.start

def Entry.asCheckpoint : Entry → Option CheckpointEntry
  | .checkpoint e => some e
  | .epoch _ => none
  | .run _ => none
  | .gap _ => none
  | .leg _ => none
  | .door _ => none
  | .conclude _ => none

/-- The epoch of the CHECKPOINT entry with a number (R173). -/
def checkpointBase (n : Nat) (es : List Entry) : Option Nat :=
  (es.filterMap Entry.asCheckpoint).find? (fun e => e.number == n) |>.map CheckpointEntry.epoch

/-- The base epoch of a locator; absent when the live map holds none (R173). -/
def baseEpoch (es : List Entry) : Base → Option Nat
  | .absolute => some 0
  | .leg n => legBase n es
  | .checkpoint n => checkpointBase n es

/-- The start epoch, when it is in range and not past the window's end (R173). -/
def startEpoch (es : List Entry) (l : Locator) : Option Nat :=
  match baseEpoch es l.base with
  | some base =>
    let start := base + l.displacement
    if Config.maxEpoch < start then none
    else match l.window with
      | some w => if w < start then none else some start
      | none => some start
  | none => none

/-- A fragment enters service; its first array read suspends a step in flight (R140, R180). -/
def beginFragment (c : Cursor) (asked : Asked) (s : State) : State :=
  suspend (setService (some (.fragment c asked none none)) s)

/-- READ (R173) -/
def execRead (req : Request) (fields : List Byte) (env : Env) (s : State) : Host.Outcome State Fault Refusal :=
  done <|
    if reaches req env s then
      settle env <| match parseRead fields with
        | none => refuse req.reader codeRead .format s
        | some l =>
          serve req.reader codeRead (readAllowed s)
            (fun s => match startEpoch (journal s) l with
              | some start => beginFragment ⟨req.reader, start, l.stride, l.window, .unanchored⟩ (.read s.eve.station) s
              | none => refuse req.reader codeRead .range s) s
    else s

/-- READ_ON (R179) -/
def execReadOn (req : Request) (fields : List Byte) (env : Env) (s : State) : Host.Outcome State Fault Refusal :=
  done <|
    if reaches req env s then
      settle env <|
        if fields.isEmpty then
          serve req.reader codeReadOn (readAllowed s)
            (fun s => match s.rqs.cursor with
              | some c => if c.owner = req.reader then beginFragment c .readOn s else refuse req.reader codeReadOn .cursor s
              | none => refuse req.reader codeReadOn .cursor s) s
        else refuse req.reader codeReadOn .format s
    else s

/-- FRAGMENT_COMPOSED (R180): with the walk's last read made, or the array free to make it. While a byte of the commission
record, which the status line reads, is being programmed, the fragment waits for that program to end (R165). -/
def execFragmentComposed (env : Env) (s : State) : Host.Outcome State Fault Refusal :=
  done <|
    match running s, s.rqs.service with
    | true, some (.fragment c asked (some start) seen) =>
      if arrayFree s || seen.isSome then
        if s.cmr.program = .none then settle env (finishFragment c asked start seen s)
        else setService (some (.statusLine c asked start (seen.getD (journal s).length))) s
      else s
    | _, _ => s

/-! ### Checkpoints (R149, R150) -/

/-- JST deals with its consolidation work, and the protection marks follow (R120, R143, R150). -/
def beginMarking (left : Leftover) (reader : PartyId) (number epoch : Nat) (s : State) : State :=
  settleShort (setService (some (.checkpoint reader number epoch (.marking [] false 0 0))) (dealForCheckpoint left s))

/-- Steps 1 and 2 (R150): a header program of the job runs to its end first (R143). -/
def takeCheckpoint (reader : PartyId) (left : Leftover) (s : State) : State :=
  let number := s.rqs.checkpoints + 1
  let s := s.setRqs { s.rqs with checkpoints := number }
  if jobHeaderInProgress s then setService (some (.checkpoint reader number s.ret.epoch .dealing)) s
  else beginMarking left reader number s.ret.epoch s

/-- CHECKPOINT (R149) -/
def execCheckpoint (req : Request) (fields : List Byte) (left : Leftover) (env : Env) (s : State) :
    Host.Outcome State Fault Refusal :=
  done <|
    if reaches req env s then
      settle env <|
        if fields.isEmpty then
          serve req.reader codeCheckpoint (s.eve.station == .active)
            (fun s =>
              if 32 ≤ s.rqs.checkpoints then refuse req.reader codeCheckpoint .limit s
              else if s.jst.condition = .journalFull then refuse req.reader codeCheckpoint .store s
              else takeCheckpoint req.reader left s) s
        else refuse req.reader codeCheckpoint .format s
    else s

/-! ### Conclusion (R154 to R159, R161) -/

/-- A conclusion is taken; in ACTIVE the step of consolidation work in flight ends first (R155, R161). -/
def takeConclusion (env : Env) (reader : PartyId) (tag : List Byte) (left : Leftover) (s : State) : State :=
  if s.eve.station = .dormant then beginMark reader tag (dormantFigures s) s
  else if jobStepInProgress s then setService (some (.conclude reader tag .stopping)) s
  else beginClosing env left reader tag s

/-- CONCLUDE (R154) -/
def execConclude (req : Request) (fields : List Byte) (left : Leftover) (env : Env) (s : State) :
    Host.Outcome State Fault Refusal :=
  done <|
    if reaches req env s then
      settle env <| match parseConclude fields with
        | none => refuse req.reader codeConclude .format s
        | some (reference, tag) =>
          serve req.reader codeConclude (s.eve.station == .dormant || s.eve.station == .active)
            (fun s =>
              if reference = s.cmr.reference then takeConclusion env req.reader tag left s
              else refuse req.reader codeConclude .mismatch s) s
    else s

/-- CONCLUSION_FINAL_FIGURES (R157): the work list is empty and no coverage entry waits. A piece under way may still wait
for a verdict mark (R83, R158); the figures are then composed when the byte program in progress ends (R165). -/
def execConclusionFinalFigures (env : Env) (s : State) : Host.Outcome State Fault Refusal :=
  done <|
    match running s && s.eve.work.isEmpty && !coverageWaits s, s.rqs.service with
    | true, some (.conclude reader tag (.draining epoch)) =>
      settle env (nextProgram env none (figuresStage (setService (some (.conclude reader tag (.composing epoch))) s)))
    | _, _ => s

/-- CONCLUSION_MARK_PROGRAMMED (R158): read back, and programmed again for as long as it reads clear. -/
def execConclusionMarkProgrammed (miss : Byte) (env : Env) (s : State) : Host.Outcome State Fault Refusal :=
  done <|
    match running s, s.cmr.program, s.rqs.service with
    | true, .conclusionMark, some (.conclude reader tag (.mark f)) =>
      let s := s.setCmr
        { s.cmr with consignment := Memory.program s.cmr.consignment conclusionAddress 0x00 miss, program := .none }
      settle env <| answerDiscovers env <| nextProgram env (markDue s.eve) <|
        if s.cmr.concluded then setService (some (.conclude reader tag (.figure f 0))) s else s
    | _, _, _ => s

/-- The figures-done byte with a field's bit programmed (R185). -/
def doneByte (i : Nat) : Byte := ~~~(1 <<< i)

/-- A final-figure field has been programmed: its done bit follows where it reads back as composed (R158, R185). -/
def figureTaken (i a : Nat) (bs : List Byte) (miss : BitVec 32) (c : Cmr) : Cmr :=
  let m := Memory.programBytes c.consignment a bs (missBytes bs.length miss)
  { c with
    consignment := if Memory.readBytes m a bs.length = bs then Memory.program m doneAddress (doneByte i) 0 else m
    program := .none }

/-- FINAL_FIGURE_PROGRAMMED (R158) -/
def execFinalFigureProgrammed (miss : BitVec 32) (env : Env) (s : State) : Host.Outcome State Fault Refusal :=
  done <|
    match running s, s.cmr.program, s.rqs.service with
    | true, .figure i a bs, some (.conclude reader tag (.figure f _)) =>
      settle env <| answerDiscovers env <| nextProgram env (markDue s.eve) <|
        setService (some (.conclude reader tag (.figure f (i + 1)))) (s.setCmr (figureTaken i a bs miss s.cmr))
    | _, _, _ => s

end Sys2Proof.Machine
end

