-- ==== Sys2Proof/Machine/Array.lean ====
section
/-! DEFINITION. The commands of the journal array: the ends of its programs, page reads and erases (chapters 07, 08; R150,
R151, R155, R160). -/

namespace Sys2Proof.Machine

/-! ### Entries (R117, R118) -/

/-- What the VOID programs of a failed attempt leave of its slots (R117). -/
def voidSlots (e : Entry) (void1 void2 : Bool) : List Slot :=
  let slot (ok : Bool) : Slot := if ok then .void else .unreadable
  if e.size = 2 then [slot void1, slot void2] else [slot void1]

/-- The head leaves the queue with its fate (R117, R118). -/
def settleHead (programmed : Bool) (e : Entry) (s : State) : State :=
  reportFate programmed e (s.setJst { s.jst with queue := s.jst.queue.tail, secondTry := false })

/-- The first attempt of an entry has failed: it is programmed once more, unless the store has frozen (R117;
notes/assumptions/24.md). -/
def entryFailed (e : Entry) (s : State) : State :=
  if s.jst.secondTry || s.jst.frozen then settleHead false e s else s.setJst { s.jst with secondTry := true }

/-- ENTRY_PROGRAM_END (R117) -/
def execEntryProgramEnd (ok void1 void2 : Bool) (env : Env) (s : State) : Host.Outcome State Fault Refusal :=
  done <|
    match running s, s.jst.access, s.jst.queue with
    | true, .entry i n, e :: _ =>
      let s := setAccess .none s
      settle env <|
        if ok then settleHead true e (putSeg i ((segAt s i).put n e.slots) s)
        else entryFailed e (putSeg i ((segAt s i).put n (voidSlots e void1 void2)) s)
    | _, _, _ => s

/-! ### Allocations (R109, R111, R136) -/

/-- The header a passing allocation leaves. -/
def putFields (i : Nat) (f : AllocFields) (s : State) : State := setHeader i (fun h => { h with alloc := .fields f }) s

/-- A checkpoint or a conclusion that waited for a step of the job (R143, R144, R150, R155). -/
def afterJobStep (env : Env) (s : State) : State :=
  match s.rqs.service with
  | some (.checkpoint reader number epoch .dealing) =>
    beginMarking default reader number epoch s
  | some (.conclude reader tag .stopping) => beginClosing env default reader tag s
  | _ => s

/-- A JOURNAL segment has been allocated: it is OPEN, and the one before it FULL (R111). -/
def becomeOpen (i : Nat) (s : State) : State :=
  let s := match openSeg s with
    | some j => putStatus j .full s
    | none => s
  putStatus i .opened (s.setJst { s.jst with wantOpen := none })

/-- A target has been allocated; an empty planned output needs no copy (R136, R137; notes/assumptions/33.md). -/
def becomeTarget (i : Nat) (f : AllocFields) (s : State) : State :=
  let j := s.jst.job
  setJob
    { j with
      target := some (i, f.seq)
      pages := 0
      composed := false
      commitRetry := false
      phase := if pagesFor (j.planned.getD 0) = 0 then .commit else .copy }
    (putStatus i .targetPending s)

/-- A passing allocation: what follows depends on why it was made (R111, R126, R133, R136, R170). -/
def allocated (env : Env) (why : AllocWhy) (i : Nat) (f : AllocFields) (s : State) : State :=
  match why with
  | .rollover => evaluateTrigger (becomeOpen i s)
  | .activation => evaluateTrigger (becomeOpen i s)
  | .commissioning => evaluateTrigger (finishOpening (becomeOpen i s))
  | .startUp => becomeOpen i s
  | .target => afterJobStep env (becomeTarget i f s)

/-- ALLOCATION_PROGRAM_END (R109): the sequence number is used either way. -/
def execAllocationProgramEnd (result : Amount) (env : Env) (s : State) : Host.Outcome State Fault Refusal :=
  done <|
    match running s, s.jst.access with
    | true, .alloc why i f =>
      let s := s.setJst { s.jst with access := .none, nextSeq := s.jst.nextSeq + 1 }
      let failed (s : State) : State := afterJobStep env (putStatus i .outOfService s)
      settle env <| match result with
        | .whole => allocated env why i f (putFields i f s)
        | .part shown => failed (setHeader i (fun h => { h with alloc := .failing shown }) s)
        | .nothing => failed s
    | _, _ => s

/-! ### Consolidation (R134 to R139, R145) -/

def seqAt (s : State) (i : Nat) : Nat := ((segAt s i).fields.map AllocFields.seq).getD 0

/-- A page read of the planning pass has ended (R134). -/
def planningRead (s : State) : State :=
  let j := s.jst.job
  if j.pagesRead + 1 < 32 then setJob { j with pagesRead := j.pagesRead + 1 } s
  else match pairAt s j.walkAt with
    | some (a, b) =>
      let slots := (mergedSlots (segAt s a) (segAt s b)).length
      if slots ≤ Config.slotsPerSegment then
        setJob
          { j with
            phase := .allocate
            first := some (a, seqAt s a)
            second := some (b, seqAt s b)
            planned := some slots
            reading := false } s
      else setJob { j with walkAt := j.walkAt + 1, reading := false } s
    | none => setJob { j with walkAt := j.walkAt + 1, reading := false } s

/-- A checkpoint or a conclusion waits for the job's step in flight to end (R143, R155). -/
def jobAwaited (s : State) : Bool :=
  match s.rqs.service with
  | some (.checkpoint _ _ _ .dealing) => true
  | some (.conclude _ _ .stopping) => true
  | _ => false

/-- What a page read brings the job. It brings nothing to a job a checkpoint has ended (notes/assumptions/39.md), nor to one
whose conclusion waits for the read (R144, R155). -/
def pageReadTaken (composed : Bool) (s : State) : State :=
  if jobAwaited s then s
  else match s.jst.job.phase with
    | .planning => if s.jst.job.reading then planningRead s else s
    | .copy => setJob { s.jst.job with composed := composed } s
    | .none => s
    | .allocate => s
    | .commit => s
    | .erase1 => s
    | .erase2 => s

/-- PAGE_READ_END (R134, R137) -/
def execPageReadEnd (composed : Bool) (env : Env) (s : State) : Host.Outcome State Fault Refusal :=
  done <|
    match running s, s.jst.access with
    | true, .pageRead => settle env (afterJobStep env (pageReadTaken composed (setAccess .none s)))
    | _, _ => s

/-- A page has been programmed and verified (R137). -/
def pageDone (s : State) : State :=
  let j := s.jst.job
  setJob
    { j with
      pages := j.pages + 1
      composed := false
      phase := if pagesFor (j.planned.getD 0) ≤ j.pages + 1 then .commit else .copy } s

/-- PAGE_PROGRAM_END (R137): a page that does not match abandons the job. -/
def execPageProgramEnd (ok : Bool) (slots : List SlotLeft) (env : Env) (s : State) :
    Host.Outcome State Fault Refusal :=
  done <|
    match running s, s.jst.access with
    | true, .pageProgram =>
      let s := setAccess .none s
      settle env <|
        if ok then pageDone (putPage (jobPage s) s)
        else abandonJob (putPage (leftSlots (jobPage s) slots) s)
    | _, _ => s

/-- The commit has taken place (R138). -/
def commitTarget (s : State) : State :=
  let j := s.jst.job
  let retire (source : Option (Nat × Nat)) (s : State) : State := match source with
    | some (i, _) => putStatus i .retiring s
    | none => s
  let s := match j.targetSeg with
    | some t => putStatus t .full (setHeader t (fun h => { h with commit := true }) s)
    | none => s
  setJob { j with phase := .erase1 } (retire j.second (retire j.first s))

/-- The mark reads clear: once more, or the job is abandoned or stopped (R138, R143, R144; notes/assumptions/19.md). -/
def commitClear (s : State) : State :=
  if jobAwaited s then s
  else if s.jst.job.commitRetry then abandonJob s
  else setJob { s.jst.job with commitRetry := true } s

/-- COMMIT_MARK_PROGRAMMED (R138) -/
def execCommitMarkProgrammed (set : Bool) (env : Env) (s : State) : Host.Outcome State Fault Refusal :=
  done <|
    match running s, s.jst.access with
    | true, .commitMark =>
      let s := setAccess .none s
      settle env (afterJobStep env (if set then commitTarget s else commitClear s))
    | _, _ => s

/-- The first source's erase has ended, or the second's, which ends the job (R139). -/
def sourceErased (s : State) : State :=
  match s.jst.job.phase with
  | .erase1 => settleShort (setJob { s.jst.job with phase := .erase2 } s)
  | .erase2 => evaluateTrigger (settleShort (endJob none s))
  | .none => s
  | .planning => s
  | .allocate => s
  | .copy => s
  | .commit => s

/-- SOURCE_ERASE_END (R139) -/
def execSourceEraseEnd (left : EraseLeft) (env : Env) (s : State) : Host.Outcome State Fault Refusal :=
  done <|
    match running s, s.jst.access with
    | true, .sourceErase i => settle env (sourceErased (endErase i left (setAccess .none s)))
    | _, _ => s

/-- CLEANUP_ERASE_END (R145) -/
def execCleanupEraseEnd (left : EraseLeft) (env : Env) (s : State) : Host.Outcome State Fault Refusal :=
  done <|
    match running s, s.jst.access with
    | true, .cleanupErase i =>
      let s := endErase i left (setAccess .none s)
      settle env (evaluateTrigger (settleShort (setJob { s.jst.job with cleanup := none } s)))
    | _, _ => s

/-! ### Marks (R151, R160) -/

/-- The protection mark as it reads after its program (R106, R151, R185). -/
def protectionRead (number : Nat) : MarkRead → Protection
  | .clear => .clear
  | .part => .part
  | .whole => .whole number

/-- PROTECTION_MARK_PROGRAMMED (R151) -/
def execProtectionMarkProgrammed (mark : MarkRead) (env : Env) (s : State) : Host.Outcome State Fault Refusal :=
  done <|
    match running s, s.jst.access, s.rqs.service with
    | true, .protectMark i, some (.checkpoint reader number epoch (.marking tried again newly failed)) =>
      let s := setHeader i (fun h => { h with protection := protectionRead number mark }) (setAccess .none s)
      let next := fun step => settle env (setService (some (.checkpoint reader number epoch step)) s)
      if mark ≠ .clear then next (.marking (tried ++ [i]) false (newly + 1) failed)
      else if again then next (.marking (tried ++ [i]) false newly (failed + 1))
      else next (.marking tried true newly failed)
    | _, _, _ => s

/-- LOCK_MARK_PROGRAMMED (R160) -/
def execLockMarkProgrammed (set : Bool) (env : Env) (s : State) : Host.Outcome State Fault Refusal :=
  done <|
    match running s, s.jst.access, s.rqs.service with
    | true, .lockMark i, some (.conclude reader tag (.locking f recorded tried again locked failed)) =>
      let s := setHeader i (fun h => { h with lock := set }) (setAccess .none s)
      let next := fun step => settle env (setService (some (.conclude reader tag step)) s)
      if set then next (.locking f recorded (tried ++ [i]) false (locked + 1) failed)
      else if again then next (.locking f recorded (tried ++ [i]) false locked (failed + 1))
      else next (.locking f recorded tried true locked failed)
    | _, _, _ => s

end Sys2Proof.Machine
end

