-- ==== Sys2Proof/Machine/Dispatch.lean ====
section
/-! DEFINITION. One arm per command. -/

namespace Sys2Proof.Machine

def exec (i : Instr) (s : State) : Host.Outcome State Fault Refusal :=
  match i with
  | .quarterEnd env => Sys2Proof.Machine.execQuarterEnd env s
  | .countdownStep env => Sys2Proof.Machine.execCountdownStep env s
  | .stallExpiry left => Sys2Proof.Machine.execStallExpiry left s
  | .conversionComplete outcome env => Sys2Proof.Machine.execConversionComplete outcome env s
  | .brownout left => Sys2Proof.Machine.execBrownout left s
  | .retentionLoss left => Sys2Proof.Machine.execRetentionLoss left s
  | .restart light env => Sys2Proof.Machine.execRestart light env s
  | .scanEraseEnd left env => Sys2Proof.Machine.execScanEraseEnd left env s
  | .restartRestoration env => Sys2Proof.Machine.execRestartRestoration env s
  | .ordinaryClose env => Sys2Proof.Machine.execOrdinaryClose env s
  | .partialClose env => Sys2Proof.Machine.execPartialClose env s
  | .lateRefusal env => Sys2Proof.Machine.execLateRefusal env s
  | .verdictMarkProgrammed miss env => Sys2Proof.Machine.execVerdictMarkProgrammed miss env s
  | .noteDelayExpiry env => Sys2Proof.Machine.execNoteDelayExpiry env s
  | .backoffEnd env => Sys2Proof.Machine.execBackoffEnd env s
  | .transmissionEnd env => Sys2Proof.Machine.execTransmissionEnd env s
  | .discoveryDelayExpiry env => Sys2Proof.Machine.execDiscoveryDelayExpiry env s
  | .unsoundFrame bytes => Sys2Proof.Machine.execUnsoundFrame bytes s
  | .replyFrame sender destination payload => Sys2Proof.Machine.execReplyFrame sender destination payload s
  | .chillNote sender level payload env => Sys2Proof.Machine.execChillNote sender level payload env s
  | .lightEvent light env => Sys2Proof.Machine.execLightEvent light env s
  | .unknownRequest req code fields env => Sys2Proof.Machine.execUnknownRequest req code fields env s
  | .discover req fields env => Sys2Proof.Machine.execDiscover req fields env s
  | .commission req fields env => Sys2Proof.Machine.execCommission req fields env s
  | .commissionByteProgrammed miss env => Sys2Proof.Machine.execCommissionByteProgrammed miss env s
  | .queryStatus req fields env => Sys2Proof.Machine.execQueryStatus req fields env s
  | .queryPeers req fields env => Sys2Proof.Machine.execQueryPeers req fields env s
  | .read req fields env => Sys2Proof.Machine.execRead req fields env s
  | .readOn req fields env => Sys2Proof.Machine.execReadOn req fields env s
  | .fragmentComposed env => Sys2Proof.Machine.execFragmentComposed env s
  | .checkpoint req fields left env => Sys2Proof.Machine.execCheckpoint req fields left env s
  | .protectionMarkProgrammed mark env => Sys2Proof.Machine.execProtectionMarkProgrammed mark env s
  | .conclude req fields left env => Sys2Proof.Machine.execConclude req fields left env s
  | .conclusionFinalFigures env => Sys2Proof.Machine.execConclusionFinalFigures env s
  | .conclusionMarkProgrammed miss env => Sys2Proof.Machine.execConclusionMarkProgrammed miss env s
  | .finalFigureProgrammed miss env => Sys2Proof.Machine.execFinalFigureProgrammed miss env s
  | .lockMarkProgrammed set env => Sys2Proof.Machine.execLockMarkProgrammed set env s
  | .entryProgramEnd ok void1 void2 env => Sys2Proof.Machine.execEntryProgramEnd ok void1 void2 env s
  | .allocationProgramEnd result env => Sys2Proof.Machine.execAllocationProgramEnd result env s
  | .pageReadEnd composed env => Sys2Proof.Machine.execPageReadEnd composed env s
  | .pageProgramEnd ok slots env => Sys2Proof.Machine.execPageProgramEnd ok slots env s
  | .commitMarkProgrammed set env => Sys2Proof.Machine.execCommitMarkProgrammed set env s
  | .sourceEraseEnd left env => Sys2Proof.Machine.execSourceEraseEnd left env s
  | .cleanupEraseEnd left env => Sys2Proof.Machine.execCleanupEraseEnd left env s
  | .discardedNote sender level payload => Sys2Proof.Machine.execDiscardedNote sender level payload s
  | .requestForAnotherStation sender destination payload => Sys2Proof.Machine.execRequestForAnotherStation sender destination payload s

end Sys2Proof.Machine
end

