-- ==== Sys2Proof/Machine/Tick.lean ====
section
/-! DEFINITION. One timebase step of 250 ms: what the block does while no command waits (R15, R16, R20, R23, R41;
notes/assumptions/3.md). -/

namespace Sys2Proof.Machine

/-- The position in quarter advances; the flag says that the quarter has ended (R15). -/
def tickQuarter (s : State) : State × Bool :=
  if s.ret.schedule = .listening ∨ s.ret.schedule = .running then
    if s.cmr.epochLength ≤ s.ret.position + 1 then (s.setRet { s.ret with position := 0 }, true)
    else (s.setRet { s.ret with position := s.ret.position + 1 }, false)
  else (s, false)

/-- The position in minute advances; the flag says that it has wrapped (R20). A countdown that a conclusion of a DORMANT
station holds (R22) steps again from the stop of the logic on (R16), not only from the restart that drops the conclusion
(DESIGN CHOICE; notes/assumptions/51.md). -/
def tickMinute (s : State) : State × Bool :=
  match s.ret.countdown with
  | .counting minutes position =>
    if running s && countdownHeld s then (s, false)
    else if 240 ≤ position + 1 then (s.setRet { s.ret with countdown := .counting minutes 0 }, true)
    else (s.setRet { s.ret with countdown := .counting minutes (position + 1) }, false)
  | .idle => (s, false)
  | .expired => (s, false)
  | .halted => (s, false)

/-- The note delay runs (R41). -/
def tickNote (s : State) : State × Bool :=
  match s.chc.schedule with
  | .waiting epoch remaining arrived =>
    (s.setChc { s.chc with schedule := .waiting epoch (remaining - 1) arrived }, decide (remaining ≤ 1))
  | .none => (s, false)
  | .due _ => (s, false)

/-- The stall timer runs (R23). -/
def tickStall (s : State) : State × Bool :=
  match s.tmb.stall with
  | some remaining => (s.setTmb { s.tmb with stall := some (remaining - 1) }, decide (remaining ≤ 1))
  | none => (s, false)

/-- The commands a step brings about wait in the queue, their draws free (notes/assumptions/3.md). -/
def enqueue (quarter minute note stall : Bool) (s : State) : State :=
  let env := Config.tickEnv s.free
  let events := (if quarter then [Instr.quarterEnd env] else []) ++ (if minute then [Instr.countdownStep env] else []) ++
    (if note then [Instr.noteDelayExpiry env] else []) ++
    (if stall then [Instr.stallExpiry (Config.tickLeft s.free)] else [])
  if quarter || minute || note || stall then (s.setPending events).setFree (s.free + 1) else s

/-- Retained time counts with the logic stopped; the note delay and the stall timer run with the logic (R16). -/
def tick (s : State) : State :=
  if s.retValid then
    let q := tickQuarter s
    let m := tickMinute q.1
    if running s then
      let n := tickNote m.1
      let t := tickStall n.1
      enqueue q.2 m.2 n.2 t.2 t.1
    else enqueue q.2 m.2 false false m.1
  else s

end Sys2Proof.Machine
end

