-- ==== Sys2Proof/Safety.lean ====
section
/-! DEFINITION. What the statements of Certificates/ speak of: states in which nothing waits for the array, what a command's
end keeps, requests that are taken, values that fit their fields, and the invariants. -/

namespace Sys2Proof.Machine

/-! ### Requests and the array -/

/-- A request reaches a request service that has nothing in hand (R165). -/
def free (req : Request) (env : Env) (s : State) : Bool := reaches req env s && !serviceBusy s

/-- The request in service asks nothing of the array. -/
def serviceRests : Option Service → Bool
  | none => true
  | some (.commission _ _ _ _) => true
  | some (.opening _ _) => true
  | some (.fragment _ _ (some _) _) => true
  | some (.fragment _ _ none _) => false
  | some (.statusLine _ _ _ _) => true
  | some (.checkpoint _ _ _ .dealing) => true
  | some (.checkpoint _ _ _ (.marking _ _ _ _)) => false
  | some (.checkpoint _ _ _ (.composing _ _)) => true
  | some (.checkpoint _ _ _ (.entry _ _ _ _)) => true
  | some (.conclude _ _ .stopping) => true
  | some (.conclude _ _ (.closing _)) => true
  | some (.conclude _ _ (.draining _)) => true
  | some (.conclude _ _ (.composing _)) => true
  | some (.conclude _ _ (.mark _)) => true
  | some (.conclude _ _ (.figure _ _)) => true
  | some (.conclude _ _ (.entry _)) => true
  | some (.conclude _ _ (.locking _ _ _ _ _ _)) => false

/-- Consolidation has no step to begin (R129). -/
def jobRests (s : State) : Bool :=
  !clearForJob s || (s.jst.job.suspended.isNone && s.jst.job.phase == .none && s.jst.job.cleanup.isNone)

/-- No checkpoint waits to offer its entry (R150). -/
def checkpointRests (s : State) : Bool :=
  match s.rqs.service with
  | some (.checkpoint _ _ _ (.marking tried _ _ _)) => !marksDone s tried
  | some (.checkpoint _ _ _ (.composing _ _)) => s.cmr.program != .none
  | _ => true

/-- A fragment's status line or a checkpoint's entry waits to read the commission record (R165), or a conclusion to read
or program it (R158). -/
def recordAwaited (s : State) : Bool :=
  match s.rqs.service with
  | some (.statusLine _ _ _ _) => true
  | some (.checkpoint _ _ _ (.composing _ _)) => true
  | some (.conclude _ _ (.composing _)) => true
  | some (.conclude _ _ (.mark _)) => true
  | some (.conclude _ _ (.figure _ _)) => true
  | _ => false

/-- An access is in progress, or none waits; and no checkpoint's entry waits to be offered. -/
def quiet (s : State) : Bool :=
  checkpointRests s && (!arrayFree s ||
    (s.jst.wantOpen.isNone && s.jst.queue.isEmpty && serviceRests s.rqs.service && jobRests s))

/-- Neither a conclusion nor an opening commissioning is in service. -/
def serviceLight (s : State) : Bool :=
  match s.rqs.service with
  | none => true
  | some (.commission _ _ _ _) => true
  | some (.fragment _ _ _ _) => true
  | some (.statusLine _ _ _ _) => true
  | some (.checkpoint _ _ _ _) => true
  | some (.opening _ _) => false
  | some (.conclude _ _ _) => false

/-- The readings of an empty epoch are held with the three requests of a conclusion answered (third row of R156). -/
def emptyEpochWaits (s : State) : Bool :=
  s.ptb.viewTaken && !s.dmn.taking && s.eve.inputs.any fun c => (c.readings.map EpochReadings.quarters) == some 0

/-! ### What the end of a command keeps (R39, R115, R135) -/

/-- What no operation at the end of a command changes. -/
structure SameCore (s t : State) : Prop where
  logic : t.logic = s.logic
  retValid : t.retValid = s.retValid
  store : t.store = s.store
  cmr : t.cmr = s.cmr
  free : t.free = s.free
  pending : t.pending = s.pending
  nextSeq : t.jst.nextSeq = s.jst.nextSeq
  restarts : t.ret.restarts = s.ret.restarts
  epoch : t.ret.epoch = s.ret.epoch
  quarter : t.ret.quarter = s.ret.quarter
  lastCause : t.tmb.lastCause = s.tmb.lastCause
  peers : t.ptb.peers.map Peer.id = s.ptb.peers.map Peer.id
  exposure : t.eve.exposure = s.eve.exposure
  drawn : t.eve.drawn = s.eve.drawn
  run : t.eve.run = s.eve.run
  verdict : t.eve.verdict = s.eve.verdict
  suspect : t.eve.suspect = s.eve.suspect
  discord : t.eve.discord = s.eve.discord
  concord : t.eve.concord = s.eve.concord
  current : t.eve.current = s.eve.current
  readingsEpoch : t.eve.readingsEpoch = s.eve.readingsEpoch
  spoilt : t.rqs.spoilt = s.rqs.spoilt
  checkpoints : t.rqs.checkpoints = s.rqs.checkpoints
  cursor : t.rqs.cursor = s.rqs.cursor
  hold : t.chc.hold = s.chc.hold
  /-- Refused coverage entries alone join the work list (R100). -/
  work : ∃ n, t.eve.work = s.eve.work ++ List.replicate n Piece.lateRefusal
  /-- Only a conclusion ends the trip. -/
  trip : concluding s = false →
    concluding t = false ∧ t.eve.station = s.eve.station ∧ t.ret = s.ret ∧ t.tmb = s.tmb

/-- What the blocks keep besides, while neither a conclusion nor an opening commissioning is in service. -/
structure SameBlocks (s t : State) : Prop where
  ret : t.ret = s.ret
  tmb : t.tmb = s.tmb
  tch : t.tch = s.tch
  dmn : t.dmn = s.dmn
  peers : t.ptb.peers = s.ptb.peers
  leg : t.ptb.leg = s.ptb.leg
  founders : t.ptb.founders = s.ptb.founders
  viewTaken : t.ptb.viewTaken = s.ptb.viewTaken
  schedule : t.chc.schedule = s.chc.schedule
  content : t.chc.content = s.chc.content
  station : t.eve.station = s.eve.station
  committedExposure : t.eve.committedExposure = s.eve.committedExposure
  committedDrawn : t.eve.committedDrawn = s.eve.committedDrawn
  lastVerdict : t.eve.lastVerdict = s.eve.lastVerdict
  inputs : t.eve.inputs = s.eve.inputs

/-- `t` is `s`, but for what the array takes up next, the request in service and the transmit queue. -/
structure Ends (s t : State) : Prop where
  core : SameCore s t
  blocks : SameBlocks s t

/-! ### Replies (R38, R46) -/

/-- A reply stands at the tail of the transmit queue, where there is room. -/
def replied (reader : PartyId) (r : Reply) (s : State) : State :=
  { s with chc := { s.chc with queue :=
      if s.chc.queue.length < 4 then s.chc.queue ++ [.reply reader r] else s.chc.queue } }

/-- The DISCOVERs that waited for a byte program are answered: the last one's reply has the hold (R46, R167;
notes/assumptions/27.md). -/
def answered (env : Env) (s : State) : State :=
  match s.rqs.discovers.getLast? with
  | none => s
  | some reader =>
    { s with
      rqs := { s.rqs with discovers := [] }
      chc := { s.chc with
        hold := some
          ⟨reader,
            { id := s.cmr.stationId
              cls := if s.eve.station = .blank then none else some s.cmr.cls
              state := reportedState s
              verdict := if s.eve.station = .blank then .intact else committedVerdict s },
            env.discovery.val⟩ } }

/-! ### Values that fit their fields (R181 to R185) -/

def temperatureFits (t : Int) : Bool := decide (-640 ≤ t ∧ t ≤ 960)

def maybeFits : Option Int → Bool
  | some t => temperatureFits t
  | none => true

/-- The fields of an entry lie in the ranges chapters 04 to 09 give them. -/
def entryFits : Entry → Bool
  | .epoch e => maybeFits e.value && maybeFits e.probe && maybeFits e.air &&
      decide (e.epoch ≤ Config.maxEpoch ∧ e.peers ≤ 12 ∧ e.contribution ≤ 65535 ∧ e.draw ≤ 65535 ∧
        e.exposure ≤ Config.maxExposure ∧ e.drawn ≤ 65535 ∧ e.run ≤ Config.maxRun ∧ e.leg ≤ 255)
  | .run e => temperatureFits e.minimum && temperatureFits e.maximum &&
      decide (e.first ≤ Config.maxEpoch ∧ e.count ≤ Config.maxRun ∧ e.exposure ≤ Config.maxExposure ∧
        e.drawn ≤ 65535 ∧ e.leg ≤ 255)
  | .gap e => decide (e.first ≤ Config.maxEpoch ∧ e.run ≤ Config.maxRun ∧ e.count ≠ some 0 ∧
      e.count.getD 0 ≤ Config.maxRun)
  | .leg e => decide (e.leg ≤ 255 ∧ e.start ≤ Config.maxEpoch ∧ e.founders.length ≤ 8)
  | .door e => decide (e.start ≤ Config.maxEpoch ∧ e.stop ≤ Config.maxEpoch ∧ e.stamp ≤ Config.maxEpoch ∧
      e.drawn ≤ 65535)
  | .checkpoint e => decide (e.number ≤ 255 ∧ e.epoch ≤ Config.maxEpoch ∧ e.exposure ≤ Config.maxExposure)
  | .conclude e => decide (e.figures.epoch.getD 0 ≤ Config.maxEpoch ∧ e.figures.exposure ≤ Config.maxExposure ∧
      e.figures.drawn ≤ 65535 ∧ e.figures.restarts ≤ 255 ∧ e.tag.length ≤ 16 ∧ e.stamp ≤ Config.maxEpoch)

/-- The fields of a note (R36). -/
def noteFits (n : Note) : Bool :=
  decide (1 ≤ n.cls ∧ n.cls ≤ 7 ∧ n.leg ≤ 255) && match n.air with
    | some b => decide (-128 ≤ b ∧ b ≤ 127)
    | none => true

/-- Terms in their ranges (R168). -/
def termsFit (t : RawTerms) : Bool :=
  temperatureFits t.upper && temperatureFits t.lower && temperatureFits t.ceiling && temperatureFits t.floor &&
    decide (1 ≤ t.cls ∧ t.cls ≤ 7 ∧ t.budget ≤ 16383 ∧ t.allowance ≤ 1023 ∧ t.gap ≤ 255 ∧ 15 ≤ t.length ∧
      t.length ≤ 600 ∧ t.delay ≤ 1440 ∧ -100 ≤ t.link ∧ t.link ≤ -40 ∧ 1 ≤ t.reference.length ∧
      t.reference.length ≤ 24)

/-! ### Invariants -/

/-- Both parts of the commission record are in canonical form. -/
def memoryOk (s : State) : Bool := Memory.wf s.cmr.identity && Memory.wf s.cmr.consignment

/-- Transmit queue, append queue and peer table hold what they can (R37, R49, R114). -/
def bounded (s : State) : Bool :=
  decide (s.chc.queue.length ≤ Config.transmitRoom) && decide (s.jst.queue.length ≤ Config.appendRoom) &&
    decide (s.ptb.peers.length ≤ Config.peerRoom)

/-- The retention domain, when VALID, holds a quarter of 1 to 4 and an epoch that can be numbered (R15). -/
def clockOk (s : State) : Bool :=
  !s.retValid || decide (1 ≤ s.ret.quarter ∧ s.ret.quarter ≤ 4 ∧ s.ret.epoch ≤ Config.maxEpoch)

/-- At most one segment is OPEN, and none before start-up has settled which (R111, R126). -/
def oneOpen (s : State) : Bool :=
  let opened := ((List.range Config.segments).filter fun i => statusAt s i == .opened).length
  decide (opened ≤ 1) && (s.logic != .startUp || opened == 0)

/-- A commissioning that waits for its OPEN segment finds the peer table empty (R61, R170). -/
def openingEmpty (s : State) : Bool := !opening s || s.ptb.peers.isEmpty

/-! Erases and marks (R122): a marked segment is never under an erase. -/

/-- An erase of this segment would break no mark. -/
def unmarked (s : State) (i : Nat) : Bool := !(segAt s i).header.marked

/-- The segment is unmarked and out of the live map. -/
def mayErase (s : State) (i : Nat) : Bool :=
  unmarked s i && (statusAt s i == .erasing || statusAt s i == .outOfService)

def suspendedSafe (s : State) : Bool :=
  match s.jst.job.suspended with
  | some (.sourceErase i) => mayErase s i
  | some (.cleanupErase i) => mayErase s i
  | some .page => true
  | none => true

/-- The access in progress of a running store: a step of the job leaves none suspended, allocations take BLANK segments and
marks live ones. -/
def accessSafe (s : State) : Bool :=
  let alone := s.jst.job.suspended.isNone
  match s.jst.access with
  | .none => true
  | .entry _ _ => true
  | .alloc why i _ => statusAt s i == .blank && (why != .target || alone)
  | .pageRead => alone
  | .pageProgram => alone
  | .commitMark => alone
  | .protectMark i => (statusAt s i).live
  | .lockMark i => (statusAt s i).live
  | .sourceErase i => alone && mayErase s i
  | .cleanupErase i => alone && mayErase s i
  | .scanErase _ => false

/-- The scan's erases (R125). -/
def scanSafe (s : State) : Bool :=
  s.jst.job.suspended.isNone && s.jst.scan.all (unmarked s) &&
    match s.jst.access with
    | .none => true
    | .scanErase i => unmarked s i
    | _ => false

/-- R122: no erase in progress, suspended or due in the scan is of a marked segment. -/
def erasesSafe (s : State) : Bool :=
  match s.logic with
  | .stopped => true
  | .startUp => scanSafe s
  | .running => suspendedSafe s && accessSafe s

/-! Verdicts and marks (R95, R96): whatever carries a verdict of the trip, a mark of that level or a higher one is set. -/

/-- A mark of this level or a higher one is set. -/
def backed (s : State) (v : Verdict) : Bool := decide (v.rank ≤ s.cmr.highestMark.rank)

/-- The verdict of a coverage entry is backed; other entries carry none of the account. -/
def entryBacked (s : State) (e : Entry) : Bool := backed s (coverageStanding (some e)).2

def slotBacked (s : State) : Slot → Bool
  | .one e => entryBacked s e
  | .first e => entryBacked s e
  | .cont _ => true
  | .erased => true
  | .void => true
  | .unreadable => true

def pieceBacked (s : State) : Piece → Bool
  | .restoration _ f => backed s (coverageStanding f.lastCoverage).2
  | .ordinary _ => true
  | .partialClose _ => true
  | .lateRefusal => true

/-- The piece that waits programs the first of its marks, or waits for a program of a conclusion, and no mark up to its level
is forgotten (R95, R158). -/
def waitingBacked (s : State) : Bool :=
  match s.eve.current with
  | none => true
  | some w =>
    (match s.cmr.program, w.marks with
      | .verdictMark v, m :: _ => v == m
      | .conclusionMark, _ :: _ => true
      | .figure _ _ _, _ :: _ => true
      | _, _ => false) &&
    [Verdict.strained, .unproven, .broken].all fun v =>
      decide (w.target.rank < v.rank) || w.marks.contains v || s.cmr.markSet (verdictMarkAddress v)

/-- The final figures a conclusion holds carry a backed verdict, and a commissioning programs no mark and no figure. -/
def serviceBacked (s : State) : Bool :=
  match s.rqs.service with
  | some (.conclude _ _ (.mark f)) => backed s f.verdict
  | some (.conclude _ _ (.figure f _)) => backed s f.verdict
  | some (.conclude _ _ (.entry f)) => backed s f.verdict
  | some (.conclude _ _ (.locking f _ _ _ _ _)) => backed s f.verdict
  | some (.commission _ todo _ _) => todo.all fun p => decide (p.1 ≤ commitAddress)
  | _ => true

/-- A byte program of a commissioning stays among the terms, and one of a figure is of the figures a conclusion holds. -/
def programBacked (s : State) : Bool :=
  match s.cmr.program with
  | .none => true
  | .verdictMark _ => true
  | .conclusionMark => true
  | .commissionByte a _ => decide (a ≤ commitAddress)
  | .figure i a bs =>
    match s.rqs.service with
    | some (.conclude _ _ (.figure f k)) => decide (i = k ∧ i < 5 ∧ a = figureAddress i ∧ bs = f.bytes i)
    | _ => false

/-- The verdicts of the evidence engine, of the journal and of the final figures are backed by verdict marks. -/
def verdictsBacked (s : State) : Bool :=
  backed s s.eve.verdict && backed s s.eve.lastVerdict && s.eve.work.all (pieceBacked s) &&
    s.jst.queue.all (entryBacked s) && (s.store.all fun g => g.slots.all (slotBacked s)) &&
    (!s.cmr.figureWhole 1 || backed s (Verdict.ofCode (s.cmr.number 54 1))) &&
    (s.logic != .running || waitingBacked s) && serviceBacked s && programBacked s

/-- A piece of a concluded station: only the restoration of a start-up is left (R102, R157). -/
def Piece.concluded : Piece → Bool
  | .restoration r _ => r.station == .concluded
  | .ordinary _ => false
  | .partialClose _ => false
  | .lateRefusal => false

/-- A request a concluded station has in service. -/
def servesReads : Option Service → Bool
  | none => true
  | some (.fragment _ _ _ _) => true
  | some (.statusLine _ _ _ _) => false
  | some (.commission _ _ _ _) => false
  | some (.opening _ _) => false
  | some (.checkpoint _ _ _ _) => false
  | some (.conclude _ _ _) => false

/-- A CONCLUDED station at work: the schedule stopped, the store frozen and idle, nothing left to program (R19, R122,
R160, R163). -/
def concludedOk (s : State) : Bool :=
  running s && s.eve.station == .concluded && s.ret.schedule == .stopped && !s.ret.countdown.isCounting &&
    s.tmb.stall.isNone && s.jst.frozen && s.jst.access == .none && s.jst.queue.isEmpty && s.jst.wantOpen.isNone &&
    s.jst.job.suspended.isNone && s.cmr.program == .none && s.eve.current.isNone &&
    s.eve.work.all Piece.concluded && servesReads s.rqs.service && !s.tch.busy

end Sys2Proof.Machine
end

