-- ==== Sys2Proof/Certificates/Slice0/Obligations.lean ====
section
/-! DEFINITION. The statements for the provers. In a result written `kick env { s with … }` every field not named is as it
was, but for the transmitter, which CarrierSense describes; `quiet s` says that no access waits for the array. A result
written `Ends { s with … } t` leaves open what the array takes up next, and no more (EndOfCommandKeepsTheBlocks). -/

open Sys2Proof Sys2Proof.Machine

/-! ### The machine -/

/-- The queue of commands is the model's own form (notes/assumptions/31.md). -/
def Obligations.StepRunsFrontCommand : Prop :=
  ∀ (c : Instr) (rest : List Instr) (s : State), s.pending = c :: rest → step s = exec c { s with pending := rest }

/-- Each row of the table is one whole step of the part (95_what_each_step_holds). That a command whose event cannot
occur is answered next too (notes/assumptions/4.md), and that the commands behind it stay in the queue
(notes/assumptions/31.md), are the model's choices. -/
def Obligations.EveryCommandAnswers : Prop :=
  ∀ (c : Instr) (s : State), ∃ t, exec c s = .next t ∧ t.pending = s.pending

/-- R15, R16, R20, R23, R41: with no command waiting, one step is 250 ms, and what runs out in it becomes the command
that waits (the model's choice, notes/assumptions/3.md). -/
def Obligations.IdleStepIsOneTimebaseStep : Prop :=
  ∀ (n : Nat) (s : State), s.pending = [] → s.retValid = true →
    (s.ret.schedule = .running → s.ret.position + 1 < s.cmr.epochLength → s.ret.countdown = .expired →
      (s.logic = .running → s.chc.schedule = .none → s.tmb.stall = some n → 1 < n →
        step s = .next { s with
          ret := { s.ret with position := s.ret.position + 1 }
          tmb := { s.tmb with stall := some (n - 1) } }) ∧
      (s.logic = .running → s.chc.schedule = .none → s.tmb.stall = some n → n ≤ 1 →
        step s = .next { s with
          ret := { s.ret with position := s.ret.position + 1 }
          tmb := { s.tmb with stall := some (n - 1) }
          free := s.free + 1
          pending := [.stallExpiry (Config.tickLeft s.free)] }) ∧
      (∀ e d arrived, s.logic = .running → s.chc.schedule = .waiting e d arrived → s.tmb.stall = some n → 1 < n →
        (1 < d → step s = .next { s with
          ret := { s.ret with position := s.ret.position + 1 }
          tmb := { s.tmb with stall := some (n - 1) }
          chc := { s.chc with schedule := .waiting e (d - 1) arrived } }) ∧
        (d ≤ 1 → step s = .next { s with
          ret := { s.ret with position := s.ret.position + 1 }
          tmb := { s.tmb with stall := some (n - 1) }
          chc := { s.chc with schedule := .waiting e (d - 1) arrived }
          free := s.free + 1
          pending := [.noteDelayExpiry (Config.tickEnv s.free)] })) ∧
      (s.logic = .stopped → step s = .next { s with ret := { s.ret with position := s.ret.position + 1 } })) ∧
    (s.ret.schedule = .running ∨ s.ret.schedule = .listening → s.cmr.epochLength ≤ s.ret.position + 1 →
      s.ret.countdown = .expired → s.logic = .running → s.chc.schedule = .none → s.tmb.stall = some n → 1 < n →
      step s = .next { s with
        ret := { s.ret with position := 0 }
        tmb := { s.tmb with stall := some (n - 1) }
        free := s.free + 1
        pending := [.quarterEnd (Config.tickEnv s.free)] }) ∧
    (∀ m p, s.ret.schedule = .listening → s.ret.position + 1 < s.cmr.epochLength → s.ret.countdown = .counting m p →
      s.logic = .running → concluding s = false → s.chc.schedule = .none → s.tmb.stall = some n → 1 < n →
      (p + 1 < 240 → step s = .next { s with
        ret := { s.ret with position := s.ret.position + 1, countdown := .counting m (p + 1) }
        tmb := { s.tmb with stall := some (n - 1) } }) ∧
      (240 ≤ p + 1 → step s = .next { s with
        ret := { s.ret with position := s.ret.position + 1, countdown := .counting m 0 }
        tmb := { s.tmb with stall := some (n - 1) }
        free := s.free + 1
        pending := [.countdownStep (Config.tickEnv s.free)] }))

/-! ### Invariants that every step keeps -/

/-- R95, R96: no request, restart or loss of retention takes a verdict mark back. The committed verdict is the higher
of the last committed verdict and the highest mark, and it never moves down, in a state whose verdicts are backed by
marks; that they are is an invariant. -/
def Obligations.HighestMarkNeverFalls : Prop :=
  (∀ (s t : State), memoryOk s = true → step s = .next t → s.cmr.highestMark.rank ≤ t.cmr.highestMark.rank) ∧
  (∀ s : State, (committedVerdict s).rank = max s.eve.lastVerdict.rank s.cmr.highestMark.rank) ∧
  (∀ (s t : State), memoryOk s = true → verdictsBacked s = true → step s = .next t →
     verdictsBacked t = true ∧ (committedVerdict s).rank ≤ (committedVerdict t).rank)

/-- R105, R181, R185: the commission record keeps its canonical form, it is one-time programmable, and its identity
part is never programmed. -/
def Obligations.CommissionRecordOnlyLosesOnes : Prop :=
  (∀ (s t : State), memoryOk s = true → step s = .next t → memoryOk t = true) ∧
  (∀ (s t : State), memoryOk s = true → step s = .next t →
     t.cmr.identity = s.cmr.identity ∧
     ∀ a, Memory.read t.cmr.consignment a &&& Memory.read s.cmr.consignment a = Memory.read t.cmr.consignment a)

/-- R37, R49, R114: transmit queue, peer table and append queue hold what they can. R15: quarter 1 to 4, epoch up to
16,777,215. R111: at most one segment is OPEN, and none while start-up scans. R61, R170: while a commissioning with
start delay 0 waits for its OPEN segment the peer table is empty; that no note enters it in between is the model's
choice (notes/assumptions/44.md). -/
def Obligations.QueuesAndClockStayInRange : Prop :=
  (∀ (s t : State), bounded s = true → step s = .next t → bounded t = true) ∧
  (∀ (s t : State), clockOk s = true → step s = .next t → clockOk t = true) ∧
  (∀ (s t : State), oneOpen s = true → step s = .next t → oneOpen t = true) ∧
  (∀ (s t : State), openingEmpty s = true → step s = .next t → openingEmpty t = true)

/-- R122, R160, R163: once CONCLUDED, the journal and the commission record keep every byte, and the station stays
CONCLUDED for as long as its logic runs. R122: no segment with a protection mark or a lock mark is ever under an
erase, in progress, suspended, or due in the scan. -/
def Obligations.ConcludedStationIsFinal : Prop :=
  (∀ (s t : State), concludedOk s = true → step s = .next t →
     t.store = s.store ∧ t.cmr = s.cmr ∧ (t.logic = .running → concludedOk t = true)) ∧
  (∀ (s t : State), erasesSafe s = true → step s = .next t → erasesSafe t = true)

/-- What the array takes up at the end of a command, and the transmitter, change no figure of the station. R115, R116:
the head of the append queue stands at the fill of the OPEN segment, or a rollover allocates another. R119 to R121:
without a segment to allocate the store is SHORT while consolidation can free one, and JOURNAL-FULL otherwise; either
refuses the queue. That a cleanup target which a conclusion leaves waiting counts there is the model's choice
(notes/assumptions/48.md). R114, R140: an offered entry, and what it suspends. R141: a suspended step resumes. -/
def Obligations.EndOfCommandKeepsTheBlocks : Prop :=
  (∀ (env : Env) (s : State), SameCore s (settle env s) ∧ (serviceLight s = true → Ends s (settle env s)) ∧
     (s.logic = .running → quiet s = true → settle env s = kick env s)) ∧
  (∀ (env : Env) (e : Entry) (rest : List Entry) (s : State), s.logic = .running → s.jst.access = .none →
     s.jst.wantOpen = none → s.rqs.service = none → s.jst.queue = e :: rest →
     (∀ i, openSeg s = some i → (segAt s i).slots.length + 1 + e.size ≤ 127 →
       settle env s = kick env { s with
         jst := { s.jst with access := .entry i ((segAt s i).slots.length + 1) } }) ∧
     ((∀ i, openSeg s = some i → 127 < (segAt s i).slots.length + 1 + e.size) →
       (∀ i f, planOpen s = some (i, f) → settle env s = kick env { s with
         jst := { s.jst with access := .alloc .rollover i f } }) ∧
       (planOpen s = none → (∀ r, Entry.run r ∉ s.jst.queue) →
         let t := settle env s
         t.jst.queue = [] ∧
         t.eve.work = s.eve.work ++ List.replicate (s.jst.queue.filter Entry.covers).length .lateRefusal ∧
         (canFree s = true → s.jst.job.phase ≠ .planning → s.jst.job.phase ≠ .allocate →
           t.jst.condition = .short) ∧
         (canFree s = false → t.jst.condition = .journalFull ∧
           ∀ i, openSeg s = some i → statusAt t i = .full)))) ∧
  (∀ (e : Entry) (s : State),
     (s.jst.condition ≠ .normal ∨ s.jst.frozen = true ∨ 6 ≤ s.jst.queue.length → offer e s = (s, false)) ∧
     (s.jst.condition = .normal → s.jst.frozen = false → s.jst.queue.length < 6 →
       let accepted (access : Access) (suspended : Option Suspended) : State := { s with
         jst := { s.jst with
           queue := s.jst.queue ++ [e]
           access := access
           job := { s.jst.job with suspended := suspended } } }
       (s.jst.access = .pageProgram → offer e s = (accepted .none (some .page), true)) ∧
       (∀ i, s.jst.access = .sourceErase i → offer e s = (accepted .none (some (.sourceErase i)), true)) ∧
       (∀ i, s.jst.access = .cleanupErase i → offer e s = (accepted .none (some (.cleanupErase i)), true)) ∧
       (s.jst.access ≠ .pageProgram → (∀ i, s.jst.access ≠ .sourceErase i ∧ s.jst.access ≠ .cleanupErase i) →
         offer e s = (accepted s.jst.access s.jst.job.suspended, true)))) ∧
  (∀ (env : Env) (s : State), s.logic = .running → s.jst.access = .none → s.jst.wantOpen = none →
     s.jst.queue = [] → s.rqs.service = none → s.jst.frozen = false → s.jst.job.stopped = false →
     let resumed (access : Access) : State := { s with
       jst := { s.jst with access := access, job := { s.jst.job with suspended := none } } }
     (s.jst.job.suspended = some .page → settle env s = kick env (resumed .pageProgram)) ∧
     (∀ i, s.jst.job.suspended = some (.sourceErase i) → settle env s = kick env (resumed (.sourceErase i))) ∧
     (∀ i, s.jst.job.suspended = some (.cleanupErase i) → settle env s = kick env (resumed (.cleanupErase i))))

/-! ### Reset -/

/-- The invariants hold at reset, and the blocks hold what R12, R26, R27, R48, R70, R84, R119, R129 and R164 give
them. That the reset state is the part after FIRST POWER, with an erased journal and consignment part, is the model's
choice (notes/assumptions/1.md). -/
def Obligations.ResetLeavesABlankStation : Prop :=
  (memoryOk State.reset = true ∧ bounded State.reset = true ∧ clockOk State.reset = true ∧
   oneOpen State.reset = true ∧ openingEmpty State.reset = true ∧ erasesSafe State.reset = true ∧
   verdictsBacked State.reset = true) ∧
  (State.reset.eve.station = .blank ∧ State.reset.ret.schedule = .idle ∧ State.reset.ret.countdown = .idle ∧
   State.reset.ret.restarts = 0 ∧ State.reset.ret.cause = .none ∧ State.reset.tmb = ⟨none, .firstPower⟩ ∧
   State.reset.tch.probe = .pending ∧ State.reset.tch.air = .pending ∧ State.reset.tch.condition = .unknown ∧
   State.reset.chc.queue = [] ∧ State.reset.chc.transmitter = .idle ∧ State.reset.chc.schedule = .none ∧
   State.reset.ptb.peers = [] ∧ State.reset.ptb.leg = none ∧ State.reset.dmn.episode = none ∧
   State.reset.eve.exposure = 0 ∧ State.reset.eve.verdict = .intact ∧ committedVerdict State.reset = .intact ∧
   State.reset.jst.queue = [] ∧ State.reset.jst.condition = .normal ∧ State.reset.jst.frozen = false ∧
   State.reset.jst.job.phase = .none ∧ State.reset.jst.nextSeq = 1 ∧ blankCount State.reset = 32 ∧
   State.reset.rqs.service = none ∧ State.reset.rqs.cursor = none ∧ State.reset.rqs.checkpoints = 0)

/-! ### Formats -/

/-- R183, R184: the stored slots of every entry read back as the entry. -/
def Obligations.SlotImageReadsBack : Prop :=
  ∀ e : Entry, entryFits e = true →
    decodeEntry (e.image.take 32) (if e.size = 2 then some (e.image.drop 32) else none) = some e

/-- R36, R106, R182, R185: allocation fields, protection marks and notes read back as they were written. -/
def Obligations.HeadersAndNotesReadBack : Prop :=
  ((∀ f : AllocFields, f.seq ≤ 65535 → f.span ≤ Config.maxEpoch →
     (∀ a b, f.sources = some (a, b) → a ≤ 65535 ∧ b ≤ 65535) → readAlloc f.image = .fields f) ∧
   (∀ n : Nat, 1 ≤ n → n ≤ 32 → readProtection (protectionImage n) = .whole n)) ∧
  (∀ n : Note, noteFits n = true → parseNote n.payload = some n)

/-- R35, R36, R183: which command a delivered frame is. R33: a frame of the wrong length, kind, sender or check is
unsound. That a QUERY whose option is neither STATUS nor PEERS is the command QUERY_STATUS is the model's choice
(notes/assumptions/34.md). -/
def Obligations.FramesBecomeTheirCommands : Prop :=
  (∀ (own sender destination : PartyId) (r : Reception) (payload fields : List Byte),
    own ≠ BitVec.allOnes 32 → sender ≠ 0 → sender ≠ BitVec.allOnes 32 → payload.length ≤ 208 → fields.length ≤ 207 →
    decodeFrame own r (wireFrame 0x01 sender destination payload) =
      (if (parseNote payload).isSome then .chillNote sender r.level payload r.env
      else .discardedNote sender r.level payload) ∧
    decodeFrame own r (wireFrame 0x03 sender destination payload) = .replyFrame sender destination payload ∧
    (destination ≠ own → destination ≠ BitVec.allOnes 32 →
      decodeFrame own r (wireFrame 0x02 sender destination payload) =
        .requestForAnotherStation sender destination payload) ∧
    decodeFrame own r (wireFrame 0x02 sender own (0x10 :: fields)) = .discover ⟨sender, false⟩ fields r.env ∧
    decodeFrame own r (wireFrame 0x02 sender (BitVec.allOnes 32) (0x10 :: fields)) =
      .discover ⟨sender, true⟩ fields r.env ∧
    decodeFrame own r (wireFrame 0x02 sender own (0x11 :: fields)) = .commission ⟨sender, false⟩ fields r.env ∧
    decodeFrame own r (wireFrame 0x02 sender own [0x12, 0x01]) = .queryStatus ⟨sender, false⟩ [0x01] r.env ∧
    decodeFrame own r (wireFrame 0x02 sender own [0x12, 0x02]) = .queryPeers ⟨sender, false⟩ [0x02] r.env ∧
    decodeFrame own r (wireFrame 0x02 sender own (0x13 :: fields)) = .read ⟨sender, false⟩ fields r.env ∧
    decodeFrame own r (wireFrame 0x02 sender own (0x14 :: fields)) = .readOn ⟨sender, false⟩ fields r.env ∧
    decodeFrame own r (wireFrame 0x02 sender own (0x15 :: fields)) =
      .checkpoint ⟨sender, false⟩ fields r.left r.env ∧
    decodeFrame own r (wireFrame 0x02 sender own (0x16 :: fields)) = .conclude ⟨sender, false⟩ fields r.left r.env ∧
    decodeFrame own r (wireFrame 0x02 sender own []) = .unknownRequest ⟨sender, false⟩ none [] r.env ∧
    (∀ code : Byte, code.toNat < 0x10 ∨ 0x16 < code.toNat →
      decodeFrame own r (wireFrame 0x02 sender own (code :: fields)) =
        .unknownRequest ⟨sender, false⟩ (some code) fields r.env ∧
      decodeFrame own r (wireFrame 0x02 sender (BitVec.allOnes 32) (code :: fields)) =
        .unknownRequest ⟨sender, true⟩ (some code) fields r.env) ∧
    (fields ≠ [0x01] → fields ≠ [0x02] →
      decodeFrame own r (wireFrame 0x02 sender own (0x12 :: fields)) = .queryStatus ⟨sender, false⟩ fields r.env) ∧
    decodeFrame own r (wireFrame 0x02 sender (BitVec.allOnes 32) (0x11 :: fields)) =
      .commission ⟨sender, true⟩ fields r.env ∧
    decodeFrame own r (wireFrame 0x02 sender (BitVec.allOnes 32) [0x12, 0x01]) =
      .queryStatus ⟨sender, true⟩ [0x01] r.env ∧
    decodeFrame own r (wireFrame 0x02 sender (BitVec.allOnes 32) [0x12, 0x02]) =
      .queryPeers ⟨sender, true⟩ [0x02] r.env ∧
    decodeFrame own r (wireFrame 0x02 sender (BitVec.allOnes 32) (0x13 :: fields)) =
      .read ⟨sender, true⟩ fields r.env ∧
    decodeFrame own r (wireFrame 0x02 sender (BitVec.allOnes 32) (0x14 :: fields)) =
      .readOn ⟨sender, true⟩ fields r.env ∧
    decodeFrame own r (wireFrame 0x02 sender (BitVec.allOnes 32) (0x15 :: fields)) =
      .checkpoint ⟨sender, true⟩ fields r.left r.env ∧
    decodeFrame own r (wireFrame 0x02 sender (BitVec.allOnes 32) (0x16 :: fields)) =
      .conclude ⟨sender, true⟩ fields r.left r.env) ∧
  (∀ (own sender destination : PartyId) (r : Reception) (length kind c d : Byte) (payload bytes : List Byte),
    let covered := kind :: (idBytes sender ++ idBytes destination ++ payload)
    (208 < length.toNat ∨ bytes.length ≠ length.toNat + 11 →
      decodeFrame own r (length :: bytes) = .unsoundFrame (length :: bytes)) ∧
    decodeFrame own r [] = .unsoundFrame [] ∧
    (payload.length ≤ 208 → kind ≠ 0x01 ∧ kind ≠ 0x02 ∧ kind ≠ 0x03 ∨ sender = 0 ∨ sender = BitVec.allOnes 32 →
      decodeFrame own r (wireFrame kind sender destination payload) =
        .unsoundFrame (wireFrame kind sender destination payload)) ∧
    (payload.length ≤ 208 → [c, d] ≠ crcBytes covered →
      let frame := beBytes 1 payload.length ++ covered ++ [c, d]
      decodeFrame own r frame = .unsoundFrame frame))

/-- R169, R185: the byte programs of a COMMISSION leave the terms the chapters read. -/
def Obligations.StoredTermsReadBack : Prop :=
  ∀ (t : RawTerms) (identity : Memory), termsFit t = true →
    let c : Cmr := ⟨identity, t.programs.foldl (fun m p => Memory.program m p.1 p.2 0) [], .none⟩
    c.commissioned = true ∧ c.concluded = false ∧ c.highestMark = .intact ∧ c.cls = t.cls ∧ c.upper = t.upper ∧
    c.lower = t.lower ∧ c.ceiling = t.ceiling ∧ c.floor = t.floor ∧ c.budget = 64 * t.budget ∧
    c.allowance = 64 * t.allowance ∧ c.gapAllowance = t.gap ∧ c.epochLength = t.length ∧ c.startDelay = t.delay ∧
    c.linkThreshold = t.link ∧ c.reference = t.reference

/-! ### Temperature channels and timebase -/

/-- R8, with n the number of VALID slots. -/
def Obligations.EpochReadingIsTheMeanRoundedUp : Prop :=
  ∀ q : Quad,
    (q.valids.length < 2 → q.reading = none) ∧
    (2 ≤ q.valids.length → ∃ r, q.reading = some r ∧
      (r.value - 1) * q.valids.length < (q.valids.map Prod.fst).sum ∧
      (q.valids.map Prod.fst).sum ≤ r.value * q.valids.length ∧
      (r.clamped = true ↔ ∃ v, (v, true) ∈ q.valids) ∧
      ((∀ p ∈ q.valids, -640 ≤ p.1 ∧ p.1 ≤ 960) → -640 ≤ r.value ∧ r.value ≤ 960))

/-- R4 to R7: a conversion that does not end the epoch fills its slot. R10: so does one of a channel while the other
still converts, with a conclusion waiting for its partial readings, its views handed or not. -/
def Obligations.ConversionFillsItsSlot : Prop :=
  ∀ (env : Env) (raw : Int) (q : Nat) (s : State), s.logic = .running → quiet s = true →
    emptyEpochWaits s = false → -800 ≤ raw → raw ≤ 1120 →
    (s.tch.probe.converting = some q → s.tch.air.q4.converted = false →
      s.tch.partialWaiting = false ∨ s.tch.air.converting.isSome = true →
      exec (.conversionComplete (.probe raw) env) s = .next (kick env { s with tch := { s.tch with
        probe := s.tch.probe.set q (.valid (max (-640) (min 960 (raw + s.tch.probeOffset)))
          (decide (raw + s.tch.probeOffset < -640 ∨ 960 < raw + s.tch.probeOffset)))
        condition := .connected } }) ∧
      exec (.conversionComplete .probeOpen env) s = .next (kick env { s with tch := { s.tch with
        probe := s.tch.probe.set q (.invalid .opened), condition := .opened } }) ∧
      exec (.conversionComplete .probeShort env) s = .next (kick env { s with tch := { s.tch with
        probe := s.tch.probe.set q (.invalid .shorted), condition := .shorted } })) ∧
    (s.tch.air.converting = some q → s.tch.probe.q4.converted = false →
      s.tch.partialWaiting = false ∨ s.tch.probe.converting.isSome = true →
      exec (.conversionComplete (.air raw) env) s = .next (kick env { s with tch := { s.tch with
        air := s.tch.air.set q (.valid (max (-640) (min 960 (raw + s.tch.airOffset)))
          (decide (raw + s.tch.airOffset < -640 ∨ 960 < raw + s.tch.airOffset))) } }) ∧
      exec (.conversionComplete .airFault env) s = .next (kick env { s with tch := { s.tch with
        air := s.tch.air.set q (.invalid .refFault) } }))

/-- R4 to R7, R9, R85: the last conversion of an epoch, on either channel and with every outcome, hands over its
readings, and the set is PENDING again. With the two views held the ordinary close joins the work list; without them
the readings wait. R10, R11: a conclusion that asked for partial readings gets them when nothing converts any more:
those of the epoch in progress, or, when that conversion closes the epoch, of the next one with q = 0. They join the views
held, or wait for those that a block has still to hand. With the schedule STOPPED they have a key of their own, which is the
model's choice (notes/assumptions/35.md). -/
def Obligations.LastConversionHandsReadings : Prop :=
  (∀ (env : Env) (e : Nat) (v : CloseView) (d : DoorView) (raw : Int) (outcome : Conversion) (slot : QuarterSlot)
    (s : State), s.logic = .running → quiet s = true → s.ptb.viewTaken = false → s.tch.partialWaiting = false →
    s.eve.readingsEpoch = e → -800 ≤ raw → raw ≤ 1120 →
    let corrected (offset : Int) : QuarterSlot :=
      .valid (max (-640) (min 960 (raw + offset))) (decide (raw + offset < -640 ∨ 960 < raw + offset))
    let handed (readings : EpochReadings) (condition : ProbeCondition) : Prop :=
      let tch : Tch := { s.tch with probe := .pending, air := .pending, condition := condition }
      (s.eve.inputs = [⟨e, none, some v, some d⟩] →
        exec (.conversionComplete outcome env) s = .next (kick env { s with
          tch := tch
          eve := { s.eve with
            inputs := []
            work := s.eve.work ++ [.ordinary ⟨e, readings, v, d⟩]
            readingsEpoch := e + 1 } })) ∧
      (s.eve.inputs = [] →
        exec (.conversionComplete outcome env) s = .next (kick env { s with
          tch := tch
          eve := { s.eve with inputs := [⟨e, some readings, none, none⟩], readingsEpoch := e + 1 } }))
    (∀ condition, s.tch.probe.converting = some 4 → s.tch.air.q4.converted = true →
      (outcome = .probeOpen ∧ slot = .invalid .opened ∧ condition = .opened) ∨
        (outcome = .probeShort ∧ slot = .invalid .shorted ∧ condition = .shorted) ∨
        (outcome = .probe raw ∧ slot = corrected s.tch.probeOffset ∧ condition = .connected) →
      handed ⟨4, ({ s.tch.probe with q4 := slot } : Quad).reading, s.tch.air.reading⟩ condition) ∧
    (s.tch.air.converting = some 4 → s.tch.probe.q4.converted = true →
      (outcome = .airFault ∧ slot = .invalid .refFault) ∨
        (outcome = .air raw ∧ slot = corrected s.tch.airOffset) →
      handed ⟨4, s.tch.probe.reading, ({ s.tch.air with q4 := slot } : Quad).reading⟩ s.tch.condition)) ∧
  (∀ (env : Env) (e q : Nat) (raw : Int) (v : CloseView) (d : DoorView) (outcome : Conversion) (slot : QuarterSlot)
    (probe air : Quad) (condition : ProbeCondition) (s : State), s.logic = .running → quiet s = true →
    s.tch.partialWaiting = true → s.eve.readingsEpoch = e → e ≤ Config.maxEpoch → -800 ≤ raw → raw ≤ 1120 →
    let corrected (offset : Int) : QuarterSlot :=
      .valid (max (-640) (min 960 (raw + offset))) (decide (raw + offset < -640 ∨ 960 < raw + offset))
    (s.tch.probe.converting = some q ∧ air = s.tch.air ∧ probe = s.tch.probe.set q slot ∧
        (outcome = .probeOpen ∧ slot = .invalid .opened ∧ condition = .opened ∨
          outcome = .probeShort ∧ slot = .invalid .shorted ∧ condition = .shorted ∨
          outcome = .probe raw ∧ slot = corrected s.tch.probeOffset ∧ condition = .connected)) ∨
      (s.tch.air.converting = some q ∧ probe = s.tch.probe ∧ air = s.tch.air.set q slot ∧ condition = s.tch.condition ∧
        (outcome = .airFault ∧ slot = .invalid .refFault ∨ outcome = .air raw ∧ slot = corrected s.tch.airOffset)) →
    probe.converting = none → air.converting = none →
    let after : Tch := { s.tch with probe := probe, air := air, condition := condition, partialWaiting := false }
    let set : Tch := { after with probe := .pending, air := .pending }
    let read : EpochReadings := ⟨after.quarters, probe.reading, air.reading⟩
    let ordinary : Piece := .ordinary ⟨e, ⟨4, probe.reading, air.reading⟩, v, d⟩
    let key := if s.ret.schedule = .stopped then 16777216 else e + 1
    let held (epoch : Nat) (view : Option CloseView) (door : Option DoorView) : List CloseInputs :=
      if view = none ∧ door = none then [] else [⟨epoch, none, view, door⟩]
    (probe.q4.converted = false ∨ air.q4.converted = false → 1 ≤ after.quarters → after.quarters < 4 →
      (s.eve.inputs = [⟨e, none, some v, some d⟩] →
        exec (.conversionComplete outcome env) s = .next (kick env { s with
          tch := after
          eve := { s.eve with
            inputs := []
            work := s.eve.work ++ [.partialClose ⟨e, read, v, d⟩]
            readingsEpoch := e + 1 } })) ∧
      (∀ view door, view = none ∨ door = none → s.eve.inputs = held e view door →
        exec (.conversionComplete outcome env) s = .next (kick env { s with
          tch := after
          eve := { s.eve with inputs := [⟨e, some read, view, door⟩], readingsEpoch := e + 1 } }))) ∧
    (probe.q4.converted = true → air.q4.converted = true →
      (∀ v' d', s.eve.inputs = [⟨e, none, some v, some d⟩, ⟨key, none, some v', some d'⟩] →
        exec (.conversionComplete outcome env) s = .next (kick env { s with
          tch := set
          eve := { s.eve with
            inputs := []
            work := s.eve.work ++ [ordinary, .partialClose ⟨key, ⟨0, none, none⟩, v', d'⟩]
            readingsEpoch := e + 2 } })) ∧
      (∀ view door, view = none ∨ door = none → s.eve.inputs = ⟨e, none, some v, some d⟩ :: held key view door →
        exec (.conversionComplete outcome env) s = .next (kick env { s with
          tch := set
          eve := { s.eve with
            inputs := [⟨key, some ⟨0, none, none⟩, view, door⟩]
            work := s.eve.work ++ [ordinary]
            readingsEpoch := e + 2 } }))))

/-- R3, R17: the end of quarter 1, 2 or 3. R19: after epoch 16,777,215 the schedule is STOPPED and the stall timer
IDLE; that the quarter index then stays 4 and the position 0 is the model's choice (notes/assumptions/12.md). -/
def Obligations.QuarterEndsOfTheTrip : Prop :=
  (∀ (env : Env) (s : State), s.logic = .running → quiet s = true → s.ret.schedule = .running →
     s.ret.quarter < 4 →
     exec (.quarterEnd env) s = .next (kick env { s with
       ret := { s.ret with position := 0, quarter := s.ret.quarter + 1 }
       tch := if s.eve.station = .active ∧ s.tch.taking = true then { s.tch with
           probe := s.tch.probe.set s.ret.quarter .converting
           air := s.tch.air.set s.ret.quarter .converting }
         else s.tch })) ∧
  (∀ (env : Env) (s : State), s.logic = .running → serviceLight s = true → s.ret.schedule = .running →
     s.ret.quarter = 4 → s.ret.epoch = Config.maxEpoch →
     ∃ t, exec (.quarterEnd env) s = .next t ∧
       t.ret = { s.ret with position := 0, schedule := .stopped } ∧ t.tmb = { s.tmb with stall := none } ∧
       t.eve.station = s.eve.station ∧ t.store = s.store ∧ t.cmr = s.cmr)

/-- R17, R41, R56, R57, R59, R60, R77, R78: an epoch end of an ACTIVE station. The first clause has no episode; the
second any open episode, which is marked overrun at age 30, ages, or closes at its second quiet epoch. R63, R64: the
turnover test, and the proposal with its LEG entry; a refusal at the offer ends it at once (R65). R19, R60: the end of
epoch 16,777,215, the last one, is an ordinary close, after which the schedule is STOPPED and the stall timer IDLE;
that the quarter index then stays 4 (notes/assumptions/12.md), and that a leg proposed there, with its LEG entry, starts
at 16,777,216 (notes/assumptions/41.md), are the model's choices. So are the note schedule that is due at delay 0
(notes/assumptions/3.md), the drawn delay brought into its range (notes/assumptions/5.md), and that the peer table takes the
epoch end before the door monitor (notes/assumptions/55.md). -/
def Obligations.EpochEndReachesTheBlocks : Prop :=
  ∀ (env : Env) (s : State), s.logic = .running → s.ret.schedule = .running →
    s.ret.quarter = 4 → s.ret.epoch ≤ Config.maxEpoch → s.eve.station = .active → s.ptb.viewTaken = false →
    s.dmn.taking = true → s.tch.taking = true → s.eve.inputs = [] →
    let closed := (s.ptb.peers.map Peer.shift).filterMap Peer.evaluate
    let delay := env.noteDelay % (2 * s.cmr.epochLength + 1)
    let ended (door : DoorView) : State := { s with
      ret := if s.ret.epoch < Config.maxEpoch
        then { s.ret with position := 0, quarter := 1, epoch := s.ret.epoch + 1 }
        else { s.ret with position := 0, schedule := .stopped }
      tmb := if s.ret.epoch < Config.maxEpoch then s.tmb else { s.tmb with stall := none }
      tch := { s.tch with probe := s.tch.probe.set 4 .converting, air := s.tch.air.set 4 .converting }
      ptb := { s.ptb with peers := closed }
      eve := { s.eve with
      inputs := [⟨s.ret.epoch, none, some ⟨s.ret.epoch, s.ptb.leg, corroborating s.ptb.peers⟩, some door⟩] }
      chc := { s.chc with
      schedule := if delay = 0 then .due s.ret.epoch else .waiting s.ret.epoch delay false } }
    (serviceLight s = true → s.dmn.episode = none →
      ∃ t, exec (.quarterEnd env) s = .next t ∧ Ends (ended ⟨s.ret.epoch, false, false⟩) t) ∧
    (∀ i n, s.jst.access = .entry i n → s.rqs.service = none → s.dmn.closing = none →
      let near := closed.filter fun p => p.state == .coLocated
      let remaining := (s.ptb.founders.filter fun i => near.any fun p => p.id == i).length
      let turns := s.ptb.turnover = none ∧ 2 ≤ near.length ∧
        (s.ptb.founders = [] ∨ 2 * remaining < s.ptb.founders.length)
      let proposal : Turnover := ⟨min 255 (s.ptb.leg.getD 0 + 1), s.ret.epoch + 1, foundersOf closed⟩
      let door : DoorView := ⟨s.ret.epoch, s.dmn.episode.isSome, s.dmn.episode.any fun e => 30 ≤ e.age⟩
      let dmn : Dmn := match s.dmn.episode with
        | none => s.dmn
        | some e =>
          let e := { e with overrun := e.overrun || decide (30 ≤ e.age) }
          if e.ownMark = false ∧ e.heardMark = false ∧ 1 ≤ e.quiet then
            { s.dmn with
              episode := none
              closing := some { e with quiet := e.quiet + 1, stop := some s.ret.epoch } }
          else
            { s.dmn with
              episode := some { e with
                quiet := if e.ownMark = true ∨ e.heardMark = true then 0 else e.quiet + 1
                age := min 65535 (e.age + 1)
                ownMark := s.dmn.latch
                heardMark := false } }
      (¬ turns ∨ s.jst.condition ≠ .normal ∨ s.jst.frozen = true ∨ 6 ≤ s.jst.queue.length →
        exec (.quarterEnd env) s = .next (kick env { ended door with dmn := dmn })) ∧
      (turns → s.jst.condition = .normal → s.jst.frozen = false → s.jst.queue.length < 6 →
        exec (.quarterEnd env) s = .next (kick env { ended door with
          dmn := dmn
          ptb := { s.ptb with peers := closed, turnover := some proposal }
          jst := { s.jst with
          queue := s.jst.queue ++ [.leg ⟨proposal.leg, proposal.start, proposal.founders⟩] } })))

/-- R58, R18: a listening epoch end shifts and evaluates the peer records, and does nothing more. -/
def Obligations.ListeningEpochEndOnlyShifts : Prop :=
  ∀ (env : Env) (s : State), s.logic = .running → quiet s = true → s.ret.schedule = .listening →
    s.ret.quarter = 4 → s.eve.station = .dormant →
    exec (.quarterEnd env) s = .next (kick env { s with
      ret := { s.ret with position := 0, quarter := 1 }
      ptb := { s.ptb with peers := (s.ptb.peers.map Peer.shift).filterMap Peer.evaluate } })

/-- R16 to R19: with the logic stopped the retention domain advances by itself, and nothing else moves. That the
quarter stays 4 after epoch 16,777,215 (notes/assumptions/12.md), and that an INVALID domain keeps what it holds
(notes/assumptions/8.md), are the model's choices, and so is that a countdown which a DORMANT conclusion held steps
again from the stop on (notes/assumptions/51.md). -/
def Obligations.RetainedTimeRunsAlone : Prop :=
  ∀ (env : Env) (s : State), s.logic = .stopped →
    (s.retValid = true → s.ret.schedule = .running → s.ret.quarter < 4 →
      exec (.quarterEnd env) s =
        .next { s with ret := { s.ret with position := 0, quarter := s.ret.quarter + 1 } }) ∧
    (s.retValid = true → s.ret.schedule = .running → s.ret.quarter = 4 → s.ret.epoch < Config.maxEpoch →
      exec (.quarterEnd env) s =
        .next { s with ret := { s.ret with position := 0, quarter := 1, epoch := s.ret.epoch + 1 } }) ∧
    (s.retValid = true → s.ret.schedule = .running → s.ret.quarter = 4 → s.ret.epoch = Config.maxEpoch →
      exec (.quarterEnd env) s = .next { s with ret := { s.ret with position := 0, schedule := .stopped } }) ∧
    (s.retValid = true → s.ret.schedule = .listening → s.ret.quarter < 4 →
      exec (.quarterEnd env) s =
        .next { s with ret := { s.ret with position := 0, quarter := s.ret.quarter + 1 } }) ∧
    (s.retValid = true → s.ret.schedule = .listening → s.ret.quarter = 4 →
      exec (.quarterEnd env) s = .next { s with ret := { s.ret with position := 0, quarter := 1 } }) ∧
    (s.retValid = true → s.ret.schedule = .idle ∨ s.ret.schedule = .stopped → exec (.quarterEnd env) s = .next s) ∧
    (s.retValid = true → ∀ m p, s.ret.countdown = .counting m p → 1 < m →
      exec (.countdownStep env) s = .next { s with ret := { s.ret with
        countdown := .counting (m - 1) 0, expiredStopped := false } }) ∧
    (s.retValid = true → ∀ p, s.ret.countdown = .counting 1 p →
      exec (.countdownStep env) s = .next { s with ret := { s.ret with
        countdown := .expired, schedule := .running, epoch := 0, quarter := 1, position := 0,
        expiredStopped := true } }) ∧
    (s.retValid = false →
      exec (.quarterEnd env) s = .next s ∧ exec (.countdownStep env) s = .next s)

/-- R20, R22, R23: a minute passes in DORMANT; a conclusion in service holds the countdown. R21, R62, R80, R84: at
start-delay expiry the trip begins, in epoch 0 and leg 0. R62, R111: with the store at rest, the OPEN segment's
allocation begins and the LEG entry of leg 0 waits for it. -/
def Obligations.CountdownAndActivation : Prop :=
  (∀ (env : Env) (m p : Nat) (s : State), s.logic = .running → s.ret.countdown = .counting m p → 1 < m →
     (concluding s = false → exec (.countdownStep env) s = .next { s with
       ret := { s.ret with countdown := .counting (m - 1) 0 }
       tmb := { s.tmb with stall := some 480 } }) ∧
     (concluding s = true → s.eve.station = .dormant → exec (.countdownStep env) s = .next s)) ∧
  (∀ (env : Env) (p : Nat) (s : State), s.logic = .running → s.ret.countdown = .counting 1 p →
     let activated : State := { s with
       ret := { s.ret with
         countdown := .expired, schedule := .running, epoch := 0, quarter := 1, position := 0, firstEpoch := 0 }
       tmb := { s.tmb with stall := some (8 * s.cmr.epochLength) }
       tch := { s.tch with probe := .pending, air := .pending }
       ptb := { s.ptb with
         peers := s.ptb.peers.map fun r => { r with heard := false, fresh := none }
         leg := some 0
         founders := foundersOf s.ptb.peers
         turnover := none }
       dmn := { s.dmn with
         episode := if s.dmn.latch = true then some (.begin .own 0) else none
         closing := none }
       eve := Eve.initial .active 0 }
     (serviceLight s = true → ∃ t, exec (.countdownStep env) s = .next t ∧ Ends activated t) ∧
     (s.rqs.service = none → s.jst.access = .none → s.jst.queue = [] → s.jst.condition = .normal →
       s.jst.frozen = false → openSeg s = none → ∀ i f, planOpen activated = some (i, f) →
       exec (.countdownStep env) s = .next (kick env { activated with
         jst := { s.jst with
           queue := [.leg ⟨0, 0, foundersOf s.ptb.peers⟩]
           wantOpen := some .activation
           access := .alloc .activation i f } })))

/-! ### Stops and restarts -/

/-- R16, R23, R24, R48: the logic stops, and latches why unless a cause is pending; a stall timer that has not run out
stops nothing. The channel is as after a restart, no access and no byte program is in progress, and the rest is as it
was, but for what R123, R95, R158 and R169 say the interrupted accesses and programs leave, `left` holding how far
each had come. R23 has the logic restart after a stall expiry; that it stays STOPPED until a RESTART command is the
model's choice (notes/assumptions/9.md). What a lost retention domain holds is a free value; keeping it apart is the
model's choice too (notes/assumptions/8.md). -/
def Obligations.StopsLatchTheirCause : Prop :=
  (∀ (left : Leftover) (s : State),
    let stopped (ret : Retention) : State := { s with
      logic := .stopped
      ret := ret
      chc := .initial
      store := (dropSuspended left (interruptAccess left s)).store
      jst := { s.jst with access := .none, job := { s.jst.job with suspended := none } }
      cmr := { s.cmr with consignment := (interruptProgram left.bits s).cmr.consignment, program := .none } }
    (s.logic ≠ .stopped → exec (.brownout left) s = .next (stopped
      { s.ret with cause := if s.ret.cause = .none then .brownout else s.ret.cause })) ∧
    (s.logic = .running → s.tmb.stall = some 0 → exec (.stallExpiry left) s = .next (stopped
      { s.ret with cause := if s.ret.cause = .none then .stall else s.ret.cause })) ∧
    (s.tmb.stall ≠ some 0 → exec (.stallExpiry left) s = .next s) ∧
    (s.logic ≠ .stopped → exec (.retentionLoss left) s =
      .next { stopped (Config.lostRetention s.free) with retValid := false, free := s.free + 1 }) ∧
    (s.logic = .stopped → exec (.brownout left) s = .next s ∧
      exec (.retentionLoss left) s =
        .next { s with ret := Config.lostRetention s.free, retValid := false, free := s.free + 1 })) ∧
  (∀ (left : Leftover) (s : State),
    let store := (dropSuspended left (interruptAccess left s)).store
    let header (i : Nat) (h : Header) : List Segment := s.store.set i ⟨h, (segAt s i).slots⟩
    let erased (i : Nat) : List Segment := s.store.set i ((segAt s i).erasedTo left.erase)
    let paged (t : Nat) : List Segment := s.store.set t ((segAt s t).put (8 * s.jst.job.pages + 1)
      (leftSlots (((jobOutput s).drop (8 * s.jst.job.pages)).take 8) left.page))
    (s.jst.job.suspended = none →
      (s.jst.access = .none ∨ s.jst.access = .pageRead → store = s.store) ∧
      (∀ i n e rest, s.jst.access = .entry i n → s.jst.queue = e :: rest →
        store = s.store.set i ((segAt s i).put n (leftSlots e.slots left.entry))) ∧
      (∀ why i f, s.jst.access = .alloc why i f →
        store = header i { (segAt s i).header with alloc := match left.header with
          | .nothing => .failing []
          | .part shown => .failing shown
          | .whole => .fields f }) ∧
      (∀ t q, s.jst.access = .pageProgram → s.jst.job.target = some (t, q) → store = paged t) ∧
      (∀ t q, s.jst.access = .commitMark → s.jst.job.target = some (t, q) →
        store = header t { (segAt s t).header with
          commit := (segAt s t).header.commit || left.header != .nothing }) ∧
      (∀ i, s.jst.access = .protectMark i →
        store = header i { (segAt s i).header with protection := match left.header with
          | .nothing => (segAt s i).header.protection
          | .part _ => .part
          | .whole => .whole (checkpointNumber s) }) ∧
      (∀ i, s.jst.access = .lockMark i →
        store = header i { (segAt s i).header with lock := (segAt s i).header.lock || left.header != .nothing }) ∧
      (∀ i, s.jst.access = .sourceErase i ∨ s.jst.access = .cleanupErase i ∨ s.jst.access = .scanErase i →
        store = erased i)) ∧
    (s.jst.access = .none →
      (∀ t q, s.jst.job.suspended = some .page → s.jst.job.target = some (t, q) → store = paged t) ∧
      (∀ i, s.jst.job.suspended = some (.sourceErase i) ∨ s.jst.job.suspended = some (.cleanupErase i) →
        store = erased i))) ∧
  (∀ (bits : BitVec 32) (s : State),
    let m := (interruptProgram bits s).cmr.consignment
    (s.cmr.program = .none → m = s.cmr.consignment) ∧
    (∀ v, s.cmr.program = .verdictMark v →
      m = Memory.program s.cmr.consignment (verdictMarkAddress v) 0x00 (bits.truncate 8)) ∧
    (∀ a v, s.cmr.program = .commissionByte a v →
      m = Memory.program s.cmr.consignment a v (bits.truncate 8)) ∧
    (s.cmr.program = .conclusionMark → m = Memory.program s.cmr.consignment 49 0x00 (bits.truncate 8)) ∧
    (∀ i a bs, s.cmr.program = .figure i a bs →
      m = Memory.programBytes s.cmr.consignment a bs (missBytes bs.length bits)))

/-- R12, R25 to R27, R48, R70, R82, R84, R102, R129, R164: a part without a commit byte starts BLANK. Without retained state
that is FIRST POWER; with it the restart is a kept one, which reports the pending cause, reinitialises the retention domain
and counts 0. Every block is as after FIRST POWER, with a restoration to make. -/
def Obligations.FirstPowerStartsBlank : Prop :=
  (∀ (light : Bool) (env : Env) (s : State), s.logic = .stopped → s.cmr.commissioned = false → (scanned s).scan = [] →
    let cause : RestartCause :=
      if s.retValid = false then .firstPower else if s.ret.cause = .stall then .stall else .brownout
    exec (.restart light env) s = .next { s with
      logic := .running
      ret := .initial
      retValid := true
      tmb := ⟨none, cause⟩
      tch :=
        { probe := .pending
          air := .pending
          probeOffset := s.cmr.probeOffset
          airOffset := s.cmr.airOffset
          condition := .unknown
          taking := true
          partialWaiting := false }
      chc := .initial
      ptb := .initial
      dmn := .initial light
      eve := { Eve.initial .blank 0 with work :=
        [.restoration ⟨.blank, cause, .none⟩ (factsOf (liveSegments { s with jst := scanned s }))] }
      jst := scanned s
      cmr := { s.cmr with program := .none }
      rqs := { Rqs.initial with spoilt := s.cmr.spoilt } }) ∧
  (∀ s : State, s.store = List.replicate 32 .erased →
    scanned s = .initial ∧ factsOf (liveSegments { s with jst := scanned s }) = factsOf [])

/-- R25, R26, R28, R12, R102: a kept restart in ACTIVE counts itself, names its cause, and hands the epochs missed
between the last covered one and the current one to the restoration. R25 to R27, R29: where each start leads without
retained state, and a kept one in DORMANT or CONCLUDED. R62, R69, R126: activation by a start-up, the restored leg,
and the OPEN segment. R25, R29: a VALID domain that disagrees with the commission record or the journal starts as a
lost one. R28: a kept ACTIVE station whose schedule is STOPPED misses the epochs up to 16,777,215. R99, R102, R163: an
ACTIVE or CONCLUDED station has R102's figures from the start, before the restoration is taken (the model's reading,
notes/assumptions/46.md). -/
def Obligations.KeptRestartCountsMissedEpochs : Prop :=
  (∀ (light : Bool) (env : Env) (s : State), s.logic = .stopped → s.retValid = true → s.cmr.commissioned = true →
    s.cmr.concluded = false → s.ret.countdown = .expired → s.ret.expiredStopped = false →
    s.ret.schedule = .running → (scanned s).scan = [] →
    let f := factsOf (liveSegments { s with jst := scanned s })
    let next := match f.lastCovered with
      | some p => p + 1
      | none => 0
    let cause := if s.ret.cause = .stall then RestartCause.stall else .brownout
    let slot (n : Nat) : QuarterSlot := if n < s.ret.quarter then .lost else .pending
    let quad : Quad := ⟨slot 1, slot 2, slot 3, slot 4⟩
    next ≤ s.ret.epoch →
    ∃ t, exec (.restart light env) s = .next t ∧ t.logic = .running ∧
      t.ret = { s.ret with restarts := min 255 (s.ret.restarts + 1), cause := .none } ∧
      t.tmb = ⟨some (8 * s.cmr.epochLength), cause⟩ ∧ t.eve.station = .active ∧ t.store = s.store ∧
      t.cmr.consignment = s.cmr.consignment ∧ t.rqs.checkpoints = f.checkpoint ∧
      t.eve.work.head? = some (.restoration
        ⟨.active, cause, if s.ret.epoch = next then .none else .count (s.ret.epoch - next)⟩ f) ∧
      t.tch = ⟨quad, quad, s.cmr.probeOffset, s.cmr.airOffset, .unknown, true, false⟩ ∧
      t.dmn = { Dmn.initial light with episode := if light = true then some (.begin .own s.ret.epoch) else none } ∧
      t.ptb.peers = [] ∧ t.rqs.spoilt = s.cmr.spoilt ∧ t.rqs.cursor = none ∧ t.chc.schedule = .none ∧
      t.eve.inputs = [] ∧ t.eve.readingsEpoch = s.ret.epoch) ∧
  (∀ (light : Bool) (env : Env) (s : State), s.logic = .stopped → s.cmr.commissioned = true →
     (scanned s).scan = [] →
     let f := factsOf (liveSegments { s with jst := scanned s })
     let next := match f.lastCovered with
       | some p => p + 1
       | none => 0
     let cause := if s.ret.cause = .stall then RestartCause.stall else .brownout
     let starts (ret : Retention) (tmb : Tmb) (station : Station) (finding : Finding) : Prop :=
       ∃ t, exec (.restart light env) s = .next t ∧ t.logic = .running ∧ t.retValid = true ∧ t.ret = ret ∧
         t.tmb = tmb ∧ t.eve.station = station ∧ t.store = s.store ∧ t.cmr = { s.cmr with program := .none } ∧
         t.rqs.checkpoints = f.checkpoint ∧
         t.eve.work.head? = some (.restoration ⟨station, tmb.lastCause, finding⟩ f)
     let lost (schedule : Schedule) (epoch : Nat) (countdown : Countdown) (restarts firstEpoch : Nat) : Retention :=
       { Retention.initial with
         schedule := schedule
         epoch := epoch
         countdown := countdown
         restarts := restarts
         firstEpoch := firstEpoch }
     let active := Config.maxEpoch ≤ next
     let finding : Finding := if Config.maxEpoch < next then .none else .unknown
     let schedule : Schedule := if active then .stopped else .running
     let epoch := min Config.maxEpoch (next + 1)
     let stall := if active then none else some (8 * s.cmr.epochLength)
     let agrees := (∃ m p, s.ret.countdown = .counting m p) ∧ f.entryPresent = false ∨
       s.ret.countdown = .expired ∧
         (next ≤ s.ret.epoch ∨ s.ret.schedule = .stopped ∧ s.ret.epoch = Config.maxEpoch)
     (s.retValid = false ∨ ¬ agrees → s.cmr.concluded = false → f.entryPresent = true →
       starts (lost schedule epoch .expired (min 255 (f.gaps + 1)) 0) ⟨stall, .retentionLost⟩ .active finding) ∧
     (s.retValid = false ∨ ¬ agrees → s.cmr.concluded = false → f.entryPresent = false → s.cmr.startDelay = 0 →
       starts (lost schedule epoch .expired (min 255 (f.gaps + 1)) epoch) ⟨stall, .retentionLost⟩ .active finding) ∧
     (s.retValid = false ∨ ¬ agrees → s.cmr.concluded = false → f.entryPresent = false → 0 < s.cmr.startDelay →
       starts (lost .listening 0 (.counting s.cmr.startDelay 0) (min 255 (f.gaps + 1)) 0) ⟨some 480, .retentionLost⟩
         .dormant .none) ∧
     (s.retValid = false ∨ s.ret.schedule ≠ .stopped → s.cmr.concluded = true →
       starts (lost .stopped 0 .halted
           (min 255 ((if s.cmr.figureWhole 4 = true then s.cmr.number 61 1 else f.gaps) + 1)) 0)
         ⟨none, .retentionLost⟩ .concluded .none) ∧
     (∀ m p, s.retValid = true → s.cmr.concluded = false → s.ret.countdown = .counting m p →
       f.entryPresent = false →
       starts { s.ret with restarts := min 255 (s.ret.restarts + 1), cause := .none } ⟨some 480, cause⟩ .dormant
         .none) ∧
     (s.retValid = true → s.cmr.concluded = false → s.ret.countdown = .expired → s.ret.expiredStopped = false →
       s.ret.schedule = .stopped → next ≤ s.ret.epoch ∨ s.ret.epoch = Config.maxEpoch →
       starts { s.ret with restarts := min 255 (s.ret.restarts + 1), cause := .none } ⟨none, cause⟩ .active
         (if Config.maxEpoch < next then .none else .count (Config.maxEpoch + 1 - next))) ∧
     (s.retValid = true → s.cmr.concluded = true → s.ret.schedule = .stopped →
       starts { s.ret with restarts := min 255 (s.ret.restarts + 1), cause := .none, expiredStopped := false }
         ⟨none, cause⟩ .concluded .none) ∧
     (s.retValid = true → s.cmr.concluded = false → s.ret.countdown = .expired → s.ret.expiredStopped = true →
       s.ret.schedule = .running → next ≤ s.ret.epoch →
       starts { s.ret with
           restarts := min 255 (s.ret.restarts + 1)
           cause := .none
           expiredStopped := false
           firstEpoch := s.ret.epoch }
         ⟨some (8 * s.cmr.epochLength), cause⟩ .active
         (if s.ret.epoch = next then .none else .count (s.ret.epoch - next)))) ∧
  (∀ (light : Bool) (env : Env) (s t : State), s.logic = .stopped → (scanned s).scan = [] →
     exec (.restart light env) s = .next t →
     let f := factsOf (liveSegments { s with jst := scanned s })
     (∀ e, t.eve.station = .concluded ∨ t.eve.station = .active ∧ (s.retValid = false ∨ s.ret.expiredStopped = false) →
       f.lastLeg = some e → t.ptb.leg = some e.leg ∧ t.ptb.founders = e.founders) ∧
     (t.eve.station = .active → f.lastLeg = none → t.ptb.leg = some 0 ∧ t.ptb.founders = []) ∧
     (∀ i, t.eve.station = .active → openableSeg { s with jst := scanned s } = some i → statusAt t i = .opened) ∧
     (t.eve.station = .active → openableSeg { s with jst := scanned s } = none →
       (∃ i f, t.jst.access = .alloc .startUp i f) ∨ t.jst.condition = .journalFull) ∧
     let account := f.lastAccount.getD (0, 0)
     let standing := coverageStanding f.lastCoverage
     (t.eve.station = .active →
       t.eve.committedExposure = account.1 ∧ t.eve.exposure = account.1 ∧
       t.eve.committedDrawn = account.2 ∧ t.eve.drawn = account.2 ∧ t.eve.run = standing.1 ∧
       t.eve.lastVerdict = standing.2 ∧ t.eve.verdict = committedVerdict t ∧
       t.eve.suspect = false ∧ t.eve.discord = 0 ∧ t.eve.concord = 0) ∧
     (t.eve.station = .concluded → t.jst.frozen = true ∧
       t.eve.committedExposure = (if s.cmr.figureWhole 2 = true then s.cmr.number 55 4 else account.1) ∧
       t.eve.exposure = t.eve.committedExposure ∧
       t.eve.committedDrawn = (if s.cmr.figureWhole 3 = true then s.cmr.number 59 2 else account.2) ∧
       t.eve.drawn = t.eve.committedDrawn ∧ t.eve.run = standing.1 ∧
       t.eve.lastVerdict = (if s.cmr.figureWhole 1 = true then
         standing.2.higher (Verdict.ofCode (s.cmr.number 54 1)) else standing.2) ∧
       t.eve.verdict = committedVerdict t) ∧
     (t.eve.station ≠ .concluded → t.jst.frozen = false))

/-- R125: an erase of the scan has ended; the segment is BLANK if it reads erased, and the next erase begins, or
start-up goes on to its end. R106, R107: what a segment reads as, from its allocation fields and its marks. R124,
R125: what the scan makes of each reading. R144: a source that an erase left in part stays RETIRING in a concluded
part, whatever it reads as; which INVALID segments may be such a source is the model's choice
(notes/assumptions/14.md). R109: the next sequence number is one above the highest in any header; that a field which
reads erased holds none in a header that does not pass (notes/assumptions/13.md), and the status of an INVALID segment
in a concluded part (notes/assumptions/14.md), are the model's choices. R25, R26, R30: a RESTART whose scan has erases
to make resets every block and begins the first; their order (notes/assumptions/47.md) and the moment the restart
counts itself (notes/assumptions/42.md) are the model's choices. -/
def Obligations.ScanEraseEndReadsBack : Prop :=
  (∀ (left : EraseLeft) (env : Env) (i : Nat) (s : State), s.logic = .startUp → s.jst.access = .scanErase i →
    i < s.store.length → s.store.length = 32 →
    (∀ j rest, s.jst.scan = i :: j :: rest →
      exec (.scanEraseEnd left env) s = .next { s with
        store := s.store.set i ((segAt s i).erasedTo left)
        jst := { s.jst with
          status := (s.jst.status.set i
            (if (segAt s i).erasedTo left = .erased then .blank else .outOfService)).set j .erasing
          access := .scanErase j
          scan := j :: rest } }) ∧
    (s.jst.scan = [i] → ∃ t, exec (.scanEraseEnd left env) s = .next t ∧ t.logic = .running ∧ t.retValid = true ∧
      t.store = s.store.set i ((segAt s i).erasedTo left) ∧ t.cmr = s.cmr)) ∧
  (∀ g : Segment,
    let marked := g.header.protection ≠ .clear ∨ g.header.lock = true
    (g = .erased → g.reading = .blank) ∧
    (g ≠ .erased → g.header.stray = true ∨ g.header.alloc = .erased ∨ (∃ shown, g.header.alloc = .failing shown) →
      g.reading = .invalid) ∧
    (∀ f, g.header.alloc = .fields f → g.header.stray = false →
      let passes := 1 ≤ f.seq ∧ f.seq ≤ 65535 ∧ ∀ a b, f.sources = some (a, b) → a ≠ b ∧ a ≠ f.seq ∧ b ≠ f.seq
      (¬ passes → g.reading = .invalid) ∧
      (passes → f.sources = none → g.reading = if g.header.commit = true then .invalid else .journal f) ∧
      (passes → f.sources ≠ none →
        (g.header.commit = true → g.reading = .committedTarget f) ∧
        (g.header.commit = false → ¬ marked → g.reading = .pendingTarget f) ∧
        (g.header.commit = false → marked → g.reading = .invalid))) ∧
    (g.header.marked = true ↔ marked)) ∧
  (∀ (commissioned concluded : Bool) (named : List Nat) (g : Segment),
    let verdict := scanVerdict commissioned concluded named g
    let final := commissioned = true ∧ concluded = true
    let leftover (asFound marked : SegStatus) : Prop :=
      (final → verdict = (asFound, false)) ∧
      (¬ final → g.header.marked = true → verdict = (marked, false)) ∧
      (¬ final → g.header.marked = false → verdict.2 = true)
    (g.reading = .blank → verdict = (.blank, false)) ∧
    let shown : Nat := match g.header.alloc with
      | .erased => 65535
      | .failing numbers => numbers.headD 65535
      | .fields f => f.seq
    let source := ∃ n ∈ named, n ||| shown = shown
    (g.reading = .invalid → (source → leftover .retiring .outOfService) ∧
      (¬ source → leftover .invalidKept .outOfService)) ∧
    (∀ f, g.reading = .pendingTarget f → (f.seq ∈ named → leftover .retiring .outOfService) ∧
      (f.seq ∉ named → leftover .targetPending .outOfService)) ∧
    (∀ f, g.reading = .journal f ∨ g.reading = .committedTarget f →
      (f.seq ∈ named → leftover .retiring .retiring) ∧
      (f.seq ∉ named → commissioned = true → verdict = (.full, false)) ∧
      (f.seq ∉ named → commissioned = false →
        (g.header.marked = true → verdict = (.outOfService, false)) ∧
        (g.header.marked = false → verdict.2 = true)))) ∧
  (∀ (named : List Nat) (g : Segment) (f : AllocFields) (left : EraseLeft), g.header.alloc = .fields f →
    f.seq ≤ 65535 → f.seq ∈ named → g.erasedTo left ≠ .erased →
    scanVerdict true true named (g.erasedTo left) = (.retiring, false)) ∧
  (∀ store : List Segment,
    let names (n : Nat) : Prop := ∃ g ∈ store,
      (∃ shown, g.header.alloc = .failing shown ∧ n ∈ shown ∧ n ≠ 65535) ∨
      ∃ f, g.header.alloc = .fields f ∧ (f.pass = false → n ≠ 65535) ∧
        (n = f.seq ∨ ∃ a b, f.sources = some (a, b) ∧ (n = a ∨ n = b))
    (∀ n, names n → n < nextSeqOf store) ∧ (nextSeqOf store = 1 ∨ names (nextSeqOf store - 1)) ∧
    ∀ n, n ∈ namedSources store ↔ ∃ g ∈ store, ∃ f a b, g.reading = .committedTarget f ∧
      f.sources = some (a, b) ∧ (n = a ∨ n = b)) ∧
  (∀ (light : Bool) (env : Env) (i : Nat) (rest : List Nat) (s : State), s.logic = .stopped →
    (scanned s).scan = i :: rest →
    exec (.restart light env) s = .next { s with
      logic := .startUp
      ret := if s.retValid = true then { s.ret with
          restarts := if s.cmr.commissioned = true then min 255 (s.ret.restarts + 1) else s.ret.restarts
          cause := .none }
        else s.ret
      tmb := ⟨none, if s.retValid = true then (if s.ret.cause = .stall then .stall else .brownout)
        else s.tmb.lastCause⟩
      tch := ⟨.pending, .pending, s.cmr.probeOffset, s.cmr.airOffset, .unknown, true, false⟩
      chc := .initial
      ptb := .initial
      dmn := .initial light
      eve := .initial .blank 0
      cmr := { s.cmr with program := .none }
      rqs := { Rqs.initial with spoilt := s.cmr.spoilt }
      jst := { scanned s with status := (scanned s).status.set i .erasing, access := .scanErase i } })

/-! ### Evidence and verdicts -/

/-- R90: CLAMPED follows the channel the grade names; with grade NONE it is clear. -/
def Obligations.ClampedFlagRule : Prop :=
  ∀ (r : EpochReadings) (suspect : Bool) (items : List Item),
    ((evidence r suspect items).clamped = true ↔
      (((evidence r suspect items).grade = .probe ∧ ∃ p, r.probe = some p ∧ p.clamped = true) ∨
        ((evidence r suspect items).grade = .air ∧ ∃ a, r.air = some a ∧ a.clamped = true) ∨
        ((evidence r suspect items).grade = .peer ∧ ∃ m, median items = some (m, true)))) ∧
    ((evidence r suspect items).grade = .none → (evidence r suspect items).clamped = false)

/-- R59: one item for each CO-LOCATED, heard, fit record with a fresh reading, in ascending order of reading and then
of id. R87: the median is the middle item, or the mean of the two middle ones rounded up, saturated when an item it
rests on is. R88: there is no comparison without an AIR reading or with fewer than two items; three discord epochs
make AIR SUSPECT, six concordant ones clear it. -/
def Obligations.CorroborationRules : Prop :=
  (∀ ps : List Peer,
     (corroborating ps).Pairwise (fun a b => a.value < b.value ∨ a.value = b.value ∧ a.id.toNat ≤ b.id.toNat) ∧
     (corroborating ps).Perm (ps.filterMap fun p =>
       if p.state = .coLocated ∧ p.heard = true ∧ p.fit = true then
         p.fresh.map fun r => ⟨p.id, r.value, r.saturated⟩
       else none) ∧
     ∀ x : Item, x ∈ corroborating ps ↔
       ∃ p ∈ ps, ∃ r, p.state = .coLocated ∧ p.heard = true ∧ p.fit = true ∧ p.fresh = some r ∧
         x = ⟨p.id, r.value, r.saturated⟩) ∧
  (∀ items : List Item, (items.length < 2 → median items = none) ∧
     (2 ≤ items.length → ∃ m sat, median items = some (m, sat) ∧
       (∃ a ∈ items, a.value ≤ m) ∧ (∃ b ∈ items, m ≤ b.value) ∧
       (sat = true → ∃ a ∈ items, a.saturated = true)) ∧
     (∀ k a, 1 ≤ k → items.length = 2 * k + 1 → items[k]? = some a → median items = some (a.value, a.saturated)) ∧
     (∀ k a b, items.length = 2 * k + 2 → items[k]? = some a → items[k + 1]? = some b →
       ∃ m, median items = some (m, a.saturated || b.saturated) ∧ 2 * m - 2 < a.value + b.value ∧
         a.value + b.value ≤ 2 * m)) ∧
  (∀ discord concord : Nat,
     (∀ suspect, airAfter suspect discord concord none = (suspect, discord, concord)) ∧
     (discord < 2 → airAfter false discord concord (some true) = (false, discord + 1, concord)) ∧
     (discord = 2 → airAfter false discord concord (some true) = (true, 0, 0)) ∧
     airAfter false discord concord (some false) = (false, 0, concord) ∧
     airAfter true discord concord (some true) = (true, discord, 0) ∧
     (concord < 5 → airAfter true discord concord (some false) = (true, discord, concord + 1)) ∧
     (concord = 5 → airAfter true discord concord (some false) = (false, 0, 0)) ∧
     (∀ r items m sat, median items = some (m, sat) →
       comparison (some r) items = some (decide (48 < (r.value - m).natAbs))) ∧
     (∀ items, comparison none items = none) ∧
     (∀ air items, items.length < 2 → comparison air items = none))

/-- R89, R90, R91, R94, R97: the grade and value of a close, its flags, CLAMPED among them, and its verdict, and the other
fields of its EPOCH entry. -/
def Obligations.CloseVerdictTable : Prop :=
  ∀ (c : Cmr) (e : Eve) (j : Joined),
    let k := computeClose c e j
    let broken := (∃ v, k.entry.value = some v ∧ (c.ceiling ≤ v ∨ v ≤ c.floor)) ∨ c.budget < k.entry.exposure
    (k.entry.flags.ceiling = true ↔ ∃ v, k.entry.value = some v ∧ c.ceiling ≤ v) ∧
    (k.entry.flags.floor = true ↔ ∃ v, k.entry.value = some v ∧ v ≤ c.floor) ∧
    (k.entry.flags.above = true ↔ ∃ v, k.entry.value = some v ∧ c.upper < v) ∧
    (k.entry.flags.below = true ↔ ∃ v, k.entry.value = some v ∧ v < c.lower) ∧
    (k.entry.value = none ↔ k.entry.grade = .none) ∧
    (k.entry.verdict = .broken ↔ e.verdict = .broken ∨ broken) ∧
    (k.entry.verdict = .intact ↔ e.verdict = .intact ∧ ¬ broken ∧ k.entry.run ≤ c.gapAllowance ∧
      k.entry.exposure = 0) ∧
    (k.entry.verdict = .strained ↔ ¬ broken ∧ k.entry.run ≤ c.gapAllowance ∧
      (e.verdict = .strained ∨ e.verdict = .intact ∧ 0 < k.entry.exposure)) ∧
    e.verdict.rank ≤ k.entry.verdict.rank ∧
    (∀ p, j.readings.probe = some p → k.entry.grade = .probe ∧ k.entry.value = some p.value) ∧
    (j.readings.probe = none →
      (∀ a, j.readings.air = some a → k.entry.flags.suspect = false →
        k.entry.grade = .air ∧ k.entry.value = some a.value) ∧
      (j.readings.air = none ∨ k.entry.flags.suspect = true →
        (∀ m sat, median j.view.items = some (m, sat) → k.entry.grade = .peer ∧ k.entry.value = some m) ∧
        (j.view.items.length < 2 → k.entry.grade = .none))) ∧
    k.entry.epoch = j.epoch ∧ k.entry.peers = j.view.items.length ∧
    k.entry.probe = j.readings.probe.map Reading.value ∧ k.entry.air = j.readings.air.map Reading.value ∧
    (∀ n, j.view.leg = some n → k.entry.leg = n) ∧
    k.entry.flags.door = j.door.inEpisode ∧ k.entry.flags.overrun = j.door.overrun ∧
    (k.entry.flags.discord = true ↔ comparison j.readings.air j.view.items = some true) ∧
    k.entry.flags.suspect =
      (airAfter e.suspect e.discord e.concord (comparison j.readings.air j.view.items)).1 ∧
    (k.entry.flags.partialEpoch = true ↔ j.readings.quarters < 4) ∧
    (k.entry.flags.clamped = true ↔
      (k.entry.grade = .probe ∧ ∃ p, j.readings.probe = some p ∧ p.clamped = true) ∨
      (k.entry.grade = .air ∧ ∃ a, j.readings.air = some a ∧ a.clamped = true) ∨
      (k.entry.grade = .peer ∧ ∃ m, median j.view.items = some (m, true)))

/-- R91 to R93, R101: a draw never takes the drawn allowance beyond A, contribution and draw are the raw
contribution, an episode that is not overrun draws first, and exposure saturates. -/
def Obligations.DrawStaysWithinTheAllowance : Prop :=
  ∀ (c : Cmr) (e : Eve) (j : Joined), e.drawn ≤ c.allowance →
    let k := computeClose c e j
    let excess := match k.entry.value with
      | some v => (v - c.upper).toNat + (c.lower - v).toNat
      | none => 0
    k.entry.drawn = e.drawn + k.entry.draw ∧ k.entry.drawn ≤ c.allowance ∧
    (j.readings.quarters = 4 → k.entry.contribution + k.entry.draw = excess * c.scale) ∧
    (j.readings.quarters < 4 →
      excess * c.scale * j.readings.quarters ≤ 4 * (k.entry.contribution + k.entry.draw) ∧
      4 * (k.entry.contribution + k.entry.draw) < excess * c.scale * j.readings.quarters + 4) ∧
    (j.door.inEpisode = true → j.door.overrun = false →
      k.entry.drawn = c.allowance ∨ k.entry.contribution = 0) ∧
    (j.door.inEpisode = false ∨ j.door.overrun = true → k.entry.draw = 0) ∧
    k.entry.exposure = min 4294967295 (e.exposure + k.entry.contribution) ∧
    (k.entry.grade ≠ .none → k.entry.run = 0) ∧
    (k.entry.grade = .none → k.entry.run = min 65535 (e.run + 1))

/-- R93, R97, R98, R42, R23: an ordinary close that raises no verdict: its figures, its entry, its note content and
the stall timer. R41, R42: the content meets a note schedule that is WAITING or DUE. R79: the draw report of a close
inside an episode, to the open record or to the closing one, whose DOOR entry is then due. R98, R100: an entry refused
at the offer raises the working verdict to UNPROVEN. That a note composed while the station has no leg carries leg byte 0
is the model's choice (notes/assumptions/57.md). -/
def Obligations.OrdinaryCloseAccounts : Prop :=
  ∀ (env : Env) (j : Joined) (rest : List Piece) (i n : Nat) (s : State), s.logic = .running →
    s.eve.current = none → s.cmr.program = .none → s.eve.work = .ordinary j :: rest → j.readings.quarters = 4 →
    emptyEpochWaits s = false → s.jst.access = .entry i n → checkpointRests s = true → s.ret.schedule = .running →
    let k := computeClose s.cmr s.eve j
    let content : NoteContent :=
      ⟨j.epoch, j.readings.air.map Reading.value, j.readings.air.isSome && !k.entry.flags.suspect⟩
    let accounted : State := { s with
      eve := { s.eve with
        work := rest
        exposure := k.entry.exposure
        drawn := k.entry.drawn
        run := k.entry.run
        suspect := k.entry.flags.suspect
        discord := k.eve.discord
        concord := k.eve.concord } }
    let closed (chc : Chc) (dmn : Dmn) (offered : List Entry) : State := { accounted with
      jst := { s.jst with queue := s.jst.queue ++ offered }
      dmn := dmn
      chc := { chc with content := some content }
      tmb := { s.tmb with stall := some (8 * s.cmr.epochLength) } }
    k.entry.verdict = s.eve.verdict →
    (s.jst.condition = .normal → s.jst.frozen = false → s.jst.queue.length < 6 →
      (j.door.inEpisode = false → s.chc.schedule = .none →
        exec (.ordinaryClose env) s = .next (kick env (closed s.chc s.dmn [.epoch k.entry]))) ∧
      (∀ e d arrived, j.door.inEpisode = false → s.chc.schedule = .waiting e d arrived →
        exec (.ordinaryClose env) s = .next (kick env (closed
          { s.chc with schedule := .waiting e d (arrived || e == j.epoch) } s.dmn [.epoch k.entry]))) ∧
      (∀ e, j.door.inEpisode = false → s.chc.schedule = .due e → e ≠ j.epoch →
        exec (.ordinaryClose env) s = .next (kick env (closed s.chc s.dmn [.epoch k.entry]))) ∧
      (j.door.inEpisode = false → s.chc.schedule = .due j.epoch →
        exec (.ordinaryClose env) s = .next (kick env (closed
          { s.chc.offerNote
              { cls := s.cmr.cls
                air := j.readings.air.map fun r => airByte r.value
                fit := content.fit
                door := doorFlag s
                verdict := committedVerdict s
                leg := s.ptb.leg.getD 0 } with
            schedule := .none }
          s.dmn [.epoch k.entry]))) ∧
      (∀ e, j.door.inEpisode = true → s.chc.schedule = .none → s.dmn.closing = none → s.dmn.episode = some e →
        e.start ≤ j.epoch →
        exec (.ordinaryClose env) s = .next (kick env (closed s.chc
          { s.dmn with episode := some { e with drawn := e.drawn + k.entry.draw } } [.epoch k.entry]))) ∧
      (∀ c, j.door.inEpisode = true → s.chc.schedule = .none → s.dmn.closing = some c →
        (c.stop = some j.epoch → s.jst.queue.length < 5 →
          exec (.ordinaryClose env) s = .next (kick env (closed s.chc { s.dmn with closing := none }
            [.epoch k.entry, .door
              ⟨c.start, j.epoch, c.origin, c.overrun, c.drawn + k.entry.draw, false, s.ret.epoch⟩]))) ∧
        (∀ stop, c.stop = some stop → c.start ≤ j.epoch → j.epoch < stop →
          exec (.ordinaryClose env) s = .next (kick env (closed s.chc
            { s.dmn with closing := some { c with drawn := c.drawn + k.entry.draw } } [.epoch k.entry]))))) ∧
    (s.jst.condition ≠ .normal ∨ s.jst.frozen = true ∨ 6 ≤ s.jst.queue.length → j.door.inEpisode = false →
      s.chc.schedule = .none →
      (2 ≤ s.eve.verdict.rank → exec (.ordinaryClose env) s = .next (kick env (closed s.chc s.dmn []))) ∧
      (∀ marks, (s.eve.verdict = .intact ∧ s.cmr.highestMark = .intact ∧ marks = [Verdict.strained, .unproven]) ∨
          (s.eve.verdict = .strained ∧ s.cmr.highestMark = .strained ∧ marks = [.unproven]) →
        exec (.ordinaryClose env) s = .next (kick env { accounted with
          eve := { accounted.eve with current := some ⟨.unproven, marks, .endClose k.rest⟩ }
          cmr := { s.cmr with program := .verdictMark (marks.headD .unproven) } })))

/-- R95, R97: a close whose verdict is higher than the working verdict sets its marks before anything is offered; the
first mark's program begins, and the piece waits, whatever level it starts from. R100: a late refusal raises the
working verdict to UNPROVEN, its marks first, the STRAINED mark only if it is not set; one that stands there already is
left. -/
def Obligations.RaisesProgramMarksFirst : Prop :=
  (∀ (env : Env) (j : Joined) (rest : List Piece) (s : State), s.logic = .running → quiet s = true →
     s.eve.current = none → s.cmr.program = .none → s.eve.work = .ordinary j :: rest → s.ptb.viewTaken = false →
     s.eve.verdict = .intact → s.cmr.highestMark = .intact →
     let k := computeClose s.cmr s.eve j
     ∀ marks, (k.entry.verdict = .strained ∧ marks = [.strained]) ∨
       (k.entry.verdict = .unproven ∧ marks = [.strained, .unproven]) ∨
       (k.entry.verdict = .broken ∧ marks = [Verdict.strained, .unproven, .broken]) →
     exec (.ordinaryClose env) s = .next (kick env { s with
       eve := { k.eve with work := rest, current := some ⟨k.entry.verdict, marks, .offerEpoch k.entry k.rest⟩ }
       cmr := { s.cmr with program := .verdictMark .strained } })) ∧
  (∀ (env : Env) (j : Joined) (rest : List Piece) (s : State), s.logic = .running → quiet s = true →
     s.eve.current = none → s.cmr.program = .none → s.eve.work = .ordinary j :: rest → s.ptb.viewTaken = false →
     let k := computeClose s.cmr s.eve j
     ∀ m ms, (s.eve.verdict = .strained ∧ s.cmr.highestMark = .strained ∧
         (k.entry.verdict = .unproven ∧ m = .unproven ∧ ms = [] ∨
           k.entry.verdict = .broken ∧ m = .unproven ∧ ms = [.broken])) ∨
       (s.eve.verdict = .unproven ∧ s.cmr.highestMark = .unproven ∧ s.cmr.markSet 46 = true ∧
         k.entry.verdict = .broken ∧ m = .broken ∧ ms = []) →
     exec (.ordinaryClose env) s = .next (kick env { s with
       eve := { k.eve with work := rest, current := some ⟨k.entry.verdict, m :: ms, .offerEpoch k.entry k.rest⟩ }
       cmr := { s.cmr with program := .verdictMark m } })) ∧
  (∀ (env : Env) (rest : List Piece) (s : State), s.logic = .running → quiet s = true → s.eve.current = none →
     s.cmr.program = .none → s.eve.work = .lateRefusal :: rest → emptyEpochWaits s = false →
     (2 ≤ s.eve.verdict.rank → exec (.lateRefusal env) s = .next (kick env { s with
       eve := { s.eve with work := rest } })) ∧
     (s.eve.verdict.rank < 2 → s.cmr.highestMark = .intact → exec (.lateRefusal env) s = .next (kick env { s with
       eve := { s.eve with work := rest, current := some ⟨.unproven, [.strained, .unproven], .done⟩ }
       cmr := { s.cmr with program := .verdictMark .strained } })) ∧
     (s.eve.verdict.rank < 2 → s.cmr.markSet 46 = true → s.cmr.markSet 47 = false →
       exec (.lateRefusal env) s = .next (kick env { s with
         eve := { s.eve with work := rest, current := some ⟨.unproven, [.unproven], .done⟩ }
         cmr := { s.cmr with program := .verdictMark .unproven } })) ∧
     (s.eve.verdict.rank < 2 → s.cmr.markSet 46 = true → s.cmr.markSet 47 = true →
       exec (.lateRefusal env) s = .next (kick env { s with
         eve := { s.eve with work := rest, verdict := .unproven } })))

/-- R101, R85: the close of a conclusion with quarters to account moves the figures as DrawStaysWithinTheAllowance
says; one with none changes no figure and programs nothing. R101, R156, R157: the entry offered, and the concluding
figures, which have the door monitor close and give the final epoch; with the schedule STOPPED that is 16,777,215 as
tested when the figures are handed (the model's choice, notes/assumptions/49.md). R95, R100: where the close or its
refusal raises the verdict, the marks come first. R156, third row: the figures of an empty epoch whose views never
come follow the ordinary close before it (the model's reading, notes/assumptions/36.md). -/
def Obligations.PartialCloseProrates : Prop :=
  (∀ (env : Env) (j : Joined) (rest : List Piece) (s : State), s.logic = .running → s.eve.current = none →
    s.cmr.program = .none → s.eve.work = .partialClose j :: rest → s.jst.condition = .normal →
    s.jst.frozen = false → s.jst.queue.length < 6 →
    (j.readings.quarters = 0 → ∃ t, exec (.partialClose env) s = .next t ∧
      SameCore { s with eve := { s.eve with work := rest } } t) ∧
    (1 ≤ j.readings.quarters → j.readings.quarters < 4 →
      let k := computeClose s.cmr s.eve j
      k.entry.verdict = s.eve.verdict →
      ∃ t, exec (.partialClose env) s = .next t ∧ k.entry.flags.partialEpoch = true ∧
        SameCore { s with eve := { s.eve with
          work := rest
          exposure := k.entry.exposure
          drawn := k.entry.drawn
          run := k.entry.run
          suspect := k.entry.flags.suspect
          discord := k.eve.discord
          concord := k.eve.concord } } t)) ∧
  (∀ (env : Env) (j : Joined) (rest : List Piece) (reader : PartyId) (tag : List Byte) (late : Overtaken) (i n : Nat)
    (s : State), s.logic = .running → s.eve.current = none → s.cmr.program = .none → s.jst.access = .entry i n →
    s.rqs.service = some (.conclude reader tag (.closing late)) →
    let k := computeClose s.cmr s.eve j
    let taken (eve : Eve) : State := { s with eve := { eve with work := rest } }
    let marking (target : Verdict) (marks : List Verdict) (next : Continuation) : State :=
      { taken k.eve with
        eve := { k.eve with work := rest, current := some ⟨target, marks, next⟩ }
        cmr := { s.cmr with program := .verdictMark (marks.headD .strained) } }
    let before (e : Nat) : Option Nat :=
      if s.ret.schedule = .stopped then some Config.maxEpoch
      else if e = s.ret.firstEpoch ∨ e = 0 then none
      else some (e - 1)
    let handed (final : Option Nat) (draw : Nat) (s' : State) : State := { closeForConclusion draw final s' with
      rqs := { s.rqs with service := some (.conclude reader tag (.draining final)) } }
    let accepts := s.jst.condition = .normal ∧ s.jst.frozen = false ∧ s.jst.queue.length < 6
    let offered (s' : State) : State := { s' with jst := { s.jst with queue := s.jst.queue ++ [.epoch k.entry] } }
    (s.eve.work = .partialClose j :: rest →
      (j.readings.quarters = 0 →
        exec (.partialClose env) s = .next (kick env (handed (before j.epoch) 0 (taken s.eve)))) ∧
      (1 ≤ j.readings.quarters → j.readings.quarters < 4 → k.entry.verdict = s.eve.verdict →
        (accepts → exec (.partialClose env) s =
          .next (kick env (handed (some j.epoch) k.entry.draw (offered (taken k.eve))))) ∧
        (¬ accepts → 2 ≤ s.eve.verdict.rank → exec (.partialClose env) s =
          .next (kick env (handed (some j.epoch) k.entry.draw (taken k.eve)))) ∧
        (¬ accepts → s.eve.verdict = .intact → s.cmr.highestMark = .intact → exec (.partialClose env) s =
          .next (kick env (marking .unproven [.strained, .unproven] (.endClose k.rest))))) ∧
      (1 ≤ j.readings.quarters → j.readings.quarters < 4 → s.eve.verdict = .intact → s.cmr.highestMark = .intact →
        ∀ marks, (k.entry.verdict = .strained ∧ marks = [.strained]) ∨
          (k.entry.verdict = .unproven ∧ marks = [.strained, .unproven]) ∨
          (k.entry.verdict = .broken ∧ marks = [Verdict.strained, .unproven, .broken]) →
        exec (.partialClose env) s =
          .next (kick env (marking k.entry.verdict marks (.offerEpoch k.entry k.rest))))) ∧
    (∀ e probe air view door, s.eve.work = .ordinary j :: rest → j.readings.quarters = 4 →
      (∀ x, Piece.ordinary x ∉ rest) → s.ptb.viewTaken = true → s.dmn.taking = false →
      s.eve.inputs = [⟨e, some ⟨0, probe, air⟩, view, door⟩] → view = none ∨ door = none →
      k.entry.verdict = s.eve.verdict → accepts → j.door.inEpisode = false → s.chc.schedule = .none →
      s.ret.schedule = .running →
      exec (.ordinaryClose env) s = .next (kick env (handed (before e) 0 { offered (taken k.eve) with
        chc := { s.chc with
          content := some ⟨j.epoch, j.readings.air.map Reading.value,
            j.readings.air.isSome && !k.entry.flags.suspect⟩ }
        tmb := { s.tmb with stall := some (8 * s.cmr.epochLength) } }))))

/-- R102: the figures a restoration builds in ACTIVE, from the last EPOCH or RUN entry, the last coverage entry of
each kind and the verdict marks; in BLANK and DORMANT R84's; in CONCLUDED from the figures that read whole. R103: a
known stretch is added to the run, offers its GAP entry, and asks for UNPROVEN when the run exceeds G. R104: an
unknown one fills the run and asks for UNPROVEN at once. R103: the GAP entries of a known stretch are consecutive,
hold 65,535 epochs at most and every epoch of the stretch, and each is full but the last. -/
def Obligations.RestorationRebuildsFigures : Prop :=
  (∀ (env : Env) (r : Report) (f : Facts) (rest : List Piece) (s : State), s.logic = .running →
     s.eve.current = none → s.cmr.program = .none → s.eve.work = .restoration r f :: rest →
     let rebuilt (exposure drawn run : Nat) (last working : Verdict) : State := { s with eve := { s.eve with
       work := rest
       exposure := exposure
       drawn := drawn
       run := run
       verdict := working
       committedExposure := exposure
       committedDrawn := drawn
       lastVerdict := last
       suspect := false
       discord := 0
       concord := 0 } }
     let account := f.lastAccount.getD (0, 0)
     (quiet s = true → r.station = .blank ∨ r.station = .dormant →
       exec (.restartRestoration env) s = .next (kick env (rebuilt 0 0 0 .intact .intact))) ∧
     (∀ run last,
       (f.lastCoverage = none ∧ run = 0 ∧ last = .intact) ∨
         (∃ e, f.lastCoverage = some (.epoch e) ∧ run = e.run ∧ last = e.verdict) ∨
         (∃ e, f.lastCoverage = some (.run e) ∧ run = 0 ∧ last = e.verdict) ∨
         (∃ e, f.lastCoverage = some (.gap e) ∧ run = e.run ∧ last = e.verdict) →
       let working := last.higher s.cmr.highestMark
       let next := match f.lastCovered with
         | some p => p + 1
         | none => 0
       (quiet s = true → r.station = .active → r.finding = .none →
         exec (.restartRestoration env) s = .next (kick env (rebuilt account.1 account.2 run last working))) ∧
       (quiet s = true → r.station = .concluded →
         let final := if s.cmr.figureWhole 1 = true then last.higher (Verdict.ofCode (s.cmr.number 54 1)) else last
         exec (.restartRestoration env) s = .next (kick env (rebuilt
           (if s.cmr.figureWhole 2 = true then s.cmr.number 55 4 else account.1)
           (if s.cmr.figureWhole 3 = true then s.cmr.number 59 2 else account.2)
           run final (final.higher s.cmr.highestMark)))) ∧
       (∀ i n m cause run', r.station = .active → s.jst.access = .entry i n → checkpointRests s = true →
         (r.finding = .count m ∧ 1 ≤ m ∧ m ≤ 65535 ∧ run' = min 65535 (run + m) ∧
           (r.cause = .brownout ∧ cause = GapCause.brownout ∨ r.cause = .stall ∧ cause = .stall)) ∨
           (r.finding = .unknown ∧ m = 0 ∧ run' = 65535 ∧ cause = .retentionLost) →
         let gap (verdict : Verdict) : GapEntry := ⟨next, if m = 0 then none else some m, cause, run', verdict⟩
         let offered (s' : State) (verdict : Verdict) : State := { s' with
           jst := { s.jst with queue := s.jst.queue ++ [.gap (gap verdict)] } }
         (1 ≤ m ∧ run' ≤ s.cmr.gapAllowance ∨ 2 ≤ working.rank → s.jst.condition = .normal → s.jst.frozen = false →
           s.jst.queue.length < 6 → exec (.restartRestoration env) s =
             .next (kick env (offered (rebuilt account.1 account.2 run' last working) working))) ∧
         (∀ marks, (last = .intact ∧ s.cmr.highestMark = .intact ∧ marks = [Verdict.strained, .unproven]) ∨
             (working = .strained ∧ s.cmr.highestMark = .strained ∧ marks = [.unproven]) →
           m = 0 ∨ s.cmr.gapAllowance < run' →
           exec (.restartRestoration env) s = .next (kick env
             { rebuilt account.1 account.2 run' last working with
               eve := { (rebuilt account.1 account.2 run' last working).eve with
                 current := some ⟨.unproven, marks, .offerGap (gap .intact) []⟩ }
               cmr := { s.cmr with program := .verdictMark (marks.headD .unproven) } }))))) ∧
  (∀ (first n : Nat) (cause : GapCause),
     ((knownGaps first n cause).map fun g => g.count.getD 0).sum = n ∧
     (∀ g ∈ knownGaps first n cause, ∃ m, g.count = some m ∧ 1 ≤ m ∧ m ≤ 65535 ∧ g.cause = cause) ∧
     (∀ i, (h : i + 1 < (knownGaps first n cause).length) →
       (knownGaps first n cause)[i].count = some 65535 ∧
       (knownGaps first n cause)[i + 1].first = (knownGaps first n cause)[i].first + 65535) ∧
     (∀ g, (knownGaps first n cause).head? = some g → g.first = first))

/-- R95: a mark is read back after its program. While it reads clear it is programmed again; once it is set the next
mark follows, and after the last one the working verdict takes the new level. R46, R167: the DISCOVERs that waited for
the program are answered. R97, R98, R100: after the last mark a close offers its entry with the new verdict and ends;
R103: a restoration offers its GAP entry and goes on with the next; R101: the close of a conclusion hands its
figures. What a fragment, a checkpoint or a conclusion that waits to read or to program the commission record
does then is said in FragmentMovesTheCursor, ProtectionMarksAreCounted and ConclusionProgramsItsFigures. -/
def Obligations.VerdictMarkRetriedUntilSet : Prop :=
  (∀ (miss : Byte) (env : Env) (v : Verdict) (w : Waiting) (s : State), s.logic = .running → quiet s = true →
    s.cmr.program = .verdictMark v → s.eve.current = some w → emptyEpochWaits s = false →
    recordAwaited s = false →
    let m := Memory.program s.cmr.consignment (verdictMarkAddress v) 0x00 miss
    (Memory.read m (verdictMarkAddress v) = 0xFF →
      exec (.verdictMarkProgrammed miss env) s =
        .next (kick env (answered env { s with cmr := { s.cmr with consignment := m } }))) ∧
    (Memory.read m (verdictMarkAddress v) ≠ 0xFF → ∀ x rest, w.marks = v :: x :: rest →
      exec (.verdictMarkProgrammed miss env) s = .next (kick env (answered env { s with
        eve := { s.eve with current := some { w with marks := x :: rest } }
        cmr := { s.cmr with consignment := m, program := .verdictMark x } }))) ∧
    (Memory.read m (verdictMarkAddress v) ≠ 0xFF → w.marks = [v] → w.next = .done →
      exec (.verdictMarkProgrammed miss env) s = .next (kick env (answered env { s with
        eve := { s.eve with current := none, verdict := w.target }
        cmr := { s.cmr with consignment := m, program := .none } })))) ∧
  (∀ (miss : Byte) (env : Env) (v target : Verdict) (next : Continuation) (i n : Nat) (s : State),
    s.logic = .running → quiet s = true → s.cmr.program = .verdictMark v → s.eve.current = some ⟨target, [v], next⟩ →
    s.jst.access = .entry i n → recordAwaited s = false →
    let m := Memory.program s.cmr.consignment (verdictMarkAddress v) 0x00 miss
    Memory.read m (verdictMarkAddress v) ≠ 0xFF →
    let raised (run : Nat) (offered : List Entry) : State := { s with
      eve := { s.eve with current := none, verdict := target, run := run }
      cmr := { s.cmr with consignment := m, program := .none }
      jst := { s.jst with queue := s.jst.queue ++ offered } }
    let ends (t : State) : Prop := exec (.verdictMarkProgrammed miss env) s = .next (kick env (answered env t))
    let room (k : Nat) : Prop := s.jst.condition = .normal ∧ s.jst.frozen = false ∧ s.jst.queue.length + k ≤ 6
    let calm := emptyEpochWaits s = false
    let runAfter (run : Nat) : Option Nat → Nat
      | some k => min 65535 (run + k)
      | none => 65535
    let closed (r : CloseEnd) (s' : State) : State := { s' with
      chc := { s.chc with content := some ⟨r.epoch, r.air, r.fit⟩ }
      tmb := if s.ret.schedule = .stopped then s.tmb else { s.tmb with stall := some (8 * s.cmr.epochLength) } }
    (∀ r, calm → r.quarters = 4 → r.inEpisode = false → s.chc.schedule = .none →
      (∀ e, next = .offerEpoch e r →
        (room 1 → ends (closed r (raised s.eve.run [.epoch { e with verdict := target }]))) ∧
        (¬ room 1 → 2 ≤ target.rank → ends (closed r (raised s.eve.run []))) ∧
        (¬ room 1 → target = .strained → v = .strained → Memory.read m 47 = 0xFF →
          ends { raised s.eve.run [] with
            eve := { s.eve with verdict := .strained, current := some ⟨.unproven, [.unproven], .endClose r⟩ }
            cmr := { s.cmr with consignment := m, program := .verdictMark .unproven } })) ∧
      (next = .endClose r → ends (closed r (raised s.eve.run [])))) ∧
    (calm → 2 ≤ target.rank →
      (∀ g, next = .offerGap g [] →
        (room 1 → ends (raised s.eve.run [.gap { g with verdict := target }])) ∧
        (¬ room 1 → ends (raised s.eve.run []))) ∧
      (∀ g h, next = .offerGap g [h] →
        let run := runAfter s.eve.run h.count
        (room 2 → ends (raised run [.gap { g with verdict := target }, .gap { h with run := run, verdict := target }])) ∧
        (¬ room 1 → ends (raised run []))) ∧
      (next = .gaps [] → ends (raised s.eve.run [])) ∧
      (∀ g, next = .gaps [g] →
        let run := runAfter s.eve.run g.count
        (room 1 → ends (raised run [.gap { g with run := run, verdict := target }])) ∧
        (¬ room 1 → ends (raised run [])))) ∧
    (∀ r reader tag late, 1 ≤ r.quarters → r.quarters < 4 →
      s.rqs.service = some (.conclude reader tag (.closing late)) →
      let handed (s' : State) : State := { closeForConclusion r.draw (some r.epoch) s' with
        rqs := { s.rqs with service := some (.conclude reader tag (.draining (some r.epoch))) } }
      (next = .endClose r → ends (handed (raised s.eve.run []))) ∧
      (∀ e, next = .offerEpoch e r → room 1 →
        ends (handed (raised s.eve.run [.epoch { e with verdict := target }])))))

/-! ### The hold channel -/

/-- R37, R39, R40: a queued head is sensed when the transmitter is IDLE. Clear, it goes on air; busy, it backs off for
the drawn slots; at its eighth busy report it is discarded and the next head is sensed. That a sense reports within
the command that begins it, and a second one with it when the first discards its frame, is the model's choice
(notes/assumptions/21.md). -/
def Obligations.CarrierSense : Prop :=
  ∀ (env : Env) (f : Frame) (rest : List Frame) (s : State),
    (s.chc.transmitter = .idle → s.chc.queue = f :: rest → env.busy = false →
      kick env s = { s with chc := { s.chc with queue := rest, busy := 0, transmitter := .onAir f } }) ∧
    (s.chc.transmitter = .idle → s.chc.queue = f :: rest → env.busy = true → s.chc.busy < 7 →
      kick env s = { s with chc := { s.chc with
        busy := s.chc.busy + 1, transmitter := .backoff (env.backoff.val + 1) } }) ∧
    (s.chc.transmitter = .idle → s.chc.queue = [f] → env.busy = true → s.chc.busy = 7 →
      kick env s = { s with chc := { s.chc with queue := [], busy := 0, transmitter := .idle } }) ∧
    (∀ g, s.chc.transmitter = .idle → s.chc.queue = f :: g :: rest → env.busy = true → s.chc.busy = 7 →
      env.busyNext = false →
      kick env s = { s with chc := { s.chc with queue := rest, busy := 0, transmitter := .onAir g } }) ∧
    (s.chc.transmitter = .idle → s.chc.queue = [] → kick env s = s) ∧
    (∀ n, s.chc.transmitter = .backoff n → kick env s = s) ∧
    (∀ x, s.chc.transmitter = .onAir x → kick env s = s)

/-- R39, R41, R43, R46: what the channel controller's own events do; CarrierSense says what follows. R38: an offered
note replaces the queued one where it stands, joins the tail, or is dropped. R76: the door flag it carries. That a note
composed while the station has no leg carries leg byte 0 is the model's choice (notes/assumptions/57.md). -/
def Obligations.ChannelEvents : Prop :=
  (∀ (env : Env) (s : State), s.logic = .running →
    (∀ n, s.chc.transmitter = .backoff n →
      exec (.backoffEnd env) s = .next (kick env { s with chc := { s.chc with transmitter := .idle } })) ∧
    (∀ f, s.chc.transmitter = .onAir f →
      exec (.transmissionEnd env) s = .next (kick env { s with chc := { s.chc with transmitter := .idle } })) ∧
    (∀ h, s.chc.hold = some h →
      exec (.discoveryDelayExpiry env) s = .next (kick env (replied h.reader (.discover h.reply)
        { s with chc := { s.chc with hold := none } }))) ∧
    (∀ e d, s.chc.schedule = .waiting e d false →
      exec (.noteDelayExpiry env) s = .next (kick env { s with chc := { s.chc with schedule := .due e } })) ∧
    (∀ e d, s.chc.schedule = .waiting e d true →
      let note : Note :=
        { cls := s.cmr.cls
          air := s.chc.content.bind fun c => c.air.map airByte
          fit := (s.chc.content.map NoteContent.fit).getD false
          door := doorFlag s
          verdict := committedVerdict s
          leg := s.ptb.leg.getD 0 }
      (s.chc.queue.any Frame.isNote = false → s.chc.queue.length < 4 →
        exec (.noteDelayExpiry env) s = .next (kick env { s with chc := { s.chc with
          queue := s.chc.queue ++ [.note note], schedule := .none } })) ∧
      (s.chc.queue.any Frame.isNote = false → 4 ≤ s.chc.queue.length →
        exec (.noteDelayExpiry env) s = .next (kick env { s with chc := { s.chc with schedule := .none } })) ∧
      (∀ old rest, s.chc.queue = .note old :: rest →
        exec (.noteDelayExpiry env) s = .next (kick env { s with chc := { s.chc with
          queue := .note note :: rest, schedule := .none } })) ∧
      exec (.noteDelayExpiry env) s = .next (kick env { s with chc := { s.chc.offerNote note with
        schedule := .none } }))) ∧
  (∀ (c : Chc) (n : Note),
    (∀ before old after, c.queue = before ++ .note old :: after → before.any Frame.isNote = false →
      c.offerNote n = { c with queue := before ++ .note n :: after }) ∧
    (c.queue.any Frame.isNote = false → c.queue.length < 4 →
      c.offerNote n = { c with queue := c.queue ++ [.note n] }) ∧
    (c.queue.any Frame.isNote = false → 4 ≤ c.queue.length → c.offerNote n = c)) ∧
  (∀ s : State,
    (s.eve.station ≠ .active → doorFlag s = .closed) ∧
    (s.eve.station = .active → s.dmn.latch = true → doorFlag s = .light) ∧
    (∀ e, s.eve.station = .active → s.dmn.latch = false → s.dmn.episode = some e →
      doorFlag s = if e.relay = true then .relayed else .closed) ∧
    (s.dmn.latch = false → s.dmn.episode = none → doorFlag s = .closed))

/-- R33, R35, R36: a frame that is discarded leaves no trace, and a request other than DISCOVER sent to the
broadcast address is not taken (R165). R34, R48: a frame that arrives before the restart report or while the station is on
air, or was in reception when such a time ended, is lost whatever it is. -/
def Obligations.DiscardedFramesLeaveNoTrace : Prop :=
  (∀ (a b : PartyId) (level : Int) (bytes fields : List Byte) (code : Option Byte) (left : Leftover) (env : Env)
    (s : State),
    exec (.unsoundFrame bytes) s = .next s ∧
    exec (.replyFrame a b bytes) s = .next s ∧
    exec (.discardedNote a level bytes) s = .next s ∧
    exec (.requestForAnotherStation a b bytes) s = .next s ∧
    exec (.unknownRequest ⟨a, true⟩ code fields env) s = .next s ∧
    exec (.commission ⟨a, true⟩ fields env) s = .next s ∧
    exec (.queryStatus ⟨a, true⟩ fields env) s = .next s ∧
    exec (.queryPeers ⟨a, true⟩ fields env) s = .next s ∧
    exec (.read ⟨a, true⟩ fields env) s = .next s ∧
    exec (.readOn ⟨a, true⟩ fields env) s = .next s ∧
    exec (.checkpoint ⟨a, true⟩ fields left env) s = .next s ∧
    exec (.conclude ⟨a, true⟩ fields left env) s = .next s) ∧
  (∀ (req : Request) (sender : PartyId) (level : Int) (bytes : List Byte) (code : Option Byte) (left : Leftover)
    (env : Env) (s : State),
    s.logic ≠ .running ∨ (∃ f, s.chc.transmitter = .onAir f) ∨ env.clipped = true →
    exec (.chillNote sender level bytes env) s = .next s ∧
    exec (.discover req bytes env) s = .next s ∧
    exec (.unknownRequest req code bytes env) s = .next s ∧
    exec (.commission req bytes env) s = .next s ∧
    exec (.queryStatus req bytes env) s = .next s ∧
    exec (.queryPeers req bytes env) s = .next s ∧
    exec (.read req bytes env) s = .next s ∧
    exec (.readOn req bytes env) s = .next s ∧
    exec (.checkpoint req bytes left env) s = .next s ∧
    exec (.conclude req bytes left env) s = .next s)

/-- R44, with q the quotient floor((r + 2) / 4); R36 takes the byte back. -/
def Obligations.AirByteRounding : Prop :=
  (∀ r q : Int, 4 * q ≤ r + 2 → r + 2 < 4 * q + 4 →
    (q < -128 → airByte r = -128) ∧ (127 < q → airByte r = 127) ∧ (-128 ≤ q → q ≤ 127 → airByte r = q)) ∧
  (∀ (n : Note) (b : Int), n.air = some b → ∃ p, n.reading = some p ∧ p.value = b * 4)

/-! ### Peers and the door -/

/-- R34, R35, R36, R48: a note that is not delivered, arrives in BLANK or CONCLUDED or fails the payload checks changes
nothing. R51 to R54: an accepted note
updates its sender's record, or creates one; in a full table it replaces the record R54 chooses, or is ignored. A note
that is not accepted changes nothing; that one which comes while a commissioning waits for its OPEN segment is not
(R61) is the model's choice (notes/assumptions/44.md). R55, R75: a LIGHT note from a CO-LOCATED record reaches the
door monitor of an ACTIVE station; that an episode it opens after the close of epoch 16,777,215 starts at 16,777,215 is the
model's choice (notes/assumptions/56.md). -/
def Obligations.ChillNoteUpdatesItsRecord : Prop :=
  (∀ (sender : PartyId) (level : Int) (payload : List Byte) (env : Env) (s : State),
    delivered env s = false ∨ s.eve.station = .blank ∨ s.eve.station = .concluded ∨ parseNote payload = none →
    exec (.chillNote sender level payload env) s = .next s) ∧
  (∀ (sender : PartyId) (level : Int) (payload : List Byte) (env : Env) (n : Note) (s : State),
    delivered env s = true → sender ≠ 0 → sender ≠ BitVec.allOnes 32 →
    s.eve.station = .dormant ∨ s.eve.station = .active →
    parseNote payload = some n →
    let heardAt := if level < -120 then -120 else if -20 < level then -20 else level
    (sender = s.cmr.stationId ∨ n.cls ≠ s.cmr.cls ∨ heardAt < s.cmr.linkThreshold ∨ s.ptb.viewTaken = true ∨
        opening s = true →
      exec (.chillNote sender level payload env) s = .next (kick env s)) ∧
    (sender ≠ s.cmr.stationId → n.cls = s.cmr.cls → s.cmr.linkThreshold ≤ heardAt → s.ptb.viewTaken = false →
      opening s = false →
      (∀ before p after, s.ptb.peers = before ++ p :: after → p.id = sender →
        (∀ x ∈ before ++ after, x.id ≠ sender) → n.door ≠ .light →
        exec (.chillNote sender level payload env) s = .next (kick env { s with ptb := { s.ptb with
          peers := before ++ after ++ [{ p with
            heard := true
            level := heardAt
            fit := n.fit
            door := n.door
            fresh := n.air.map fun b => ⟨b * 4, b == -128 || b == 127⟩
            verdict := n.verdict
            leg := n.leg }] } })) ∧
      ((∀ x ∈ s.ptb.peers, x.id ≠ sender) → s.ptb.peers.length < 12 →
        exec (.chillNote sender level payload env) s = .next (kick env { s with ptb := { s.ptb with
          peers := s.ptb.peers ++ [
            { id := sender
              state := .heard
              history := List.replicate 8 false
              heard := true
              level := heardAt
              fit := n.fit
              door := n.door
              fresh := n.air.map fun b => ⟨b * 4, b == -128 || b == 127⟩
              verdict := n.verdict
              leg := n.leg }] } })) ∧
      ((∀ x ∈ s.ptb.peers, x.id ≠ sender ∧ x.state = .coLocated) → s.ptb.peers.length = 12 →
        exec (.chillNote sender level payload env) s = .next (kick env s)) ∧
      (∀ before old after, s.ptb.peers = before ++ old :: after → s.ptb.peers.length = 12 →
        (∀ x ∈ s.ptb.peers, x.id ≠ sender) → (∀ x ∈ before ++ after, x.id ≠ old.id) →
        let score (p : Peer) : Nat := (p.history.filter id).length + (if p.heard = true then 1 else 0)
        let chosen : Prop := (∀ x ∈ before, x.state = old.state → score old < score x) ∧
          (∀ x ∈ after, x.state = old.state → score old ≤ score x)
        (old.state = .lapsing ∧ chosen ∨
          old.state = .heard ∧ (∀ x ∈ s.ptb.peers, x.state ≠ .lapsing) ∧ chosen) →
        exec (.chillNote sender level payload env) s = .next (kick env { s with ptb := { s.ptb with
          peers := before ++ after ++ [
            { id := sender
              state := .heard
              history := List.replicate 8 false
              heard := true
              level := heardAt
              fit := n.fit
              door := n.door
              fresh := n.air.map fun b => ⟨b * 4, b == -128 || b == 127⟩
              verdict := n.verdict
              leg := n.leg }] } })) ∧
      (∀ before p after, s.ptb.peers = before ++ p :: after → p.id = sender →
        (∀ x ∈ before ++ after, x.id ≠ sender) → n.door = .light →
        let heard : State := { s with ptb := { s.ptb with
          peers := before ++ after ++ [{ p with
            heard := true
            level := heardAt
            fit := n.fit
            door := n.door
            fresh := n.air.map fun b => ⟨b * 4, b == -128 || b == 127⟩
            verdict := n.verdict
            leg := n.leg }] } }
        (s.eve.station = .dormant ∨ p.state ≠ .coLocated ∨ s.dmn.taking = false →
          exec (.chillNote sender level payload env) s = .next (kick env heard)) ∧
        (s.eve.station = .active → p.state = .coLocated → s.dmn.taking = true →
          exec (.chillNote sender level payload env) s = .next (kick env { heard with dmn := { s.dmn with
            episode := match s.dmn.episode with
              | some e => some { e with heardMark := true, relay := true }
              | none => some
                { start := s.ret.epoch
                  origin := .heard
                  age := 0
                  ownMark := false
                  heardMark := true
                  relay := true
                  quiet := 0
                  overrun := false
                  drawn := 0
                  stop := none } } })))))

/-- R57: the state of a record after the evaluation, from its hearing count; a record that is removed leaves the
table. R56: the shift of a close. R62, R64: the founding list has the CO-LOCATED records, strongest first, 8 at most.
-/
def Obligations.HearingCountMovesPeers : Prop :=
  (∀ p : Peer,
    let h := (p.history.filter id).length
    (p.state = .heard → h = 0 → p.evaluate = none) ∧
    (p.state = .heard → 1 ≤ h → h ≤ 4 → p.evaluate = some p) ∧
    (p.state = .heard → 5 ≤ h → p.evaluate = some { p with state := .coLocated }) ∧
    (p.state = .coLocated → h ≤ 2 → p.evaluate = some { p with state := .lapsing }) ∧
    (p.state = .coLocated → 3 ≤ h → p.evaluate = some p) ∧
    (p.state = .lapsing → h = 0 → p.evaluate = none) ∧
    (p.state = .lapsing → 1 ≤ h → h ≤ 4 → p.evaluate = some p) ∧
    (p.state = .lapsing → 5 ≤ h → p.evaluate = some { p with state := .coLocated }) ∧
    (∀ ps, closePeers (p :: ps) = (match p.shift.evaluate with
      | some q => q :: closePeers ps
      | none => closePeers ps)) ∧
    p.shift = { p with history := p.heard :: p.history.take 7, heard := false, fresh := none }) ∧
  (∀ ps : List Peer, ∃ near : List Peer, near.Perm (ps.filter fun p => p.state == .coLocated) ∧
    near.Pairwise (fun a b => b.level < a.level ∨ a.level = b.level ∧ a.id.toNat ≤ b.id.toNat) ∧
    foundersOf ps = (near.take 8).map Peer.id)

/-- R45, R73, R74: the latch follows the line; a rise in ACTIVE opens an episode, or marks the open one, and offers a
door note. R77, R78: the open episode at an ACTIVE epoch end. A second quiet epoch closes it; otherwise it ages, and
its own mark follows the line. R38: the door note of a rise meets what the queue holds. R79: the draw report, and an
older record that still waits when the episode closes. R81: rises while no events are taken, and the close for a
conclusion. A rise while a commissioning waits for its OPEN segment opens an episode as any other (notes/assumptions/45.md)
and its note carries leg byte 0 (notes/assumptions/57.md), and an episode opened after the close of epoch 16,777,215 starts
at 16,777,215 (notes/assumptions/56.md); these are the model's choices. -/
def Obligations.LightMovesTheLatchAndTheEpisode : Prop :=
  (∀ (light : Bool) (env : Env) (s : State),
     (s.logic = .stopped → exec (.lightEvent light env) s = .next s) ∧
     (s.dmn.latch = light → exec (.lightEvent light env) s = .next s) ∧
     (s.logic ≠ .stopped → s.dmn.latch ≠ light → light = false ∨ s.eve.station ≠ .active →
       exec (.lightEvent light env) s = .next { s with dmn := { s.dmn with latch := light } }) ∧
     (s.logic = .running → s.dmn.latch = false → s.eve.station = .active → s.dmn.taking = true →
       s.chc.queue.any Frame.isNote = false → s.chc.queue.length < 4 →
       exec (.lightEvent true env) s = .next (kick env { s with
         dmn := { s.dmn with
           latch := true
           episode := match s.dmn.episode with
             | some e => some { e with ownMark := true }
             | none => some
               { start := s.ret.epoch
                 origin := .own
                 age := 0
                 ownMark := true
                 heardMark := false
                 relay := false
                 quiet := 0
                 overrun := false
                 drawn := 0
                 stop := none } }
         chc := { s.chc with
         queue := s.chc.queue ++ [.note
           { cls := s.cmr.cls
             air := s.chc.content.bind fun c => c.air.map airByte
             fit := (s.chc.content.map NoteContent.fit).getD false
             door := .light
             verdict := committedVerdict s
             leg := s.ptb.leg.getD 0 }] } })) ∧
     (s.logic = .running → s.dmn.latch = false → s.eve.station = .active → s.dmn.taking = true →
       exec (.lightEvent true env) s = .next (kick env { s with
         dmn := { s.dmn with
           latch := true
           episode := match s.dmn.episode with
             | some e => some { e with ownMark := true }
             | none => some
               { start := s.ret.epoch
                 origin := .own
                 age := 0
                 ownMark := true
                 heardMark := false
                 relay := false
                 quiet := 0
                 overrun := false
                 drawn := 0
                 stop := none } }
         chc := s.chc.offerNote
           { cls := s.cmr.cls
             air := s.chc.content.bind fun c => c.air.map airByte
             fit := (s.chc.content.map NoteContent.fit).getD false
             door := .light
             verdict := committedVerdict s
             leg := s.ptb.leg.getD 0 } })) ∧
     (s.logic = .startUp ∨ s.logic = .running ∧ s.dmn.taking = false → s.dmn.latch ≠ light →
       exec (.lightEvent light env) s = .next { s with dmn := { s.dmn with latch := light } })) ∧
  (∀ (epoch : Nat) (e : Episode) (s : State), s.dmn.episode = some e → s.dmn.closing = none →
     settleEpisode epoch s =
       (if e.ownMark = false ∧ e.heardMark = false ∧ 1 ≤ e.quiet then
         { s with dmn := { s.dmn with
           episode := none
           closing := some { e with quiet := e.quiet + 1, stop := some epoch } } }
       else
         { s with dmn := { s.dmn with
           episode := some { e with
             quiet := if e.ownMark = true ∨ e.heardMark = true then 0 else e.quiet + 1
             age := min 65535 (e.age + 1)
             ownMark := s.dmn.latch
             heardMark := false } } })) ∧
  (∀ (e : Episode) (stop : Nat) (conclusion : Bool) (s : State),
     offerDoor e stop conclusion s =
       (offer (.door ⟨e.start, stop, e.origin, e.overrun, e.drawn, conclusion, s.ret.epoch⟩) s).1) ∧
  (∀ (epoch stop : Nat) (c e : Episode) (s : State), s.dmn.closing = some c → c.stop = some stop →
     s.dmn.episode = some e → e.ownMark = false → e.heardMark = false → 1 ≤ e.quiet →
     settleEpisode epoch s = { offerDoor c stop false s with dmn := { s.dmn with
       episode := none
       closing := some { e with quiet := e.quiet + 1, stop := some epoch } } }) ∧
  (∀ (epoch draw : Nat) (s : State),
     (∀ c, s.dmn.closing = some c → c.stop = some epoch →
       drawReport epoch draw s =
         { offerDoor { c with drawn := c.drawn + draw } epoch false s with dmn := { s.dmn with closing := none } }) ∧
     (∀ c stop, s.dmn.closing = some c → c.stop = some stop → c.start ≤ epoch → epoch < stop →
       drawReport epoch draw s =
         { s with dmn := { s.dmn with closing := some { c with drawn := c.drawn + draw } } }) ∧
     (∀ c stop e, s.dmn.closing = some c → c.stop = some stop → stop < epoch → s.dmn.episode = some e →
       drawReport epoch draw s = (if e.start ≤ epoch then
         { s with dmn := { s.dmn with episode := some { e with drawn := e.drawn + draw } } } else s)) ∧
     (∀ e, s.dmn.closing = none → s.dmn.episode = some e →
       drawReport epoch draw s = (if e.start ≤ epoch then
         { s with dmn := { s.dmn with episode := some { e with drawn := e.drawn + draw } } } else s)) ∧
     (s.dmn.closing = none → s.dmn.episode = none → drawReport epoch draw s = s)) ∧
  (∀ (draw : Nat) (final : Option Nat) (s : State),
     let stopOf (e : Episode) : Nat := match final with
       | some f => max f e.start
       | none => e.start
     let ended (s' : State) : State := { s' with dmn := { s.dmn with episode := none, closing := none } }
     (∀ e, s.dmn.closing = none → s.dmn.episode = some e →
       closeForConclusion draw final s = ended (offerDoor { e with drawn := e.drawn + draw } (stopOf e) true s)) ∧
     (∀ c stop, s.dmn.closing = some c → c.stop = some stop →
       let first (d : Nat) : State := offerDoor { c with drawn := c.drawn + d } stop false s
       (s.dmn.episode = none → final = some stop → closeForConclusion draw final s = ended (first draw)) ∧
       (s.dmn.episode = none → final ≠ some stop → closeForConclusion draw final s = ended (first 0)) ∧
       (∀ e, s.dmn.episode = some e → final = some stop →
         closeForConclusion draw final s = ended (offerDoor e (stopOf e) true (first draw))) ∧
       (∀ e, s.dmn.episode = some e → final ≠ some stop →
         closeForConclusion draw final s =
           ended (offerDoor { e with drawn := e.drawn + draw } (stopOf e) true (first 0)))) ∧
     (s.dmn.closing = none → s.dmn.episode = none → closeForConclusion draw final s = s))

/-! ### Requests -/

/-- R165: the request of unknown code is answered FORMAT, whatever the station is doing. R46, R165, R167: DISCOVER,
sent to this station or to all, is answered through the discovery hold; with a payload it has no reply; while a byte
is being programmed its sender waits. R165: so is one whose form is unsound, a payload where none belongs, or a QUERY
with another option. What is echoed for a request without a code byte is the model's free value
(notes/assumptions/26.md). -/
def Obligations.UnknownRequestAndDiscover : Prop :=
  (∀ (req : Request) (code : Byte) (fields : List Byte) (env : Env) (s : State), reaches req env s = true →
     quiet s = true → code.toNat < 0x10 ∨ 0x16 < code.toNat →
     exec (.unknownRequest req (some code) fields env) s =
       .next (kick env (replied req.reader (.status code .format) s))) ∧
  (∀ (req : Request) (fields : List Byte) (left : Leftover) (env : Env) (s : State), reaches req env s = true →
     quiet s = true →
     let format (code : Byte) := kick env (replied req.reader (.status code .format) s)
     exec (.unknownRequest req none fields env) s = .next (format Config.missingCodeEcho) ∧
     (fields ≠ [0x01] → fields ≠ [0x02] →
       exec (.queryStatus req fields env) s = .next (format 0x12) ∧
       exec (.queryPeers req fields env) s = .next (format 0x12)) ∧
     (fields ≠ [] →
       exec (.readOn req fields env) s = .next (format 0x14) ∧
       exec (.checkpoint req fields left env) s = .next (format 0x15)) ∧
     (parseCommission fields = none → exec (.commission req fields env) s = .next (format 0x11)) ∧
     (parseRead fields = none → exec (.read req fields env) s = .next (format 0x13)) ∧
     (parseConclude fields = none → exec (.conclude req fields left env) s = .next (format 0x16))) ∧
  (∀ (req : Request) (fields : List Byte) (env : Env) (s : State), delivered env s = true → req.reader ≠ 0 →
     req.reader ≠ BitVec.allOnes 32 →
     (fields ≠ [] → exec (.discover req fields env) s = .next s) ∧
     (s.cmr.program ≠ .none → exec (.discover req [] env) s = .next { s with
       rqs := { s.rqs with discovers := s.rqs.discovers ++ [req.reader] } }) ∧
     (s.cmr.program = .none → exec (.discover req [] env) s = .next { s with chc := { s.chc with
     hold := some
       ⟨req.reader,
         { id := s.cmr.stationId
           cls := if s.eve.station = .blank then none else some s.cmr.cls
           state := reportedState s
           verdict := if s.eve.station = .blank then .intact else committedVerdict s },
         env.discovery.val⟩ } }))

/-- R165, R166: a request that arrives while one is in service, or while a byte is being programmed, is answered
BUSY. R149, R154, R165, R166, R168, R173, R179: what a request that cannot be served is answered. -/
def Obligations.RefusedRequestsNameTheirReason : Prop :=
  (∀ (req : Request) (fields : List Byte) (left : Leftover) (env : Env) (s : State), reaches req env s = true →
     quiet s = true → s.rqs.service ≠ none ∨ s.cmr.program ≠ .none →
     let busy (code : Byte) := kick env (replied req.reader (.status code .busy) s)
     ((parseCommission fields).isSome = true → exec (.commission req fields env) s = .next (busy 0x11)) ∧
     exec (.queryStatus req [0x01] env) s = .next (busy 0x12) ∧
     exec (.queryPeers req [0x02] env) s = .next (busy 0x12) ∧
     ((parseRead fields).isSome = true → exec (.read req fields env) s = .next (busy 0x13)) ∧
     exec (.readOn req [] env) s = .next (busy 0x14) ∧
     exec (.checkpoint req [] left env) s = .next (busy 0x15) ∧
     ((parseConclude fields).isSome = true → exec (.conclude req fields left env) s = .next (busy 0x16))) ∧
  (∀ (req : Request) (fields : List Byte) (left : Leftover) (env : Env) (s : State), free req env s = true →
     quiet s = true →
     let reply (code : Byte) (status : Status) := kick env (replied req.reader (.status code status) s)
     (parseCommission fields = none → exec (.commission req fields env) s = .next (reply 0x11 .format)) ∧
     (∀ t, parseCommission fields = some t → s.eve.station ≠ .blank ∨ s.rqs.spoilt = true →
       exec (.commission req fields env) s = .next (reply 0x11 .state)) ∧
     (∀ t, parseCommission fields = some t → s.eve.station = .blank → s.rqs.spoilt = false →
       t.clamped.acceptable = false → exec (.commission req fields env) s = .next (reply 0x11 .terms)) ∧
     (parseRead fields = none → exec (.read req fields env) s = .next (reply 0x13 .format)) ∧
     (∀ l, parseRead fields = some l → s.eve.station = .blank →
       exec (.read req fields env) s = .next (reply 0x13 .state)) ∧
     (∀ l, parseRead fields = some l → s.eve.station ≠ .blank → startEpoch (journal s) l = none →
       exec (.read req fields env) s = .next (reply 0x13 .range)) ∧
     (s.eve.station = .blank → exec (.readOn req [] env) s = .next (reply 0x14 .state)) ∧
     (s.eve.station ≠ .blank → (∀ c, s.rqs.cursor = some c → c.owner ≠ req.reader) →
       exec (.readOn req [] env) s = .next (reply 0x14 .cursor)) ∧
     (s.eve.station ≠ .active → exec (.checkpoint req [] left env) s = .next (reply 0x15 .state)) ∧
     (s.eve.station = .active → 32 ≤ s.rqs.checkpoints →
       exec (.checkpoint req [] left env) s = .next (reply 0x15 .limit)) ∧
     (s.eve.station = .active → s.rqs.checkpoints < 32 → s.jst.condition = .journalFull →
       exec (.checkpoint req [] left env) s = .next (reply 0x15 .store)) ∧
     (parseConclude fields = none → exec (.conclude req fields left env) s = .next (reply 0x16 .format)) ∧
     (∀ x, parseConclude fields = some x → s.eve.station = .blank ∨ s.eve.station = .concluded →
       exec (.conclude req fields left env) s = .next (reply 0x16 .state)) ∧
     (∀ x, parseConclude fields = some x → s.eve.station = .dormant ∨ s.eve.station = .active →
       x.1 ≠ s.cmr.reference → exec (.conclude req fields left env) s = .next (reply 0x16 .mismatch)))

/-- R168, R169: a COMMISSION that is taken programs its first byte, the class, and has the commit byte last. R168:
each term brought into its range, the two checks on the clamped terms, and the adjusted terms with the values stored;
that they stand in the order of their codes is the model's choice (notes/assumptions/28.md). -/
def Obligations.CommissionBeginsPrograms : Prop :=
  (∀ (req : Request) (fields : List Byte) (env : Env) (t : RawTerms) (s : State), free req env s = true →
    quiet s = true → s.eve.station = .blank → s.rqs.spoilt = false → parseCommission fields = some t →
    t.clamped.acceptable = true →
    ∃ rest, t.clamped.programs = (0, BitVec.ofNat 8 t.cls) :: rest ∧ rest.getLast? = some (45, 0x00) ∧
      exec (.commission req fields env) s = .next (kick env { s with
        rqs := { s.rqs with
        service :=
          some (.commission req.reader ((0, BitVec.ofNat 8 t.cls) :: rest) false t.adjusted) }
        cmr := { s.cmr with program := .commissionByte 0 (BitVec.ofNat 8 t.cls) } })) ∧
  (∀ t : RawTerms,
    let c := t.clamped
    let limit (x : Int) : Int := max (-640) (min 960 x)
    c.cls = t.cls ∧ c.upper = limit t.upper ∧ c.lower = limit t.lower ∧ c.ceiling = limit t.ceiling ∧
    c.floor = limit t.floor ∧ c.budget = min 16383 t.budget ∧ c.allowance = min 1023 t.allowance ∧
    c.gap = min 255 t.gap ∧ c.delay = min 1440 t.delay ∧ c.link = max (-100) (min (-40) t.link) ∧
    c.reference = t.reference ∧
    (t.length < 15 → c.length = 15) ∧ (600 < t.length → c.length = 600) ∧
    (15 ≤ t.length → t.length ≤ 600 → 15 ∣ c.length ∧ c.length ≤ t.length ∧ t.length < c.length + 15) ∧
    (c.acceptable = true ↔ 1 ≤ t.cls ∧ t.cls ≤ 7 ∧ c.floor ≤ c.lower ∧ c.lower < c.upper ∧ c.upper ≤ c.ceiling) ∧
    (t.adjusted.map Prod.fst).Pairwise (· < ·) ∧
    (∀ code value, (code, value) ∈ t.adjusted ↔
      code = 1 ∧ c.upper ≠ t.upper ∧ value = c.upper ∨
      code = 2 ∧ c.lower ≠ t.lower ∧ value = c.lower ∨
      code = 3 ∧ c.ceiling ≠ t.ceiling ∧ value = c.ceiling ∨
      code = 4 ∧ c.floor ≠ t.floor ∧ value = c.floor ∨
      code = 5 ∧ c.budget ≠ t.budget ∧ value = c.budget * 64 ∨
      code = 6 ∧ c.allowance ≠ t.allowance ∧ value = c.allowance * 64 ∨
      code = 7 ∧ c.gap ≠ t.gap ∧ value = c.gap ∨
      code = 8 ∧ c.length ≠ t.length ∧ value = c.length ∨
      code = 9 ∧ c.delay ≠ t.delay ∧ value = c.delay ∨
      code = 10 ∧ c.link ≠ t.link ∧ value = c.link))

/-- R169 to R171: a byte that reads back as composed is followed by the next; one that does not is programmed once
more, and then the part is spoilt. The commit byte completes the commissioning, once any part of it reads programmed
(notes/assumptions/23.md). R46, R167: the DISCOVERs that waited for the program are answered. -/
def Obligations.CommissionBytesFollow : Prop :=
  ∀ (miss : Byte) (env : Env) (a : Nat) (v : Byte) (reader : PartyId) (todo : List (Nat × Byte)) (again : Bool)
    (adjusted : List (Nat × Int)) (s : State), s.logic = .running → quiet s = true →
    s.cmr.program = .commissionByte a v → s.rqs.service = some (.commission reader ((a, v) :: todo) again adjusted) →
    let m := Memory.program s.cmr.consignment a v miss
    (∀ b w more, a ≠ 45 → Memory.read m a = v → todo = (b, w) :: more →
      exec (.commissionByteProgrammed miss env) s = .next (kick env (answered env { s with
        rqs := { s.rqs with service := some (.commission reader todo false adjusted) }
        cmr := { s.cmr with consignment := m, program := .commissionByte b w } }))) ∧
    (a ≠ 45 ∧ Memory.read m a ≠ v ∨ a = 45 ∧ Memory.read m a = 0xFF → again = false →
      exec (.commissionByteProgrammed miss env) s = .next (kick env (answered env { s with
        rqs := { s.rqs with service := some (.commission reader ((a, v) :: todo) true adjusted) }
        cmr := { s.cmr with consignment := m } }))) ∧
    (a ≠ 45 ∧ Memory.read m a ≠ v ∨ a = 45 ∧ Memory.read m a = 0xFF → again = true →
      exec (.commissionByteProgrammed miss env) s =
        .next (kick env (answered env (replied reader (.status 0x11 .store) { s with
          rqs := { s.rqs with service := none, spoilt := true }
          cmr := { s.cmr with consignment := m, program := .none } })))) ∧
    (a = 45 → todo = [] → Memory.read m a ≠ 0xFF →
      let c : Cmr := { s.cmr with consignment := m, program := .none }
      let ret (schedule : Schedule) (countdown : Countdown) : Retention :=
        { s.ret with
          schedule := schedule
          epoch := 0
          quarter := 1
          position := 0
          countdown := countdown
          restarts := 0
          cause := .none
          expiredStopped := false
          firstEpoch := 0 }
      (0 < c.startDelay →
        exec (.commissionByteProgrammed miss env) s = .next (kick env (answered env (replied reader
          (.commission .dormant adjusted) { s with
            ret := ret .listening (.counting c.startDelay 0)
            tmb := { s.tmb with stall := some 480 }
            eve := .initial .dormant 0
            ptb := .initial
            rqs := { s.rqs with service := none, checkpoints := 0 }
            cmr := c })))) ∧
      (c.startDelay = 0 →
        ∃ t, exec (.commissionByteProgrammed miss env) s = .next t ∧ SameCore
          (answered env { s with
            ret := ret .running .expired
            tmb := { s.tmb with stall := some (8 * c.epochLength) }
            eve := .initial .active 0
            ptb := .initial
            rqs := { s.rqs with service := some (.opening reader adjusted), checkpoints := 0 }
            cmr := c }) t))

/-- R71, R172: a query is answered from what the station holds, and changes nothing else. R146, R126, R163, R172: the
state, the phase and the store condition reported; that in CONCLUDED the condition follows the BLANK segments left is
the model's choice (notes/assumptions/25.md). -/
def Obligations.QueriesChangeNothing : Prop :=
  (∀ s : State,
    (reportedState s = .blank ↔ s.eve.station = .blank ∧ s.rqs.spoilt = false) ∧
    (reportedState s = .blankSpoilt ↔ s.eve.station = .blank ∧ s.rqs.spoilt = true) ∧
    (reportedState s = .dormant ↔ s.eve.station = .dormant) ∧
    (reportedState s = .active ↔ s.eve.station = .active) ∧
    (reportedState s = .concluded ↔ s.eve.station = .concluded) ∧
    (s.jst.job.stopped = true → reportedPhase s = .stopped) ∧
    (s.jst.job.stopped = false →
      (s.jst.job.phase = .none → s.jst.job.cleanup = none → reportedPhase s = .idle) ∧
      (s.jst.job.phase = .none → s.jst.job.cleanup ≠ none → reportedPhase s = .cleanup) ∧
      (s.jst.job.phase = .planning → reportedPhase s = .planning) ∧
      (s.jst.job.phase = .allocate → reportedPhase s = .allocate) ∧
      (s.jst.job.phase = .copy → reportedPhase s = .copy) ∧
      (s.jst.job.phase = .commit → reportedPhase s = .commit) ∧
      (s.jst.job.phase = .erase1 → reportedPhase s = .erase1) ∧
      (s.jst.job.phase = .erase2 → reportedPhase s = .erase2)) ∧
    (s.eve.station ≠ .concluded → (reportedFull s = true ↔ s.jst.condition = .journalFull)) ∧
    (s.eve.station = .concluded → (reportedFull s = true ↔ ∀ i, i < 32 → statusAt s i ≠ .blank))) ∧
  (∀ (req : Request) (env : Env) (s : State), free req env s = true → quiet s = true →
    exec (.queryStatus req [0x01] env) s = .next (kick env (replied req.reader (.queryStatus
      { id := s.cmr.stationId
        state := reportedState s
        verdict := committedVerdict s
        exposure := s.eve.committedExposure
        drawn := s.eve.committedDrawn
        epoch := if s.eve.station = .active ∧ s.ret.schedule = .running then some s.ret.epoch else none
        run := s.eve.run
        leg := s.ptb.leg
        coLocated := (s.ptb.peers.filter fun p => p.state == .coLocated).length
        suspect := s.eve.suspect
        probe := s.tch.condition
        journalFull := reportedFull s
        blanks := blankCount s
        phase := reportedPhase s
        suspended := s.jst.job.suspended.isSome
        cause := s.tmb.lastCause
        restarts := s.ret.restarts
        figures := if s.eve.station = .concluded then some (Memory.readBytes s.cmr.consignment 50 13) else none }) s)) ∧
    exec (.queryPeers req [0x02] env) s = .next (kick env (replied req.reader (.queryPeers
      { leg := s.ptb.leg
        turnover := s.ptb.turnover.map Turnover.leg
        founders := s.ptb.founders
        records := s.ptb.peers.reverse }) s)))

/-- R173 to R175, R179, R180: a READ or READ-ON that can be served takes the array, when it is free, and its walk
begins. R140: a page program or an erase in flight is suspended for it. R173: the base epoch of each base, and the
start epoch. R175: where the walk of an UNANCHORED and of an ANCHORED cursor begins. -/
def Obligations.ReadsBeginAFragment : Prop :=
  (∀ (es : List Entry) (l : Locator),
    (l.base = .absolute → baseEpoch es l.base = some 0) ∧
    (∀ n, l.base = .leg n →
      (∀ before x after, es = before ++ Entry.leg x :: after → x.leg = n → (∀ y, Entry.leg y ∈ before → y.leg ≠ n) →
        baseEpoch es l.base = some x.start) ∧
      ((∀ y, Entry.leg y ∈ es → y.leg ≠ n) → baseEpoch es l.base = none)) ∧
    (∀ n, l.base = .checkpoint n →
      (∀ before x after, es = before ++ Entry.checkpoint x :: after → x.number = n →
        (∀ y, Entry.checkpoint y ∈ before → y.number ≠ n) → baseEpoch es l.base = some x.epoch) ∧
      ((∀ y, Entry.checkpoint y ∈ es → y.number ≠ n) → baseEpoch es l.base = none)) ∧
    (baseEpoch es l.base = none → startEpoch es l = none) ∧
    (∀ b, baseEpoch es l.base = some b →
      (16777215 < b + l.displacement → startEpoch es l = none) ∧
      (∀ w, l.window = some w → w < b + l.displacement → startEpoch es l = none) ∧
      (b + l.displacement ≤ 16777215 → (∀ w, l.window = some w → b + l.displacement ≤ w) →
        startEpoch es l = some (b + l.displacement)))) ∧
  (∀ (es : List Entry) (c : Cursor),
    let below (epoch : Nat) (e : Entry) : Prop := ∃ first last, e.coverage = some (first, last) ∧ last < epoch
    let afterLast (epoch j : Nat) : Prop := (j = 0 ∧ ∀ e ∈ es, ¬ below epoch e) ∨
      ∃ before e after, es = before ++ e :: after ∧ below epoch e ∧ (∀ x ∈ after, ¬ below epoch x) ∧
        j = before.length + 1
    let stamped (e : Entry) : Prop := e.coverage = none ∧ c.start ≤ e.stamp
    (∀ j, c.position = .unanchored → afterLast c.start j →
      ((∀ e ∈ es, ¬ stamped e) → walkStart es c = j) ∧
      (∀ before e after, es = before ++ e :: after → stamped e → (∀ x ∈ before, ¬ stamped x) →
        walkStart es c = min j before.length)) ∧
    (∀ epoch carry j others rest, c.position = .anchored epoch carry → afterLast epoch j →
      es.drop j = others ++ rest → (∀ x ∈ others, x.coverage = none) → (∀ x, rest.head? = some x → x.coverage ≠ none) →
      walkStart es c = j + min carry others.length)) ∧
  (∀ (req : Request) (fields : List Byte) (env : Env) (s : State), free req env s = true → quiet s = true →
    s.jst.access = .none → s.eve.station ≠ .blank →
    (∀ l start, parseRead fields = some l → startEpoch (journal s) l = some start →
      let c : Cursor := ⟨req.reader, start, l.stride, l.window, .unanchored⟩
      exec (.read req fields env) s = .next (kick env { s with
        rqs := { s.rqs with service := some (.fragment c (.read s.eve.station) (some (walkStart (journal s) c)) none) } })) ∧
    (∀ c, s.rqs.cursor = some c → c.owner = req.reader →
      exec (.readOn req [] env) s = .next (kick env { s with
        rqs := { s.rqs with service := some (.fragment c .readOn (some (walkStart (journal s) c)) none) } }))) ∧
  (∀ (req : Request) (fields : List Byte) (env : Env) (suspended : Suspended) (s : State), free req env s = true →
    s.jst.wantOpen = none → s.jst.queue = [] → s.eve.station ≠ .blank →
    (s.jst.access = .pageProgram ∧ suspended = .page) ∨
      (∃ i, s.jst.access = .sourceErase i ∧ suspended = .sourceErase i) ∨
      (∃ i, s.jst.access = .cleanupErase i ∧ suspended = .cleanupErase i) →
    let walking (c : Cursor) (asked : Asked) : State := { s with
      jst := { s.jst with access := .none, job := { s.jst.job with suspended := some suspended } }
      rqs := { s.rqs with service := some (.fragment c asked (some (walkStart (journal s) c)) none) } }
    (∀ l start, parseRead fields = some l → startEpoch (journal s) l = some start →
      exec (.read req fields env) s =
        .next (kick env (walking ⟨req.reader, start, l.stride, l.window, .unanchored⟩ (.read s.eve.station)))) ∧
    (∀ c, s.rqs.cursor = some c → c.owner = req.reader →
      exec (.readOn req [] env) s = .next (kick env (walking c .readOn))))

/-- R173, R177: the composed fragment is the reply, and the cursor moves to its end. A READ that finds nothing in
DORMANT or CONCLUDED is answered RANGE, by the station state it was taken in (R166). R165: the status line waits for a
byte program in progress, and is read when that program ends, before the next one begins. R115, R180: where a
fragment's reads and a waiting entry both want the array, the walk sees the entry or not, as the order drawn has it;
an entry whose first attempt has failed comes first. That the fragment is composed from the journal as it stands when
FRAGMENT_COMPOSED is taken, where its reads did not come first, is the model's reading (notes/assumptions/16.md). -/
def Obligations.FragmentMovesTheCursor : Prop :=
  (∀ (env : Env) (c : Cursor) (asked : Asked) (start : Nat) (seen : Option Nat) (s : State), s.logic = .running →
    s.cmr.program = .none → s.jst.access = .none ∨ seen ≠ none →
    s.rqs.service = some (.fragment c asked (some start) seen) →
    quiet { s with rqs := { s.rqs with service := none } } = true →
    let seenJournal := match seen with
      | some n => (journal s).take n
      | none => journal s
    let g := composeFragment seenJournal c start
    let moved : Cursor := { c with position := g.position }
    let quietState : State := { s with rqs := { s.rqs with service := none } }
    (asked = .readOn ∨ g.entries ≠ [] ∨ asked = .read .active →
      exec (.fragmentComposed env) s = .next (kick env (replied c.owner
        (.fragment (asked == .readOn)
          { state := reportedState s
            verdict := committedVerdict s
            entries := g.entries.length
            more := g.more
            cursorEpoch := moved.epoch }
          g.entries)
        { s with rqs := { s.rqs with service := none, cursor := some moved } }))) ∧
    (asked = .read .dormant ∨ asked = .read .concluded → g.entries = [] →
      exec (.fragmentComposed env) s =
        .next (kick env (replied c.owner (.status 0x13 .range) quietState)))) ∧
  (∀ (env : Env) (c : Cursor) (asked : Asked) (start : Nat) (seen : Option Nat) (s : State), s.logic = .running →
    s.rqs.service = some (.fragment c asked (some start) seen) →
    (s.jst.access ≠ .none → seen = none → exec (.fragmentComposed env) s = .next s) ∧
    (s.cmr.program ≠ .none → s.jst.access = .none ∨ seen ≠ none →
      exec (.fragmentComposed env) s = .next { s with rqs := { s.rqs with
        service := some (.statusLine c asked start (match seen with
          | some n => n
          | none => (journal s).length)) } })) ∧
  (∀ (miss : Byte) (env : Env) (v : Verdict) (w : Waiting) (c : Cursor) (asked : Asked) (start seen : Nat) (s : State),
    s.logic = .running → s.cmr.program = .verdictMark v → s.eve.current = some w →
    s.rqs.service = some (.statusLine c asked start seen) →
    quiet { s with rqs := { s.rqs with service := none } } = true →
    let m := Memory.program s.cmr.consignment (verdictMarkAddress v) 0x00 miss
    let g := composeFragment ((journal s).take seen) c start
    let moved : Cursor := { c with position := g.position }
    let read : State := { s with cmr := { s.cmr with consignment := m, program := .none } }
    asked = .readOn ∨ g.entries ≠ [] ∨ asked = .read .active →
    let served (current : Waiting) (program : CrProgram) : State := replied c.owner
      (.fragment (asked == .readOn)
        { state := reportedState s
          verdict := committedVerdict read
          entries := g.entries.length
          more := g.more
          cursorEpoch := moved.epoch }
        g.entries)
      { s with
        eve := { s.eve with current := some current }
        cmr := { s.cmr with consignment := m, program := program }
        rqs := { s.rqs with service := none, cursor := some moved } }
    (Memory.read m (verdictMarkAddress v) = 0xFF →
      exec (.verdictMarkProgrammed miss env) s = .next (kick env (answered env (served w (.verdictMark v))))) ∧
    (∀ x rest, Memory.read m (verdictMarkAddress v) ≠ 0xFF → w.marks = v :: x :: rest →
      exec (.verdictMarkProgrammed miss env) s =
        .next (kick env (answered env (served { w with marks := x :: rest } (.verdictMark x)))))) ∧
  (∀ (env : Env) (c : Cursor) (asked : Asked) (e : Entry) (rest : List Entry) (i : Nat) (s : State), s.logic = .running →
    s.jst.access = .none → s.jst.wantOpen = none → s.jst.queue = e :: rest → openSeg s = some i →
    (segAt s i).slots.length + 1 + e.size ≤ 127 → s.rqs.service = some (.fragment c asked none none) →
    let appending : State := { s with jst := { s.jst with access := .entry i ((segAt s i).slots.length + 1) } }
    (env.readFirst = true → s.jst.secondTry = false → settle env s = kick env { appending with
      rqs := { s.rqs with
      service := some (.fragment c asked (some (walkStart (journal s) c)) (some (journal s).length)) } }) ∧
    (env.readFirst = false ∨ s.jst.secondTry = true → settle env s = kick env appending))

/-- R176: a fragment holds entries of the journal in order, from the walk's beginning on, in six slots at most: the
included ones in their order, as many as fit before one that does not. R177: the position is after the last entry
sent, or as it was. R178: which entries are RESTATED. -/
def Obligations.FragmentHoldsSixSlots : Prop :=
  (∀ (es : List Entry) (c : Cursor) (start : Nat),
    let g := composeFragment es c start
    (g.entries.map Prod.fst).Sublist (es.drop start) ∧
    ((g.entries.map Prod.fst).map Entry.size).sum ≤ 6 ∧
    (∀ e ∈ g.entries, c.includes e.1 = true) ∧
    (g.more = false → g.entries.map Prod.fst = (es.drop start).filter c.includes) ∧
    let qualifying := (es.drop start).filter c.includes
    let sent := g.entries.map Prod.fst
    sent = qualifying.take sent.length ∧
    (g.more = true ↔ sent.length < qualifying.length) ∧
    (g.more = true → ∃ e, qualifying[sent.length]? = some e ∧ 6 < (sent.map Entry.size).sum + e.size) ∧
    (g.entries = [] → g.position = c.position) ∧
    (∀ e, sent.getLast? = some e → ∃ i, start ≤ i ∧ es[i]? = some e ∧
      ((es.drop start).take (i + 1 - start)).filter c.includes = sent ∧
      g.position = anchorAfter (es.take (i + 1))) ∧
    (∀ p ∈ g.entries, p.2 = true ↔ ∃ first last, p.1.coverage = some (first, last) ∧ first < c.epoch)) ∧
  (∀ (c : Cursor) (e : Entry), c.includes e = true ↔
    (∀ first last, e.coverage = some (first, last) → c.start ≤ last) ∧
    (∀ x, e = .epoch x → (x.epoch - c.start) % c.stride = 0) ∧
    (∀ w, c.window = some w → e.stamp ≤ w)) ∧
  (∀ c : Cursor,
    (c.position = .unanchored → c.epoch = c.start) ∧
    (∀ e k, c.position = .anchored e k → c.epoch = max c.start e)) ∧
  (anchorAfter [] = .anchored 0 0 ∧
    ∀ (es : List Entry) (e : Entry) (a k : Nat), anchorAfter es = .anchored a k →
      (∀ first last, e.coverage = some (first, last) → anchorAfter (es ++ [e]) = .anchored (last + 1) 0) ∧
      (e.coverage = none → anchorAfter (es ++ [e]) = .anchored a (k + 1)))

/-- R175, R177: READ-ON goes on at the entry after the last one sent, in a journal whose coverage rises. -/
def Obligations.ReadOnContinuesWhereItStopped : Prop :=
  ∀ (es : List Entry) (c : Cursor) (i : Nat),
    (es.filterMap Entry.coverage).Pairwise (fun a b => a.2 < b.2) → i < es.length →
    walkStart es { c with position := anchorAfter (es.take (i + 1)) } = i + 1

/-! ### Checkpoints and conclusion -/

/-- R149 to R151: a checkpoint with an idle job takes its number and programs the first protection mark. R152: with
every live segment protected, the checkpoint's entry is composed from the committed figures and offered; a refusal at
the offer is reported. R143: what the checkpoint does to a job in each phase. R150: the marks wait for a header
program of the job, and the entry is offered when they are done. R149, R120: a SHORT store takes a checkpoint too; it stays
SHORT while work that can free a segment is left. That a page read in progress stays in progress beside the marks is the
model's reading (notes/assumptions/39.md). -/
def Obligations.CheckpointSteps : Prop :=
  let settled (t : State) : State :=
    if t.jst.condition ≠ .short then t
    else if (planOpen t).isSome = true then { t with jst := { t.jst with condition := .normal } }
    else if canFree t = true then t
    else { t with jst := { t.jst with
      condition := .journalFull
      status := match openSeg t with
        | some j => t.jst.status.set j .full
        | none => t.jst.status } }
  (∀ (req : Request) (left : Leftover) (env : Env) (i : Nat) (s : State), free req env s = true → quiet s = true →
     s.jst.access = .none → s.eve.station = .active → s.rqs.checkpoints < 32 → s.jst.condition ≠ .journalFull →
     s.jst.job = .initial → nextProtect s [] = some i →
     exec (.checkpoint req [] left env) s = .next (kick env (settled { s with
       rqs := { s.rqs with
         checkpoints := s.rqs.checkpoints + 1
         service := some (.checkpoint req.reader (s.rqs.checkpoints + 1) s.ret.epoch (.marking [] false 0 0)) }
       jst := { s.jst with access := .protectMark i } }))) ∧
  (∀ (reader : PartyId) (number epoch newly failed : Nat) (s : State),
     let e : CheckpointEntry := ⟨number, epoch, reader, committedVerdict s, s.eve.committedExposure⟩
     (s.jst.condition = .normal → s.jst.frozen = false → s.jst.queue.length < 6 → s.jst.access = .none →
       offerCheckpoint reader number epoch newly failed s = { s with
         jst := { s.jst with queue := s.jst.queue ++ [.checkpoint e] }
         rqs := { s.rqs with
         service := some
           (.checkpoint reader number epoch (.entry e.verdict e.exposure newly failed)) } }) ∧
     (s.jst.condition ≠ .normal ∨ s.jst.frozen = true ∨ 6 ≤ s.jst.queue.length →
       offerCheckpoint reader number epoch newly failed s =
         replied reader (.checkpoint number epoch e.verdict e.exposure false newly failed)
           { s with rqs := { s.rqs with service := none } })) ∧
  (∀ (req : Request) (left : Leftover) (env : Env) (i : Nat) (s : State), free req env s = true →
     s.jst.wantOpen = none → s.jst.queue = [] → s.eve.station = .active → s.rqs.checkpoints < 32 →
     s.jst.condition ≠ .journalFull →
     let number := s.rqs.checkpoints + 1
     let taken (step : CheckpointStep) : Rqs :=
       { s.rqs with checkpoints := number, service := some (.checkpoint req.reader number s.ret.epoch step) }
     let marking (store : List Segment) (job : Job) : State := { s with
       store := store
       rqs := taken (.marking [] false 0 0)
       jst := { s.jst with access := .protectMark i, job := job } }
     let erasing (k : Suspended) : State := marking s.store { s.jst.job with suspended := some k }
     ((∃ k f, s.jst.access = .alloc .target k f) ∨ s.jst.access = .commitMark →
       exec (.checkpoint req [] left env) s = .next (kick env { s with rqs := taken .dealing })) ∧
     (s.jst.access = .pageRead → s.jst.job.phase = .planning → nextProtect s [] = some i →
       exec (.checkpoint req [] left env) s = .next (kick env (settled { s with
         rqs := taken (.marking [] false 0 0)
         jst := { s.jst with job := { Job.initial with cleanup := s.jst.job.cleanup } } }))) ∧
     (∀ t q, s.jst.access = .pageRead → s.jst.job.phase = .copy → s.jst.job.suspended = none →
       s.jst.job.target = some (t, q) → nextProtect s [] = some i →
       exec (.checkpoint req [] left env) s = .next (kick env (settled { s with
         rqs := taken (.marking [] false 0 0)
         jst := { s.jst with job := { Job.initial with cleanup := some t } } }))) ∧
     (∀ t q, s.jst.access = .pageProgram → s.jst.job.phase = .copy → s.jst.job.target = some (t, q) →
       let paged := s.store.set t ((segAt s t).put (8 * s.jst.job.pages + 1)
         (leftSlots (((jobOutput s).drop (8 * s.jst.job.pages)).take 8) left.page))
       nextProtect { s with store := paged } [] = some i →
       exec (.checkpoint req [] left env) s =
         .next (kick env (settled (marking paged { Job.initial with cleanup := some t })))) ∧
     (∀ k, s.jst.access = .sourceErase k → s.jst.job.phase = .erase1 ∨ s.jst.job.phase = .erase2 →
       nextProtect s [] = some i →
       exec (.checkpoint req [] left env) s = .next (kick env (settled (erasing (.sourceErase k))))) ∧
     (∀ k, s.jst.access = .cleanupErase k → s.jst.job.phase = .none → nextProtect s [] = some i →
       exec (.checkpoint req [] left env) s = .next (kick env (settled (erasing (.cleanupErase k))))))

/-- R154, R155, R161, R10, R67, R81: a conclusion is taken. In DORMANT its mark is programmed at once; in ACTIVE
readings, notes and door events end, and the epoch in progress goes on the work list as a partial close. R144, R120:
what the conclusion does to a job in each phase, and to a SHORT store. R135, R140: a page read in progress is waited
for, and brings the job it ends nothing. That a cleanup target which the conclusion leaves waiting keeps a SHORT store
SHORT is the model's choice (notes/assumptions/48.md). R10, R11: with a conversion in progress the readings follow it.
With the schedule STOPPED what the blocks hand is joined under a key of its own, and a request in quarter 4 may be
overtaken by the epoch end, the late blocks taking it after that end; both are the model's choices
(notes/assumptions/35.md, 36.md). That quarter end, R20, R41: that the drawn note delay is brought into its range and
that a schedule of delay 0 starts DUE are the model's choices (notes/assumptions/5.md, 3.md). -/
def Obligations.ConcludeIsTaken : Prop :=
  let closing (reader : PartyId) (tag : List Byte) (s : State) : State := { s with
    tch := { s.tch with taking := false, partialWaiting := false }
    ptb := { s.ptb with viewTaken := true }
    dmn := { s.dmn with
      taking := false
      episode := s.dmn.episode.map fun e => if 30 ≤ e.age then { e with overrun := true } else e }
    eve := { s.eve with
      readingsEpoch := s.ret.epoch + 1
      work := s.eve.work ++ [.partialClose
        ⟨s.ret.epoch, ⟨s.tch.quarters, s.tch.probe.reading, s.tch.air.reading⟩,
          ⟨s.ret.epoch, s.ptb.leg, corroborating s.ptb.peers⟩, doorView s.ret.epoch s.dmn⟩] }
    rqs := { s.rqs with service := some (.conclude reader tag (.closing ⟨false, false, false⟩)) } }
  let stopped (status : List SegStatus) (s : State) : Jst := { s.jst with
    access := .none
    status := status
    job := { s.jst.job with stopped := true, suspended := none } }
  let full (t : State) : State := { t with jst := { t.jst with
    condition := .journalFull
    status := match openSeg t with
      | some j => t.jst.status.set j .full
      | none => t.jst.status } }
  (∀ (req : Request) (fields tag : List Byte) (left : Leftover) (env : Env) (s : State), free req env s = true →
    quiet s = true → parseConclude fields = some (s.cmr.reference, tag) →
    (s.eve.station = .dormant →
      exec (.conclude req fields left env) s = .next (kick env { s with
        rqs := { s.rqs with service := some (.conclude req.reader tag (.mark ⟨none, .intact, 0, 0, s.ret.restarts⟩)) }
        cmr := { s.cmr with program := .conclusionMark } })) ∧
    (s.eve.station = .active →
      ((∃ k f, s.jst.access = .alloc .target k f) ∨ s.jst.access = .commitMark ∨ s.jst.access = .pageRead →
        exec (.conclude req fields left env) s = .next (kick env { s with
          rqs := { s.rqs with service := some (.conclude req.reader tag .stopping) } })) ∧
      (s.ret.schedule = .running → s.eve.inputs = [] → s.eve.readingsEpoch = s.ret.epoch → s.tch.busy = false →
        s.tch.quarters < 4 → s.ret.quarter ≠ 4 ∨ env.overtaken = ⟨false, false, false⟩ →
        let closing := closing req.reader tag s
        (s.jst.condition = .normal → s.jst.job = .initial →
          s.jst.access = .none ∨ (∃ i n, s.jst.access = .entry i n) →
          exec (.conclude req fields left env) s = .next (kick env closing)) ∧
        (∀ k, s.jst.condition = .short → s.jst.wantOpen = none → s.jst.queue = [] → k < s.store.length →
          s.jst.access = .sourceErase k → s.jst.job.phase = .erase1 ∨ s.jst.job.phase = .erase2 →
          let after := (segAt s k).erasedTo left.erase
          let ended : State := { closing with
            store := s.store.set k after
            jst := stopped (s.jst.status.set k (if after = .erased then .blank else .retiring)) s }
          ((planOpen ended).isSome = true → exec (.conclude req fields left env) s =
            .next (kick env { ended with jst := { ended.jst with condition := .normal } })) ∧
          (planOpen ended = none →
            exec (.conclude req fields left env) s = .next (kick env (full ended)))) ∧
        (s.jst.condition = .normal → s.jst.wantOpen = none → s.jst.queue = [] →
          (∀ t q, s.jst.access = .pageProgram → s.jst.job.phase = .copy → s.jst.job.target = some (t, q) →
            exec (.conclude req fields left env) s = .next (kick env { closing with
              store := s.store.set t ((segAt s t).put (8 * s.jst.job.pages + 1)
                (leftSlots (((jobOutput s).drop (8 * s.jst.job.pages)).take 8) left.page))
              jst := stopped s.jst.status s })) ∧
          (∀ k, k < s.store.length →
            let after := (segAt s k).erasedTo left.erase
            let ended (kept : SegStatus) : State := { closing with
              store := s.store.set k after
              jst := stopped (s.jst.status.set k (if after = .erased then .blank else kept)) s }
            (s.jst.access = .sourceErase k → s.jst.job.phase = .erase1 ∨ s.jst.job.phase = .erase2 →
              exec (.conclude req fields left env) s = .next (kick env (ended .retiring))) ∧
            (s.jst.access = .cleanupErase k → s.jst.job.phase = .none →
              exec (.conclude req fields left env) s = .next (kick env (ended .targetPending)))))))) ∧
  (∀ (composed : Bool) (env : Env) (reader : PartyId) (tag : List Byte) (s : State), s.logic = .running →
    s.rqs.service = some (.conclude reader tag .stopping) → s.jst.access = .pageRead → s.jst.job.suspended = none →
    s.jst.wantOpen = none → s.jst.queue = [] → s.ret.schedule = .running → s.eve.inputs = [] →
    s.eve.readingsEpoch = s.ret.epoch → s.tch.busy = false → s.tch.quarters < 4 →
    s.ret.quarter ≠ 4 ∨ env.overtaken = ⟨false, false, false⟩ →
    let at_ (t : State) : Prop := exec (.pageReadEnd composed env) s = .next (kick env t)
    let left (job : Job) : State := { closing reader tag s with jst := { s.jst with access := .none, job := job } }
    let dropped := left { Job.initial with cleanup := s.jst.job.cleanup }
    let kept : State := { closing reader tag s with jst := stopped s.jst.status s }
    (s.jst.condition ≠ .short →
      (s.jst.job.phase = .none → at_ (left s.jst.job)) ∧
      (s.jst.job.phase = .planning → at_ dropped) ∧
      (s.jst.job.phase ≠ .none → s.jst.job.phase ≠ .planning → at_ kept)) ∧
    (s.jst.condition = .short → planOpen s = none →
      (s.jst.job.phase = .none → canFree s = true → at_ (left s.jst.job)) ∧
      (s.jst.job.phase = .none → canFree s = false → at_ (full (left s.jst.job))) ∧
      (s.jst.job.phase = .planning → canFree dropped = true → at_ dropped) ∧
      (s.jst.job.phase = .planning → canFree dropped = false → at_ (full dropped)) ∧
      (s.jst.job.phase ≠ .none → s.jst.job.phase ≠ .planning → at_ (full kept)))) ∧
  (∀ (req : Request) (fields tag : List Byte) (left : Leftover) (env : Env) (i n : Nat) (s : State),
    free req env s = true → quiet s = true → parseConclude fields = some (s.cmr.reference, tag) →
    s.eve.station = .active → s.jst.condition = .normal → s.jst.job = .initial → s.jst.access = .entry i n →
    (∀ c ∈ s.eve.inputs, c.epoch < s.ret.epoch) → s.ret.epoch ≤ Config.maxEpoch →
    let view : CloseView := ⟨s.ret.epoch, s.ptb.leg, corroborating s.ptb.peers⟩
    let door := doorView s.ret.epoch s.dmn
    let read : EpochReadings := ⟨s.tch.quarters, s.tch.probe.reading, s.tch.air.reading⟩
    let asked (late : Overtaken) (eve : Eve) : State := { s with
      tch := if late.readings = true then s.tch else { s.tch with taking := false, partialWaiting := s.tch.busy }
      ptb := if late.view = true then s.ptb else { s.ptb with viewTaken := true }
      dmn := if late.door = true then s.dmn else { s.dmn with
        taking := false
        episode := s.dmn.episode.map fun e => if 30 ≤ e.age then { e with overrun := true } else e }
      eve := eve
      rqs := { s.rqs with service := some (.conclude req.reader tag (.closing late)) } }
    let at_ (late : Overtaken) (eve : Eve) : Prop :=
      exec (.conclude req fields left env) s = .next (kick env (asked late eve))
    (s.ret.schedule = .running → s.ret.quarter ≠ 4 ∨ env.overtaken = ⟨false, false, false⟩ → s.tch.busy = true →
      at_ ⟨false, false, false⟩ { s.eve with
        inputs := s.eve.inputs ++ [⟨s.ret.epoch, none, some view, some door⟩] }) ∧
    (s.ret.schedule = .stopped → s.tch.busy = false → s.tch.quarters = 0 →
      at_ ⟨false, false, false⟩ { s.eve with
        readingsEpoch := s.eve.readingsEpoch + 1
        work := s.eve.work ++ [.partialClose ⟨16777216, read, view, door⟩] }) ∧
    (s.ret.schedule = .stopped → s.tch.busy = true →
      at_ ⟨false, false, false⟩ { s.eve with
        inputs := s.eve.inputs ++ [⟨16777216, none, some view, some door⟩] }) ∧
    (s.ret.schedule = .running → s.ret.quarter = 4 → s.eve.readingsEpoch = s.ret.epoch →
      let late := env.overtaken
      late ≠ ⟨false, false, false⟩ →
      let readings := if late.readings = true ∨ s.tch.busy = true then none else some read
      at_ late { s.eve with
        readingsEpoch := if readings = none then s.ret.epoch else s.ret.epoch + 1
        inputs := s.eve.inputs ++ (if readings = none ∧ late.view = true ∧ late.door = true then []
          else [⟨s.ret.epoch, readings, if late.view = true then none else some view,
            if late.door = true then none else some door⟩]) })) ∧
  (∀ (env : Env) (i n : Nat) (reader : PartyId) (tag : List Byte) (late : Overtaken) (s : State),
    s.logic = .running → s.ret.schedule = .running → s.ret.quarter = 4 → s.ret.epoch < 16777215 →
    s.eve.station = .active → s.jst.access = .entry i n → s.ptb.turnover ≠ none → s.dmn.episode = none →
    s.rqs.service = some (.conclude reader tag (.closing late)) →
    let closed := (s.ptb.peers.map Peer.shift).filterMap Peer.evaluate
    let delay := env.noteDelay % (2 * s.cmr.epochLength + 1)
    let e := s.ret.epoch
    let ended : State := { s with
      ret := { s.ret with position := 0, quarter := 1, epoch := e + 1 }
      chc := { s.chc with schedule := if delay = 0 then .due e else .waiting e delay false }
      rqs := { s.rqs with service := some (.conclude reader tag (.closing ⟨false, false, false⟩)) } }
    let tch : Tch := { s.tch with
      probe := s.tch.probe.set 4 .converting
      air := s.tch.air.set 4 .converting
      taking := false
      partialWaiting := true }
    let ptb : Ptb := { s.ptb with peers := closed, viewTaken := true }
    let view : CloseView := ⟨e, s.ptb.leg, corroborating s.ptb.peers⟩
    let next : CloseView := ⟨e + 1, s.ptb.leg, corroborating closed⟩
    let at_ (t : State) : Prop := exec (.quarterEnd env) s = .next (kick env t)
    (late = ⟨true, true, true⟩ → s.tch.taking = true → s.ptb.viewTaken = false → s.dmn.taking = true →
      s.eve.inputs = [] → at_ { ended with
        tch := tch
        ptb := ptb
        dmn := { s.dmn with taking := false }
        eve := { s.eve with inputs := [⟨e, none, some view, some ⟨e, false, false⟩⟩,
          ⟨e + 1, none, some next, some ⟨e + 1, false, false⟩⟩] } }) ∧
    (∀ v d, late = ⟨true, false, false⟩ → s.tch.taking = true → s.ptb.viewTaken = true → s.dmn.taking = false →
      s.eve.inputs = [⟨e, none, some v, some d⟩] → at_ { ended with tch := tch }) ∧
    (∀ d, late = ⟨true, true, false⟩ → s.tch.taking = true → s.ptb.viewTaken = false → s.dmn.taking = false →
      s.eve.inputs = [⟨e, none, none, some d⟩] → at_ { ended with
        tch := tch
        ptb := ptb
        eve := { s.eve with
          inputs := [⟨e, none, some view, some d⟩, ⟨e + 1, none, some next, none⟩] } }) ∧
    (∀ v, late = ⟨true, false, true⟩ → s.tch.taking = true → s.ptb.viewTaken = true → s.dmn.taking = true →
      s.eve.inputs = [⟨e, none, some v, none⟩] → at_ { ended with
        tch := tch
        dmn := { s.dmn with taking := false }
        eve := { s.eve with
          inputs := [⟨e, none, some v, some ⟨e, false, false⟩⟩,
            ⟨e + 1, none, none, some ⟨e + 1, false, false⟩⟩] } }) ∧
    (∀ r d, late = ⟨false, true, false⟩ → s.tch.taking = false → s.ptb.viewTaken = false → s.dmn.taking = false →
      s.eve.inputs = [⟨e, some r, none, some d⟩] → r.quarters ≠ 4 → at_ { ended with
        ptb := ptb
        eve := { s.eve with
          inputs := [⟨e + 1, none, some next, none⟩]
          work := s.eve.work ++ [.partialClose ⟨e, r, view, d⟩] } }) ∧
    (∀ r v, late = ⟨false, false, true⟩ → s.tch.taking = false → s.ptb.viewTaken = true → s.dmn.taking = true →
      s.eve.inputs = [⟨e, some r, some v, none⟩] → r.quarters ≠ 4 → at_ { ended with
        dmn := { s.dmn with taking := false }
        eve := { s.eve with
          inputs := [⟨e + 1, none, none, some ⟨e + 1, false, false⟩⟩]
          work := s.eve.work ++ [.partialClose ⟨e, r, v, ⟨e, false, false⟩⟩] } }) ∧
    (∀ r, late = ⟨false, true, true⟩ → s.tch.taking = false → s.ptb.viewTaken = false → s.dmn.taking = true →
      s.eve.inputs = [⟨e, some r, none, none⟩] → r.quarters ≠ 4 → at_ { ended with
        ptb := ptb
        dmn := { s.dmn with taking := false }
        eve := { s.eve with
          inputs := [⟨e + 1, none, some next, some ⟨e + 1, false, false⟩⟩]
          work := s.eve.work ++ [.partialClose ⟨e, r, view, ⟨e, false, false⟩⟩] } }))

/-- R157, R158, R159: the conclusion programs its mark, then its five figures in order, then offers its entry. R83,
R158: a piece under way may still wait for a verdict mark, and the two kinds of program come in the order drawn. R165:
figures that are due while a mark is being programmed are composed when that program ends, before the next one. That
the entry waits for the verdict marks is the model's choice (notes/assumptions/59.md). R158, R185: a figure programmed
without a missed bit over erased bytes reads whole, and no other does because of it; how an absent final epoch is
written is the model's choice (notes/assumptions/22.md). R46, R167: the DISCOVERs that waited for a program are
answered. R159: the CONCLUDE entry is offered after the fifth figure; refused at the offer, the store freezes and the
lock marks follow. R122: that an entry whose program is in progress then is not refused is the model's choice
(notes/assumptions/24.md). -/
def Obligations.ConclusionProgramsItsFigures : Prop :=
  (∀ (env : Env) (reader : PartyId) (tag : List Byte) (s : State), s.logic = .running → quiet s = true →
     (∀ epoch, s.eve.work = [] → s.jst.queue.any Entry.covers = false →
       s.rqs.service = some (.conclude reader tag (.draining epoch)) →
       exec (.conclusionFinalFigures env) s = .next (kick env { s with
         rqs := { s.rqs with service := some (.conclude reader tag
           (if s.cmr.program = .none then
             .mark ⟨epoch, committedVerdict s, s.eve.exposure, s.eve.drawn, s.ret.restarts⟩
           else .composing epoch)) }
         cmr := { s.cmr with
           program := if s.cmr.program = .none then .conclusionMark else s.cmr.program } })) ∧
     (∀ (miss : Byte) f, s.cmr.program = .conclusionMark → s.rqs.service = some (.conclude reader tag (.mark f)) →
       let m := Memory.program s.cmr.consignment 49 0x00 miss
       let at_ (step : ConcludeStep) (program : CrProgram) : Prop :=
         exec (.conclusionMarkProgrammed miss env) s = .next (kick env (answered env { s with
           rqs := { s.rqs with service := some (.conclude reader tag step) }
           cmr := { s.cmr with consignment := m, program := program } }))
       (s.eve.current = none ∨ env.conclusionFirst = true →
         (Memory.read m 49 = 0xFF → at_ (.mark f) .conclusionMark) ∧
         (Memory.read m 49 ≠ 0xFF → at_ (.figure f 0) (.figure 0 50 (f.bytes 0)))) ∧
       (∀ w v rest, s.eve.current = some w → w.marks = v :: rest → env.conclusionFirst = false →
         (Memory.read m 49 = 0xFF → at_ (.mark f) (.verdictMark v)) ∧
         (Memory.read m 49 ≠ 0xFF → at_ (.figure f 0) (.verdictMark v)))) ∧
     (∀ (miss : BitVec 32) f i k a bs, s.cmr.program = .figure i a bs →
       s.rqs.service = some (.conclude reader tag (.figure f k)) →
       let at_ (program : CrProgram) : Prop :=
         exec (.finalFigureProgrammed miss env) s = .next (kick env (answered env { s with
           rqs := { s.rqs with service := some (.conclude reader tag (.figure f (i + 1))) }
           cmr := { figureTaken i a bs miss s.cmr with program := program } }))
       (s.eve.current = none ∨ env.conclusionFirst = true → i < 4 →
         at_ (.figure (i + 1) (figureAddress (i + 1)) (f.bytes (i + 1)))) ∧
       (∀ w v rest, s.eve.current = some w → w.marks = v :: rest → env.conclusionFirst = false ∨ 4 ≤ i →
         at_ (.verdictMark v))) ∧
     (∀ (miss : BitVec 32) f k a bs, s.cmr.program = .figure 4 a bs → s.eve.current = none →
       s.rqs.service = some (.conclude reader tag (.figure f k)) →
       ∃ t, exec (.finalFigureProgrammed miss env) s = .next t ∧ t.cmr = figureTaken 4 a bs miss s.cmr ∧
       ∀ k n, s.jst.access = .entry k n →
         let taken : State := { s with cmr := figureTaken 4 a bs miss s.cmr }
         (s.jst.condition = .normal → s.jst.frozen = false → s.jst.queue.length < 6 →
           t = kick env (answered env { taken with
             jst := { s.jst with
               queue := s.jst.queue ++ [.conclude ⟨f, reader, tag, f.epoch.getD s.ret.epoch⟩] }
             rqs := { s.rqs with service := some (.conclude reader tag (.entry f)) } })) ∧
         (s.jst.condition ≠ .normal ∨ s.jst.frozen = true ∨ 6 ≤ s.jst.queue.length → ∀ x, s.jst.queue = [x] →
           t = kick env (answered env { taken with
             jst := { s.jst with frozen := true }
             rqs := { s.rqs with
             service := some (.conclude reader tag (.locking f false [] false 0 0)) } })))) ∧
  (∀ (miss : Byte) (env : Env) (v : Verdict) (w : Waiting) (reader : PartyId) (tag : List Byte) (f : FinalFigures)
    (s : State), s.logic = .running → quiet s = true → s.cmr.program = .verdictMark v → s.eve.current = some w →
    let m := Memory.program s.cmr.consignment (verdictMarkAddress v) 0x00 miss
    let at_ (t : State) : Prop := exec (.verdictMarkProgrammed miss env) s = .next (kick env (answered env t))
    let marked (eve : Eve) (program : CrProgram) : State := { s with
      eve := eve
      cmr := { s.cmr with consignment := m, program := program } }
    let next (x : Verdict) (rest : List Verdict) : Eve := { s.eve with current := some { w with marks := x :: rest } }
    let ended : Eve := { s.eve with current := none, verdict := w.target }
    (∀ step after program, s.rqs.service = some (.conclude reader tag step) →
      (step = .mark f ∧ after = .mark f ∧ program = .conclusionMark ∨
        (∃ i, i < 5 ∧ step = .figure f i ∧ after = .figure f i ∧
          program = .figure i (figureAddress i) (f.bytes i)) ∨
        ∃ epoch, step = .composing epoch ∧ program = .conclusionMark ∧
          after = .mark ⟨epoch, committedVerdict (marked s.eve .none), s.eve.exposure, s.eve.drawn, s.ret.restarts⟩) →
      let either (x : Verdict) : CrProgram := if env.conclusionFirst = true then program else .verdictMark x
      let goes (t : State) : Prop := at_ { t with rqs := { s.rqs with service := some (.conclude reader tag after) } }
      (Memory.read m (verdictMarkAddress v) = 0xFF → goes (marked s.eve (either v))) ∧
      (Memory.read m (verdictMarkAddress v) ≠ 0xFF →
        (∀ x rest, w.marks = v :: x :: rest → goes (marked (next x rest) (either x))) ∧
        (w.marks = [v] → w.next = .done → goes (marked ended program)))) ∧
    (s.rqs.service = some (.conclude reader tag (.figure f 5)) →
      (Memory.read m (verdictMarkAddress v) = 0xFF → at_ (marked s.eve (.verdictMark v))) ∧
      (Memory.read m (verdictMarkAddress v) ≠ 0xFF →
        (∀ x rest, w.marks = v :: x :: rest → at_ (marked (next x rest) (.verdictMark x))) ∧
        (∀ k n, w.marks = [v] → w.next = .done → s.jst.access = .entry k n → s.jst.condition = .normal →
          s.jst.frozen = false → s.jst.queue.length < 6 → at_ { marked ended .none with
            jst := { s.jst with queue := s.jst.queue ++ [.conclude ⟨f, reader, tag, f.epoch.getD s.ret.epoch⟩] }
            rqs := { s.rqs with service := some (.conclude reader tag (.entry f)) } })))) ∧
  (∀ (i : Nat) (f : FinalFigures) (c : Cmr), Memory.wf c.consignment = true → i < 5 →
     (∀ k, k < (f.bytes i).length → c.byte (figureAddress i + k) = 0xFF) →
     let d := figureTaken i (figureAddress i) (f.bytes i) 0 c
     d.figureWhole i = true ∧
     Memory.readBytes d.consignment (figureAddress i) (f.bytes i).length = f.bytes i ∧
     (∀ k, k < 5 → k ≠ i → d.figureWhole k = c.figureWhole k))

/-- R151: the protection marks of a checkpoint, read back, counted, and tried twice. R150, R152: after the last one
the entry is offered, or its refusal reported. R165: it waits for a byte program that is in progress. R150: the marks stay
done meanwhile, and a segment that becomes OPEN then gets none; when the program ends, before the next one, the entry is
composed and offered, or its refusal reported (notes/assumptions/27.md). -/
def Obligations.ProtectionMarksAreCounted : Prop :=
  (∀ (mark : MarkRead) (env : Env) (i j number epoch newly failed : Nat) (reader : PartyId) (tried : List Nat)
    (again : Bool) (s : State), s.logic = .running → s.jst.wantOpen = none → s.jst.queue = [] →
    s.jst.access = .protectMark i →
    s.rqs.service = some (.checkpoint reader number epoch (.marking tried again newly failed)) →
    let header : Header := { (segAt s i).header with
    protection := match mark with
      | .clear => .clear
      | .part => .part
      | .whole => .whole number }
    let s' : State := { s with store := s.store.set i ⟨header, (segAt s i).slots⟩ }
    let next (tried : List Nat) (again : Bool) (newly failed : Nat) : State := { s' with
      jst := { s.jst with access := .protectMark j }
      rqs := { s.rqs with service := some (.checkpoint reader number epoch (.marking tried again newly failed)) } }
    (mark ≠ .clear → nextProtect s' (tried ++ [i]) = some j →
      exec (.protectionMarkProgrammed mark env) s =
        .next (kick env (next (tried ++ [i]) false (newly + 1) failed))) ∧
    (mark = .clear → again = false → nextProtect s' tried = some j →
      exec (.protectionMarkProgrammed mark env) s = .next (kick env (next tried true newly failed))) ∧
    (mark = .clear → again = true → nextProtect s' (tried ++ [i]) = some j →
      exec (.protectionMarkProgrammed mark env) s =
        .next (kick env (next (tried ++ [i]) false newly (failed + 1)))) ∧
    (∀ newly' failed' : Nat,
      (mark ≠ .clear ∧ newly' = newly + 1 ∧ failed' = failed ∨
        mark = .clear ∧ again = true ∧ newly' = newly ∧ failed' = failed + 1) →
      nextProtect s' (tried ++ [i]) = none →
      let e : CheckpointEntry := ⟨number, epoch, reader, committedVerdict s, s.eve.committedExposure⟩
      (∀ k, s.cmr.program = .none → s.jst.condition = .normal → s.jst.frozen = false → openSeg s = some k →
        (segAt s k).slots.length + 2 ≤ 127 →
        exec (.protectionMarkProgrammed mark env) s = .next (kick env { s' with
          jst := { s.jst with
            access := .entry k ((segAt s k).slots.length + 1)
            queue := [.checkpoint e] }
          rqs := { s.rqs with
          service := some (.checkpoint reader number epoch (.entry e.verdict e.exposure newly' failed')) } })) ∧
      (s.cmr.program = .none → s.jst.condition ≠ .normal ∨ s.jst.frozen = true → s.jst.job = .initial →
        exec (.protectionMarkProgrammed mark env) s = .next (kick env (replied reader
          (.checkpoint number epoch e.verdict e.exposure false newly' failed') { s' with
          jst := { s.jst with access := .none }
          rqs := { s.rqs with service := none } }))) ∧
      (s.cmr.program ≠ .none → s.jst.job = .initial →
        exec (.protectionMarkProgrammed mark env) s = .next (kick env { s' with
          jst := { s.jst with access := .none }
          rqs := { s.rqs with
          service := some (.checkpoint reader number epoch (.composing newly' failed')) } })))) ∧
  (∀ (env : Env) (j number epoch newly failed : Nat) (f : AllocFields) (x : Entry) (rest : List Entry)
    (reader : PartyId) (s : State), s.logic = .running → s.jst.access = .alloc .rollover j f →
    s.jst.queue = x :: rest → s.rqs.service = some (.checkpoint reader number epoch (.composing newly failed)) →
    s.cmr.program ≠ .none → j < Config.segments → j < s.jst.status.length →
    (∀ k, openSeg s = some k → ∀ q, statusAt s q = .opened → q = k) → (segAt s j).slots.length + 1 + x.size ≤ 127 →
    ∃ t, exec (.allocationProgramEnd .whole env) s = .next t ∧ openSeg t = some j ∧
      t.jst.access = .entry j ((segAt s j).slots.length + 1) ∧ t.rqs.service = s.rqs.service ∧
      ∀ q, (segAt t q).header.protection = (segAt s q).header.protection) ∧
  (∀ (miss : Byte) (env : Env) (v : Verdict) (w : Waiting) (i n number epoch newly failed : Nat) (reader : PartyId)
    (s : State), s.logic = .running → s.cmr.program = .verdictMark v → s.eve.current = some w →
    s.rqs.service = some (.checkpoint reader number epoch (.composing newly failed)) → s.jst.access = .entry i n →
    let m := Memory.program s.cmr.consignment (verdictMarkAddress v) 0x00 miss
    let read : State := { s with cmr := { s.cmr with consignment := m, program := .none } }
    let e : CheckpointEntry := ⟨number, epoch, reader, committedVerdict read, s.eve.committedExposure⟩
    let at_ (t : State) : Prop := exec (.verdictMarkProgrammed miss env) s = .next (kick env (answered env t))
    let goes (t : State) : Prop :=
      (Memory.read m (verdictMarkAddress v) = 0xFF →
        at_ { t with cmr := { s.cmr with consignment := m, program := .verdictMark v } }) ∧
      (∀ y rest, Memory.read m (verdictMarkAddress v) ≠ 0xFF → w.marks = v :: y :: rest →
        at_ { t with
          eve := { s.eve with current := some { w with marks := y :: rest } }
          cmr := { s.cmr with consignment := m, program := .verdictMark y } })
    (s.jst.condition = .normal → s.jst.frozen = false → s.jst.queue.length < 6 →
      goes { s with
        jst := { s.jst with queue := s.jst.queue ++ [.checkpoint e] }
        rqs := { s.rqs with
        service := some (.checkpoint reader number epoch (.entry e.verdict e.exposure newly failed)) } }) ∧
    (s.jst.condition ≠ .normal ∨ s.jst.frozen = true ∨ 6 ≤ s.jst.queue.length →
      goes (replied reader (.checkpoint number epoch e.verdict e.exposure false newly failed)
        { s with rqs := { s.rqs with service := none } }))) ∧
  (∀ (mark : MarkRead) (env : Env) (i k number epoch newly failed : Nat) (x : Entry) (rest : List Entry)
    (reader : PartyId) (tried : List Nat) (again : Bool) (s : State), s.logic = .running → s.jst.wantOpen = none →
    s.jst.queue = x :: rest → rest.length = 5 → s.jst.access = .protectMark i → s.cmr.program = .none →
    s.rqs.service = some (.checkpoint reader number epoch (.marking tried again newly failed)) → mark ≠ .clear →
    openSeg s = some k → (segAt s k).slots.length + 1 + x.size ≤ 127 →
    let header : Header := { (segAt s i).header with
    protection := match mark with
      | .clear => .clear
      | .part => .part
      | .whole => .whole number }
    let s' : State := { s with store := s.store.set i ⟨header, (segAt s i).slots⟩ }
    nextProtect s' (tried ++ [i]) = none →
    exec (.protectionMarkProgrammed mark env) s = .next (kick env (replied reader
      (.checkpoint number epoch (committedVerdict s) s.eve.committedExposure false (newly + 1) failed) { s' with
      jst := { s.jst with access := .entry k ((segAt s k).slots.length + 1) }
      rqs := { s.rqs with service := none } })))

/-- R160, R19, R47: the lock marks of a conclusion; after the last live segment the station is CONCLUDED. That the last
committed verdict and the reply take the figures as composed, also those whose field does not read whole, is the model's
choice (notes/assumptions/60.md). -/
def Obligations.LastLockMarkConcludes : Prop :=
  ∀ (set : Bool) (env : Env) (i locked failed : Nat) (reader : PartyId) (tag : List Byte) (f : FinalFigures)
    (recorded again : Bool) (tried : List Nat) (s : State), s.logic = .running → s.jst.wantOpen = none →
    s.jst.queue = [] → s.jst.access = .lockMark i → s.jst.frozen = true →
    s.rqs.service = some (.conclude reader tag (.locking f recorded tried again locked failed)) →
    let s' : State := { s with
    store :=
      s.store.set i ⟨{ (segAt s i).header with lock := set }, (segAt s i).slots⟩ }
    (∀ j, set = true → nextLock s' (tried ++ [i]) = some j →
      exec (.lockMarkProgrammed set env) s = .next (kick env { s' with
        jst := { s.jst with access := .lockMark j }
        rqs := { s.rqs with
        service :=
          some (.conclude reader tag (.locking f recorded (tried ++ [i]) false (locked + 1) failed)) } })) ∧
    (∀ j, set = false → again = true → nextLock s' (tried ++ [i]) = some j →
      exec (.lockMarkProgrammed set env) s = .next (kick env { s' with
        jst := { s.jst with access := .lockMark j }
        rqs := { s.rqs with
        service :=
          some (.conclude reader tag (.locking f recorded (tried ++ [i]) false locked (failed + 1))) } })) ∧
    (set = false → again = false → nextLock s' tried = some i →
      exec (.lockMarkProgrammed set env) s = .next (kick env { s' with
        rqs := { s.rqs with
        service :=
          some (.conclude reader tag (.locking f recorded tried true locked failed)) } })) ∧
    (set = true ∨ again = true → nextLock s' (tried ++ [i]) = none →
      exec (.lockMarkProgrammed set env) s = .next (kick env (replied reader
        (.conclude f recorded (if set = true then locked + 1 else locked) (if set = true then failed else failed + 1))
        { s' with
          ret := { s.ret with
            schedule := .stopped
            countdown := if s.ret.countdown.isCounting = true then .halted else s.ret.countdown }
          tmb := { s.tmb with stall := none }
          chc := s.chc.conclude
          eve := { s.eve with
            station := .concluded
            committedExposure := if s.cmr.figureWhole 2 = true then s.cmr.number 55 4 else s.eve.committedExposure
            committedDrawn := if s.cmr.figureWhole 3 = true then s.cmr.number 59 2 else s.eve.committedDrawn
            lastVerdict := s.eve.lastVerdict.higher f.verdict
            inputs := [] }
          jst := { s.jst with
            access := .none
            status := match openSeg s with
              | some j => s.jst.status.set j .full
              | none => s.jst.status }
          rqs := { s.rqs with service := none } }))) ∧
    (s.chc.conclude.queue = s.chc.queue.filter (fun x => !x.isNote) ∧ s.chc.conclude.schedule = .none ∧
      s.chc.conclude.content = none ∧ s.chc.conclude.hold = s.chc.hold)

/-! ### The journal -/

/-- R99, R117, R118, R65: an entry that matches stands in its slots, and its block is told. R117: an entry that does
not match has its slots voided and, once, is programmed again at the new fill or after a rollover, before anything
else takes the array (R115); the second failure refuses it, and a coverage entry's refusal goes on the work list
(R100). The head leaves the queue with its fate, and the next head follows it. R65: a refused LEG entry ends its
turnover. R152, R159: the fates of CHECKPOINT and CONCLUDE entries. R122: freezing refuses every entry that waits, but
for a head whose program is in progress (the model's choice, notes/assumptions/24.md). -/
def Obligations.EntryProgramEndReports : Prop :=
  (∀ (void1 void2 : Bool) (env : Env) (i n : Nat) (x : Entry) (rest : List Entry) (s : State), s.logic = .running →
     serviceLight s = true → s.jst.access = .entry i n → s.jst.queue = x :: rest →
     let written : State := { s with store := s.store.set i ((segAt s i).put n x.slots) }
     (∀ e, x = .epoch e → ∃ t, exec (.entryProgramEnd true void1 void2 env) s = .next t ∧ Ends { written with
       eve := { s.eve with
         committedExposure := e.exposure, committedDrawn := e.drawn, lastVerdict := e.verdict } } t) ∧
     (∀ e, x = .gap e → ∃ t, exec (.entryProgramEnd true void1 void2 env) s = .next t ∧ Ends { written with
       eve := { s.eve with lastVerdict := e.verdict } } t) ∧
     (∀ e, x = .leg e → s.ptb.turnover = some ⟨e.leg, e.start, e.founders⟩ →
       ∃ t, exec (.entryProgramEnd true void1 void2 env) s = .next t ∧ Ends { written with
         ptb := { s.ptb with leg := some e.leg, founders := e.founders, turnover := none } } t) ∧
     (∀ e, x = .door e → ∃ t, exec (.entryProgramEnd true void1 void2 env) s = .next t ∧ Ends written t)) ∧
  (∀ (void1 void2 : Bool) (env : Env) (i n : Nat) (x : Entry) (rest : List Entry) (s : State), s.logic = .running →
     serviceLight s = true → s.jst.access = .entry i n → s.jst.queue = x :: rest →
     let slot (ok : Bool) : Slot := if ok = true then .void else .unreadable
     let voided : State := { s with
     store := s.store.set i ((segAt s i).put n
       (if x.size = 2 then [slot void1, slot void2] else [slot void1])) }
     (s.jst.secondTry = false → s.jst.frozen = false →
       ∃ t, exec (.entryProgramEnd false void1 void2 env) s = .next t ∧ Ends voided t) ∧
     (∀ e, x = .epoch e → s.jst.secondTry = true →
       ∃ t, exec (.entryProgramEnd false void1 void2 env) s = .next t ∧
         Ends { voided with eve := { s.eve with work := s.eve.work ++ [.lateRefusal] } } t)) ∧
  (∀ (void1 void2 : Bool) (env : Env) (i n k : Nat) (x : Entry) (rest : List Entry) (s : State), s.logic = .running →
     s.jst.access = .entry i n → s.jst.queue = x :: rest → s.jst.wantOpen = none → s.jst.secondTry = false →
     s.jst.frozen = false → openSeg s = some k →
     s.rqs.service = none ∨ (∃ c asked, s.rqs.service = some (.fragment c asked none none)) →
     let slot (ok : Bool) : Slot := if ok = true then .void else .unreadable
     let voided : State := { s with
     store := s.store.set i ((segAt s i).put n
       (if x.size = 2 then [slot void1, slot void2] else [slot void1])) }
     let fill := (segAt voided k).slots.length + 1
     let again (access : Access) : State := { voided with jst := { s.jst with access := access, secondTry := true } }
     (fill + x.size ≤ 127 →
       exec (.entryProgramEnd false void1 void2 env) s = .next (kick env (again (.entry k fill)))) ∧
     (∀ j f, 127 < fill + x.size → planOpen voided = some (j, f) →
       exec (.entryProgramEnd false void1 void2 env) s = .next (kick env (again (.alloc .rollover j f))))) ∧
  (∀ (ok void1 void2 : Bool) (env : Env) (i n : Nat) (x : Entry) (rest : List Entry) (access : Access) (s : State),
     s.logic = .running → s.jst.access = .entry i n → s.jst.queue = x :: rest → s.jst.wantOpen = none →
     s.jst.job = .initial → ok = true ∨ s.jst.secondTry = true →
     let slot (taken : Bool) : Slot := if taken = true then .void else .unreadable
     let slots := if ok = true then x.slots else if x.size = 2 then [slot void1, slot void2] else [slot void1]
     let store := s.store.set i ((segAt s i).put n slots)
     (rest = [] ∧ access = .none ∨ ∃ y more k, rest = y :: more ∧ openSeg s = some k ∧
       (segAt { s with store := store } k).slots.length + 1 + y.size ≤ 127 ∧
       access = .entry k ((segAt { s with store := store } k).slots.length + 1)) →
     let left : State := { s with
       store := store
       jst := { s.jst with access := access, queue := rest, secondTry := false } }
     let late : State := { left with eve := { s.eve with work := s.eve.work ++ [.lateRefusal] } }
     let ended (t : State) : Prop := exec (.entryProgramEnd ok void1 void2 env) s = .next (kick env t)
     (s.rqs.service = none →
       (∀ e, x = .epoch e → ok = true → ended { left with eve := { s.eve with
         committedExposure := e.exposure, committedDrawn := e.drawn, lastVerdict := e.verdict } }) ∧
       (∀ e, x = .gap e → ok = true → ended { left with eve := { s.eve with lastVerdict := e.verdict } }) ∧
       (∀ e, x = .epoch e → ok = false → ended late) ∧
       (∀ e, x = .gap e → ok = false → ended late) ∧
       (∀ e, x = .leg e → s.ptb.turnover = some ⟨e.leg, e.start, e.founders⟩ →
         ended { left with ptb := if ok = true
           then { s.ptb with leg := some e.leg, founders := e.founders, turnover := none }
           else { s.ptb with turnover := none } }) ∧
       (∀ e, x = .leg e → s.ptb.turnover = none → ended left) ∧
       (∀ e, x = .door e → ended left)) ∧
     (∀ c reader number epoch verdict exposure newly failed, x = .checkpoint c →
       s.rqs.service = some (.checkpoint reader number epoch (.entry verdict exposure newly failed)) →
       ended (replied reader (.checkpoint number epoch verdict exposure ok newly failed)
         { left with rqs := { s.rqs with service := none } })) ∧
     (∀ c reader tag f j, x = .conclude c → rest = [] → s.rqs.service = some (.conclude reader tag (.entry f)) →
       nextLock s [] = some j →
       ended { left with
         jst := { left.jst with access := .lockMark j, frozen := true }
         rqs := { s.rqs with service := some (.conclude reader tag (.locking f ok [] false 0 0)) } })) ∧
  (∀ s : State, (∀ r, Entry.run r ∉ s.jst.queue) →
     let frozen (kept refused : List Entry) (t : State) : Prop :=
       t.jst.frozen = true ∧ t.jst.queue = kept ∧
       t.eve.work = s.eve.work ++ List.replicate (refused.filter Entry.covers).length .lateRefusal ∧
       t.store = s.store ∧ t.cmr = s.cmr ∧ t.dmn = s.dmn ∧ t.ptb.leg = s.ptb.leg
     (programmingEntry s = false → frozen [] s.jst.queue (freeze s)) ∧
     (programmingEntry s = true → frozen (s.jst.queue.take 1) s.jst.queue.tail (freeze s)))

/-- R109, R111: an allocation uses its sequence number whether it passes or not. R111, R116, R133: for a rollover or
an activation whose header passes the segment becomes the OPEN one, the one before it is FULL, the trigger is
evaluated, and the head is programmed. R170: with the OPEN segment of a commissioning its activation follows, and its
reply; that the station takes no note while it waits for that segment, and drops an episode opened meanwhile, is the
model's choice (notes/assumptions/44.md, 45.md). R144: a conclusion ends the trigger's evaluations. R136: a target's
allocation is followed by the copy, or made again, or the job is abandoned. R133: the trigger. -/
def Obligations.AllocationGivesASegment : Prop :=
  (∀ (env : Env) (why : AllocWhy) (i : Nat) (f : AllocFields) (s : State), s.logic = .running →
    s.jst.access = .alloc why i f → why = .rollover ∨ why = .activation ∨ why = .startUp →
    let used : Jst := { s.jst with nextSeq := s.jst.nextSeq + 1 }
    (∃ t, exec (.allocationProgramEnd .whole env) s = .next t ∧ SameCore { s with
      store := s.store.set i ⟨{ (segAt s i).header with alloc := .fields f }, (segAt s i).slots⟩, jst := used } t) ∧
    (serviceLight s = true → jobAwaited s = false →
      (∀ shown, ∃ t, exec (.allocationProgramEnd (.part shown) env) s = .next t ∧ Ends { s with
        store := s.store.set i ⟨{ (segAt s i).header with alloc := .failing shown }, (segAt s i).slots⟩
        jst := used } t) ∧
      (∃ t, exec (.allocationProgramEnd .nothing env) s = .next t ∧ Ends { s with jst := used } t)) ∧
    (why = .startUp → s.jst.queue = [] → s.rqs.service = none → s.jst.job = .initial → openSeg s = none →
      exec (.allocationProgramEnd .whole env) s = .next (kick env { s with
        store := s.store.set i ⟨{ (segAt s i).header with alloc := .fields f }, (segAt s i).slots⟩
        jst := { s.jst with
          access := .none
          nextSeq := s.jst.nextSeq + 1
          wantOpen := none
          status := s.jst.status.set i .opened } }))) ∧
  (∀ s : State,
    let holds := s.eve.station = .active ∧ s.jst.condition ≠ .journalFull ∧ s.jst.frozen = false ∧ blankCount s ≤ 3 ∧
      s.jst.job.phase = .none ∧ s.jst.job.cleanup = none ∧ concluding s = false
    (holds → evaluateTrigger s = { s with jst := { s.jst with job := { Job.initial with phase := .planning } } }) ∧
    (¬ holds → evaluateTrigger s = s)) ∧
  (∀ (env : Env) (why : AllocWhy) (i : Nat) (f : AllocFields) (s : State), s.logic = .running → oneOpen s = true →
    s.jst.access = .alloc why i f → i < 32 → s.store.length = 32 → s.jst.status.length = 32 →
    let header (a : AllocRead) : List Segment :=
      s.store.set i ⟨{ (segAt s i).header with alloc := a }, (segAt s i).slots⟩
    let status := (match openSeg s with
      | some j => s.jst.status.set j .full
      | none => s.jst.status).set i .opened
    let opened : State := { s with
      store := header (.fields f)
      jst := { s.jst with
        status := status
        nextSeq := s.jst.nextSeq + 1
        access := .entry i ((segAt s i).slots.length + 1)
        wantOpen := none } }
    (∀ e rest, why = .rollover ∨ why = .activation → s.rqs.service = none → s.jst.queue = e :: rest →
      (segAt s i).slots.length + 1 + e.size ≤ 127 →
      exec (.allocationProgramEnd .whole env) s = .next (kick env (evaluateTrigger opened))) ∧
    (∀ reader adjusted, why = .commissioning → s.rqs.service = some (.opening reader adjusted) →
      s.jst.queue = [] → s.jst.condition = .normal → s.jst.frozen = false → s.eve.station = .active →
      (segAt s i).slots.length + 3 ≤ 127 →
      let activated : State := { opened with
        jst := { opened.jst with queue := [.leg ⟨0, 0, foundersOf s.ptb.peers⟩] }
        tch := { s.tch with probe := .pending, air := .pending }
        ptb := { s.ptb with
          peers := s.ptb.peers.map fun r => { r with heard := false, fresh := none }
          leg := some 0
          founders := foundersOf s.ptb.peers
          turnover := none }
        dmn := { s.dmn with
          episode := if s.dmn.latch = true then some (.begin .own 0) else none
          closing := none }
        rqs := { s.rqs with service := none } }
      exec (.allocationProgramEnd .whole env) s =
        .next (kick env (evaluateTrigger (replied reader (.commission .active adjusted) activated))))) ∧
  (∀ (env : Env) (i : Nat) (f : AllocFields) (s : State), s.logic = .running → s.jst.access = .alloc .target i f →
    s.jst.wantOpen = none → s.jst.queue = [] → s.rqs.service = none → s.jst.frozen = false →
    s.jst.job.phase = .allocate → s.jst.job.stopped = false → s.jst.job.suspended = none →
    let header (a : AllocRead) : List Segment :=
      s.store.set i ⟨{ (segAt s i).header with alloc := a }, (segAt s i).slots⟩
    let ended (store : List Segment) (status : SegStatus) (access : Access) (job : Job) : State := { s with
      store := store
      jst := { s.jst with
        status := s.jst.status.set i status
        nextSeq := s.jst.nextSeq + 1
        access := access
        job := job } }
    (∀ planned, s.jst.job.planned = some planned → 1 ≤ planned →
      exec (.allocationProgramEnd .whole env) s = .next (kick env (ended (header (.fields f)) .targetPending .pageRead
        { s.jst.job with
          phase := .copy
          target := some (i, f.seq)
          pages := 0
          composed := false
          commitRetry := false }))) ∧
    (∀ result store, (∃ shown, result = .part shown ∧ store = header (.failing shown)) ∨
        result = .nothing ∧ store = s.store →
      let failed (access : Access) (job : Job) : State := ended store .outOfService access job
      (∀ k g, planTarget (failed .none s.jst.job) = some (k, g) →
        exec (.allocationProgramEnd result env) s = .next (kick env (failed (.alloc .target k g) s.jst.job))) ∧
      (planTarget (failed .none s.jst.job) = none → s.jst.condition = .normal →
        exec (.allocationProgramEnd result env) s = .next (kick env (failed .none .initial)))))

/-! ### Consolidation -/

/-- R131, R132: a merged output keeps every entry that is not a coverage entry, in order; the cumulative figures of
its last EPOCH or RUN entry; and its last covered epoch. R130: which entries are quiet. R131, R132: each output entry
is an entry of the sources, or a RUN of two or more consecutive quiet ones that agree in leg, verdict and account,
with the figures R132 gives it; and no two neighbours in the output could still be joined. -/
def Obligations.MergedOutputKeepsTheAccount : Prop :=
  (∀ es : List Entry, (∀ r, Entry.run r ∈ es → 1 ≤ r.count) →
    (mergeFrom none es).filter (fun e => !e.covers) = es.filter (fun e => !e.covers) ∧
    lastPick Entry.account (mergeFrom none es) = lastPick Entry.account es ∧
    lastCovered (mergeFrom none es) = lastCovered es ∧
    (∃ blocks : List (List Entry), es = blocks.flatten ∧
      List.Forall₂ (fun block out => block = [out] ∨
        ∃ (r : RunEntry) (rs : List RunEntry), out = .run r ∧ 2 ≤ rs.length ∧
          block.map Entry.quietRun = rs.map some ∧
          (∀ i, (h : i + 1 < rs.length) → rs[i + 1].first = rs[i].first + rs[i].count) ∧
          rs.head?.map RunEntry.first = some r.first ∧ r.count = (rs.map RunEntry.count).sum ∧ r.count ≤ 65535 ∧
          (∀ q ∈ rs, r.minimum ≤ q.minimum ∧ q.maximum ≤ r.maximum ∧ q.exposure = r.exposure ∧ q.drawn = r.drawn ∧
            q.leg = r.leg ∧ q.verdict = r.verdict) ∧
          (∃ q ∈ rs, q.minimum = r.minimum) ∧ (∃ q ∈ rs, q.maximum = r.maximum))
        blocks (mergeFrom none es)) ∧
    (∀ (before after : List Entry) (a b : Entry) (ra rb : RunEntry), mergeFrom none es = before ++ a :: b :: after →
      a.quietRun = some ra → b.quietRun = some rb →
      ¬ (rb.first = ra.first + ra.count ∧ rb.leg = ra.leg ∧ rb.verdict = ra.verdict ∧ rb.exposure = ra.exposure ∧
        rb.drawn = ra.drawn ∧ ra.count + rb.count ≤ 65535))) ∧
  ((∀ (e : EpochEntry) (v : Int), e.value = some v → e.grade = .probe → e.flags.anySet = false →
     e.contribution = 0 → e.draw = 0 → e.run = 0 →
     Entry.quietRun (.epoch e) = some ⟨e.epoch, 1, v, v, e.exposure, e.drawn, e.leg, e.verdict⟩) ∧
   (∀ e : EpochEntry, e.grade ≠ .probe ∨ e.flags.anySet = true ∨ e.contribution ≠ 0 ∨ e.draw ≠ 0 ∨ e.run ≠ 0 →
     Entry.quietRun (.epoch e) = none) ∧
   (∀ r : RunEntry, Entry.quietRun (.run r) = some r) ∧
   (∀ g : GapEntry, Entry.quietRun (.gap g) = none) ∧ (∀ l : LegEntry, Entry.quietRun (.leg l) = none) ∧
   (∀ d : DoorEntry, Entry.quietRun (.door d) = none) ∧
   (∀ c : CheckpointEntry, Entry.quietRun (.checkpoint c) = none) ∧
   (∀ c : ConcludeEntry, Entry.quietRun (.conclude c) = none))

/-- R134, R137: the page reads of planning and copy, and the page programs of the copy; a page that does not match
abandons the job, whose target is then erased. R134: at the end of a pair's pass it is chosen, or the next candidate
is read, or the job ends. R138, R139: the commit mark puts the target in the place of its sources, and the first
source's erase begins; a mark that reads clear is programmed once more, and then abandons the job. That a pass takes
32 page reads, and that a page read of the copy which the operand says completes the page is the one its program
follows, are the model's (notes/assumptions/17.md). -/
def Obligations.PagesAndCommitFollow : Prop :=
  (∀ (env : Env) (s : State), s.logic = .running → s.jst.wantOpen = none → s.jst.queue = [] → s.rqs.service = none →
     s.jst.frozen = false → s.jst.job.stopped = false → s.jst.job.suspended = none →
     (∀ composed, s.jst.access = .pageRead → s.jst.job.phase = .planning → s.jst.job.reading = true →
       s.jst.job.pagesRead < 31 →
       exec (.pageReadEnd composed env) s = .next (kick env { s with
         jst := { s.jst with job := { s.jst.job with pagesRead := s.jst.job.pagesRead + 1 } } })) ∧
     (s.jst.access = .pageRead → s.jst.job.phase = .copy →
       exec (.pageReadEnd true env) s = .next (kick env { s with
         jst := { s.jst with access := .pageProgram, job := { s.jst.job with composed := true } } })) ∧
     (∀ slots t q planned, s.jst.access = .pageProgram → s.jst.job.target = some (t, q) →
       s.jst.job.planned = some planned → s.jst.job.pages + 1 < pagesFor planned →
       exec (.pageProgramEnd true slots env) s = .next (kick env { s with
         store := s.store.set t ((segAt s t).put (8 * s.jst.job.pages + 1)
           (((jobOutput s).drop (8 * s.jst.job.pages)).take 8))
         jst := { s.jst with
           access := .pageRead
           job := { s.jst.job with phase := .copy, pages := s.jst.job.pages + 1, composed := false } } })) ∧
     (∀ slots t q planned, s.jst.access = .pageProgram → s.jst.job.target = some (t, q) →
       s.jst.job.planned = some planned → pagesFor planned = s.jst.job.pages + 1 →
       exec (.pageProgramEnd true slots env) s = .next (kick env { s with
         store := s.store.set t ((segAt s t).put (8 * s.jst.job.pages + 1)
           (((jobOutput s).drop (8 * s.jst.job.pages)).take 8))
         jst := { s.jst with
           access := .commitMark
           job := { s.jst.job with phase := .commit, pages := s.jst.job.pages + 1, composed := false } } }))) ∧
  (∀ (env : Env) (t a b qt qa qb : Nat) (s : State), s.logic = .running → s.jst.wantOpen = none → s.jst.queue = [] →
     s.rqs.service = none → s.jst.frozen = false → s.jst.job.stopped = false → s.jst.job.suspended = none →
     s.jst.access = .commitMark → s.jst.job.target = some (t, qt) → s.jst.job.first = some (a, qa) →
     s.jst.job.second = some (b, qb) → a ≠ t → (segAt s a).header.marked = false →
     exec (.commitMarkProgrammed true env) s = .next (kick env { s with
       store := s.store.set t ⟨{ (segAt s t).header with commit := true }, (segAt s t).slots⟩
       jst := { s.jst with
         status := (((s.jst.status.set t .full).set a .retiring).set b .retiring).set a .erasing
         access := .sourceErase a
         job := { s.jst.job with phase := .erase1 } } })) ∧
  (∀ (env : Env) (composed : Bool) (a b : Nat) (s : State), s.logic = .running → s.jst.wantOpen = none →
     s.jst.queue = [] → s.rqs.service = none → s.jst.frozen = false → s.jst.job.stopped = false →
     s.jst.job.suspended = none → s.jst.access = .pageRead → s.jst.job.phase = .planning → s.jst.job.reading = true →
     s.jst.job.pagesRead = 31 → pairAt s s.jst.job.walkAt = some (a, b) →
     let slots := (mergedSlots (segAt s a) (segAt s b)).length
     let chosen : Job := { s.jst.job with
       phase := .allocate
       first := some (a, seqAt s a)
       second := some (b, seqAt s b)
       planned := some slots
       reading := false }
     let planned : State := { s with jst := { s.jst with access := .none, job := chosen } }
     (∀ i f, slots ≤ 126 → planTarget planned = some (i, f) →
       exec (.pageReadEnd composed env) s = .next (kick env { s with
         jst := { s.jst with access := .alloc .target i f, job := chosen } })) ∧
     (slots ≤ 126 → planTarget planned = none → s.jst.condition = .normal →
       exec (.pageReadEnd composed env) s = .next (kick env { s with
         jst := { s.jst with access := .none, job := .initial } })) ∧
     (∀ k, 126 < slots → nextPair s (s.jst.job.walkAt + 1) = some k →
       exec (.pageReadEnd composed env) s = .next (kick env { s with
         jst := { s.jst with job := { s.jst.job with walkAt := k, pagesRead := 0, reading := true } } })) ∧
     (126 < slots → nextPair s (s.jst.job.walkAt + 1) = none → s.jst.condition = .normal → s.jst.job.cleanup = none →
       exec (.pageReadEnd composed env) s = .next (kick env { s with
         jst := { s.jst with access := .none, job := .initial } }))) ∧
  (∀ (env : Env) (t q : Nat) (s : State), s.logic = .running → s.jst.wantOpen = none → s.jst.queue = [] →
     s.rqs.service = none → s.jst.frozen = false → s.jst.job.stopped = false → s.jst.job.suspended = none →
     s.jst.job.target = some (t, q) → (segAt s t).header.marked = false →
     let abandoned (store : List Segment) : State := { s with
       store := store
       jst := { s.jst with
         status := s.jst.status.set t .erasing
         access := .cleanupErase t
         job := { Job.initial with cleanup := some t } } }
     (∀ slots, s.jst.access = .pageProgram →
       exec (.pageProgramEnd false slots env) s = .next (kick env (abandoned
         (s.store.set t ((segAt s t).put (8 * s.jst.job.pages + 1)
           (leftSlots (((jobOutput s).drop (8 * s.jst.job.pages)).take 8) slots)))))) ∧
     (s.jst.access = .commitMark → s.jst.job.phase = .commit → s.jst.job.commitRetry = false →
       exec (.commitMarkProgrammed false env) s = .next (kick env { s with
         jst := { s.jst with job := { s.jst.job with commitRetry := true } } })) ∧
     (s.jst.access = .commitMark → s.jst.job.commitRetry = true →
       exec (.commitMarkProgrammed false env) s = .next (kick env (abandoned s.store))))

/-- R139, R145: an erase has ended; the segment is BLANK if it reads erased and out of service if not, the second
source's erase follows the first's, and a cleanup's end leaves no cleanup target. R133: a job's end and a cleanup's
end evaluate the trigger. R120: an erase that leaves a segment to allocate ends SHORT; one that leaves none, with no
work left that can free one (notes/assumptions/48.md), makes the store JOURNAL-FULL. R134, R136: so does planning, or
an allocation of the target, that is abandoned in a SHORT store. -/
def Obligations.ErasesReturnSegments : Prop :=
  (∀ (left : EraseLeft) (env : Env) (i : Nat) (s : State), s.logic = .running → s.jst.wantOpen = none →
    s.jst.queue = [] → s.rqs.service = none → s.jst.frozen = false → s.jst.job.stopped = false →
    s.jst.job.suspended = none → s.jst.condition = .normal → i < s.store.length →
    let after := (segAt s i).erasedTo left
    let status := s.jst.status.set i (if after = .erased then .blank else .outOfService)
    (s.eve.station = .active → 4 ≤ blankCount { s with jst := { s.jst with status := status } }) →
    (∀ b qb, s.jst.access = .sourceErase i → s.jst.job.phase = .erase1 → s.jst.job.second = some (b, qb) → b ≠ i →
      (segAt s b).header.marked = false →
      exec (.sourceEraseEnd left env) s = .next (kick env { s with
        store := s.store.set i after
        jst := { s.jst with
          status := status.set b .erasing
          access := .sourceErase b
          job := { s.jst.job with phase := .erase2 } } })) ∧
    (s.jst.access = .sourceErase i → s.jst.job.phase = .erase2 →
      exec (.sourceEraseEnd left env) s = .next (kick env { s with
        store := s.store.set i after
        jst := { s.jst with status := status, access := .none, job := .initial } })) ∧
    (s.jst.access = .cleanupErase i → s.jst.job.phase = .none →
      exec (.cleanupEraseEnd left env) s = .next (kick env { s with
        store := s.store.set i after
        jst := { s.jst with status := status, access := .none, job := { s.jst.job with cleanup := none } } }))) ∧
  (∀ (left : EraseLeft) (env : Env) (i : Nat) (s : State), s.logic = .running → s.jst.wantOpen = none →
    s.jst.queue = [] → s.rqs.service = none → s.jst.frozen = false → s.jst.job.stopped = false →
    s.jst.job.suspended = none → i < s.store.length →
    let after := (segAt s i).erasedTo left
    let erased (job : Job) : State := { s with
      store := s.store.set i after
      jst := { s.jst with
        status := s.jst.status.set i (if after = .erased then .blank else .outOfService)
        access := .none
        job := job } }
    (∀ command done, (command = Instr.sourceEraseEnd left env ∧ s.jst.access = .sourceErase i ∧
          s.jst.job.phase = .erase2 ∧ done = erased .initial) ∨
        (command = .cleanupEraseEnd left env ∧ s.jst.access = .cleanupErase i ∧ s.jst.job.phase = .none ∧
          done = erased { s.jst.job with cleanup := none }) →
      let triggers := s.eve.station = .active ∧ blankCount done ≤ 3
      (s.jst.condition = .short → ¬ triggers → (planOpen done).isSome = true →
        exec command s = .next (kick env { done with jst := { done.jst with condition := .normal } })) ∧
      (s.jst.condition = .short → triggers → (planOpen done).isSome = true →
        (∀ k, nextPair done 0 = some k → exec command s = .next (kick env { done with jst := { done.jst with
          condition := .normal
          access := .pageRead
          job := { Job.initial with phase := .planning, walkAt := k, reading := true } } })) ∧
        (nextPair done 0 = none → exec command s = .next (kick env { done with jst := { done.jst with
          condition := .normal
          job := .initial } }))) ∧
      (s.jst.condition = .short → planOpen done = none → canFree done = false →
        exec command s = .next (kick env { done with jst := { done.jst with
          status := match openSeg done with
            | some j => done.jst.status.set j .full
            | none => done.jst.status
          condition := .journalFull } })) ∧
      (∀ k, s.jst.condition = .normal → triggers → nextPair done 0 = some k →
        exec command s = .next (kick env { done with jst := { done.jst with
          access := .pageRead
          job := { Job.initial with phase := .planning, walkAt := k, reading := true } } })) ∧
      (s.jst.condition = .normal → triggers → nextPair done 0 = none →
        exec command s = .next (kick env { done with jst := { done.jst with job := .initial } })))) ∧
  (∀ (left : EraseLeft) (env : Env) (i b qb : Nat) (s : State), s.logic = .running → s.jst.wantOpen = none →
    s.jst.queue = [] → s.rqs.service = none → s.jst.frozen = false → s.jst.job.stopped = false →
    s.jst.job.suspended = none → s.jst.condition = .short → i < s.store.length → s.jst.access = .sourceErase i →
    s.jst.job.phase = .erase1 → s.jst.job.second = some (b, qb) → b ≠ i → (segAt s b).header.marked = false →
    let after := (segAt s i).erasedTo left
    let status := s.jst.status.set i (if after = .erased then .blank else .outOfService)
    let allocates := planOpen { s with store := s.store.set i after, jst := { s.jst with status := status } }
    let next (condition : StoreCondition) : State := { s with
      store := s.store.set i after
      jst := { s.jst with
        status := status.set b .erasing
        access := .sourceErase b
        job := { s.jst.job with phase := .erase2 }
        condition := condition } }
    (allocates.isSome = true → exec (.sourceEraseEnd left env) s = .next (kick env (next .normal))) ∧
    (allocates = none → exec (.sourceEraseEnd left env) s = .next (kick env (next .short)))) ∧
  (∀ (env : Env) (s : State), s.logic = .running → s.jst.wantOpen = none → s.jst.queue = [] →
    s.rqs.service = none → s.jst.frozen = false → s.jst.job.stopped = false → s.jst.job.suspended = none →
    s.jst.condition = .short →
    let full (t : State) : State := { t with jst := { t.jst with
      access := .none
      job := .initial
      condition := .journalFull
      status := match openSeg t with
        | some j => t.jst.status.set j .full
        | none => t.jst.status } }
    (∀ composed a b, s.jst.access = .pageRead → s.jst.job.phase = .planning → s.jst.job.reading = true →
      s.jst.job.pagesRead = 31 → s.jst.job.cleanup = none → pairAt s s.jst.job.walkAt = some (a, b) →
      planOpen s = none → canFree { s with jst := { s.jst with job := .initial } } = false →
      let slots := (mergedSlots (segAt s a) (segAt s b)).length
      126 < slots ∧ nextPair s (s.jst.job.walkAt + 1) = none ∨ slots ≤ 126 ∧ nextBlank s = none →
      exec (.pageReadEnd composed env) s = .next (kick env (full s))) ∧
    (∀ (result : Amount) i f a, s.jst.access = .alloc .target i f → s.jst.job.phase = .allocate →
      (∃ shown, result = .part shown ∧ a = AllocRead.failing shown) ∨
        result = .nothing ∧ a = (segAt s i).header.alloc →
      let failed : State := { s with
        store := s.store.set i ⟨{ (segAt s i).header with alloc := a }, (segAt s i).slots⟩
        jst := { s.jst with status := s.jst.status.set i .outOfService, nextSeq := s.jst.nextSeq + 1 } }
      planTarget failed = none → planOpen failed = none →
      canFree { failed with jst := { failed.jst with job := .initial } } = false →
      exec (.allocationProgramEnd result env) s = .next (kick env (full failed))))
end

