-- ==== Sys2Proof/Laws/Conclusion.lean ====
section
/-! SUPPORT. When the requests of a conclusion, a composed fragment, the entry of a checkpoint and the figures of R156's third
row have their turn, and that otherwise these operations do nothing. -/

namespace Sys2Proof.Machine

/-! ### The requests of a conclusion (R155) -/

@[simp] theorem takeRequests_none (s : State) : takeRequests ⟨false, false, false⟩ s = s := rfl

theorem overtakenNow_before (env : Env) {s : State} (h : s.ret.schedule ≠ .running ∨ s.ret.quarter ≠ 4) :
    overtakenNow env s = ⟨false, false, false⟩ := by
  rcases h with h | h <;> simp [overtakenNow, h]

theorem overtakenNow_quarter4 (env : Env) {s : State} (h : s.ret.schedule = .running) (q : s.ret.quarter = 4) :
    overtakenNow env s = env.overtaken := by
  simp [overtakenNow, h, q]

theorem lateRequests_other {s : State}
    (h : ∀ reader tag late, s.rqs.service ≠ some (.conclude reader tag (.closing late))) : lateRequests s = s := by
  unfold lateRequests
  split
  · exact absurd ‹_› (h _ _ _)
  · rfl

theorem lateRequests_closing {s : State} {reader : PartyId} {tag : List Byte} {late : Overtaken}
    (h : s.rqs.service = some (.conclude reader tag (.closing late))) :
    lateRequests s = takeRequests late (setService (some (.conclude reader tag (.closing ⟨false, false, false⟩))) s) := by
  simp [lateRequests, h]

/-! ### A composed fragment (R165) -/

theorem fragmentStage_other {s : State} (h : ∀ c asked start seen, s.rqs.service ≠ some (.statusLine c asked start seen)) :
    fragmentStage s = s := by
  unfold fragmentStage
  split
  · exact absurd ‹_› (h _ _ _ _)
  · rfl

theorem fragmentStage_programming {s : State} (h : s.cmr.program ≠ .none) : fragmentStage s = s := by
  unfold fragmentStage
  split <;> simp [h]

theorem fragmentStage_line {s : State} {c : Cursor} {asked : Asked} {start seen : Nat}
    (h : s.rqs.service = some (.statusLine c asked start seen)) (p : s.cmr.program = .none) :
    fragmentStage s = finishFragment c asked start (some seen) s := by
  simp [fragmentStage, h, p]

/-! ### The entry of a checkpoint (R150, R165) -/

theorem composeCheckpoint_now (reader : PartyId) (number epoch newly failed : Nat) {s : State}
    (p : s.cmr.program = .none) :
    composeCheckpoint reader number epoch newly failed s = offerCheckpoint reader number epoch newly failed s := by
  simp [composeCheckpoint, p]

theorem composeCheckpoint_programming (reader : PartyId) (number epoch newly failed : Nat) {s : State}
    (p : s.cmr.program ≠ .none) :
    composeCheckpoint reader number epoch newly failed s =
      setService (some (.checkpoint reader number epoch (.composing newly failed))) s := by
  simp [composeCheckpoint, p]

theorem checkpointStage_marking {s : State} {reader : PartyId} {number epoch newly failed : Nat} {tried : List Nat}
    {again : Bool} (h : s.rqs.service = some (.checkpoint reader number epoch (.marking tried again newly failed)))
    (d : marksDone s tried = false) : checkpointStage s = s := by
  simp [checkpointStage, h, d]

theorem checkpointStage_marked {s : State} {reader : PartyId} {number epoch newly failed : Nat} {tried : List Nat}
    {again : Bool} (h : s.rqs.service = some (.checkpoint reader number epoch (.marking tried again newly failed)))
    (d : marksDone s tried = true) :
    checkpointStage s = composeCheckpoint reader number epoch newly failed s := by
  simp [checkpointStage, h, d]

theorem checkpointStage_composing {s : State} {reader : PartyId} {number epoch newly failed : Nat}
    (h : s.rqs.service = some (.checkpoint reader number epoch (.composing newly failed))) :
    checkpointStage s = composeCheckpoint reader number epoch newly failed s := by
  simp [checkpointStage, h]

/-- Step 4 never goes back to the marks (R150). -/
theorem markStage_composing {s : State} {reader : PartyId} {number epoch newly failed : Nat}
    (h : s.rqs.service = some (.checkpoint reader number epoch (.composing newly failed))) : markStage s = s := by
  unfold markStage
  split <;> simp [h]

/-! ### The end of a page read (R144, R155) -/

/-- A page read that a conclusion waits for brings its job nothing. -/
theorem pageReadTaken_awaited (composed : Bool) {s : State} (h : jobAwaited s = true) :
    pageReadTaken composed s = s := by
  simp [pageReadTaken, h]

theorem afterJobStep_other (env : Env) {s : State} (h : jobAwaited s = false) : afterJobStep env s = s := by
  unfold afterJobStep
  split <;> simp_all [jobAwaited]

/-! ### The programs of the commission record (R95, R158) -/

theorem figuresStage_other {s : State}
    (h : ∀ reader tag epoch, s.rqs.service ≠ some (.conclude reader tag (.composing epoch))) : figuresStage s = s := by
  unfold figuresStage
  split
  · exact absurd ‹_› (h _ _ _)
  · rfl

theorem figuresStage_composing {s : State} {reader : PartyId} {tag : List Byte} {epoch : Option Nat}
    (h : s.rqs.service = some (.conclude reader tag (.composing epoch))) (p : s.cmr.program = .none) :
    figuresStage s = setService (some (.conclude reader tag (.mark (finalFigures epoch s)))) s := by
  simp [figuresStage, h, p]

theorem figuresStage_programming {s : State} (p : s.cmr.program ≠ .none) : figuresStage s = s := by
  unfold figuresStage
  split <;> simp [p]

theorem nextProgram_programming (env : Env) (mark : Option Verdict) {s : State} (p : s.cmr.program ≠ .none) :
    nextProgram env mark s = s := by
  simp [nextProgram, p]

theorem nextProgram_drawn (env : Env) (v : Verdict) {s : State} {p : CrProgram} (h : s.cmr.program = .none)
    (d : conclusionDue s = some p) : nextProgram env (some v) s =
      s.setCmr { s.cmr with program := if env.conclusionFirst = true then p else .verdictMark v } := by
  cases c : env.conclusionFirst <;> simp [nextProgram, h, d, c]

theorem nextProgram_mark (env : Env) (v : Verdict) {s : State} (h : s.cmr.program = .none)
    (d : conclusionDue s = none) : nextProgram env (some v) s = s.setCmr { s.cmr with program := .verdictMark v } := by
  cases c : env.conclusionFirst <;> simp [nextProgram, h, d, c]

theorem nextProgram_conclusion (env : Env) {s : State} {p : CrProgram} (h : s.cmr.program = .none)
    (d : conclusionDue s = some p) : nextProgram env none s = s.setCmr { s.cmr with program := p } := by
  cases c : env.conclusionFirst <;> simp [nextProgram, h, d, c]

theorem nextProgram_done (env : Env) {s : State} (h : s.cmr.program = .none) (d : conclusionDue s = none) :
    nextProgram env none s = recordDone s := by
  cases c : env.conclusionFirst <;> simp [nextProgram, h, d, c]

theorem conclusionDue_other {s : State} (h : recordAwaited s = false) : conclusionDue s = none := by
  unfold conclusionDue
  unfold recordAwaited at h
  split <;> simp_all

theorem recordDone_other {s : State} (h : recordAwaited s = false) : recordDone s = s := by
  unfold recordDone
  unfold recordAwaited at h
  split <;> simp_all

/-! ### The third row of R156 -/

/-- With no readings of an empty epoch held, the figures of a conclusion are not handed early. -/
theorem lateConcluding_calm {s : State} (h : emptyEpochWaits s = false) : lateConcluding s = s := by
  unfold lateConcluding
  split
  · rename_i hc
    split
    · rename_i c hf
      simp only [Bool.and_eq_true] at hc
      have hp := List.find?_some hf
      simp only [Bool.and_eq_true] at hp
      have ha : s.eve.inputs.any (fun c => (c.readings.map EpochReadings.quarters) == some 0) = true :=
        List.any_eq_true.mpr ⟨c, List.mem_of_find?_eq_some hf, hp.1⟩
      simp [emptyEpochWaits, hc.1.2, hc.2, ha] at h
    · rfl
  · rfl

theorem lateConcluding_waits {s : State}
    (h : closesLeft s.eve = true ∨ s.ptb.viewTaken = false ∨ s.dmn.taking = true ∨ s.eve.inputs = []) :
    lateConcluding s = s := by
  rcases h with h | h | h | h <;> simp [lateConcluding, h]

end Sys2Proof.Machine
end

