-- ==== Sys2Proof/Laws/State.lean ====
section
/-! SUPPORT. One lemma per field per update of State. -/

namespace Sys2Proof.Machine

@[simp] theorem State.setLogic_logic (s : State) (x : Logic) : (s.setLogic x).logic = x := rfl
@[simp] theorem State.setLogic_ret (s : State) (x : Logic) : (s.setLogic x).ret = s.ret := rfl
@[simp] theorem State.setLogic_retValid (s : State) (x : Logic) : (s.setLogic x).retValid = s.retValid := rfl
@[simp] theorem State.setLogic_tmb (s : State) (x : Logic) : (s.setLogic x).tmb = s.tmb := rfl
@[simp] theorem State.setLogic_tch (s : State) (x : Logic) : (s.setLogic x).tch = s.tch := rfl
@[simp] theorem State.setLogic_chc (s : State) (x : Logic) : (s.setLogic x).chc = s.chc := rfl
@[simp] theorem State.setLogic_ptb (s : State) (x : Logic) : (s.setLogic x).ptb = s.ptb := rfl
@[simp] theorem State.setLogic_dmn (s : State) (x : Logic) : (s.setLogic x).dmn = s.dmn := rfl
@[simp] theorem State.setLogic_eve (s : State) (x : Logic) : (s.setLogic x).eve = s.eve := rfl
@[simp] theorem State.setLogic_store (s : State) (x : Logic) : (s.setLogic x).store = s.store := rfl
@[simp] theorem State.setLogic_jst (s : State) (x : Logic) : (s.setLogic x).jst = s.jst := rfl
@[simp] theorem State.setLogic_cmr (s : State) (x : Logic) : (s.setLogic x).cmr = s.cmr := rfl
@[simp] theorem State.setLogic_rqs (s : State) (x : Logic) : (s.setLogic x).rqs = s.rqs := rfl
@[simp] theorem State.setLogic_free (s : State) (x : Logic) : (s.setLogic x).free = s.free := rfl
@[simp] theorem State.setLogic_pending (s : State) (x : Logic) : (s.setLogic x).pending = s.pending := rfl

@[simp] theorem State.setRet_logic (s : State) (x : Retention) : (s.setRet x).logic = s.logic := rfl
@[simp] theorem State.setRet_ret (s : State) (x : Retention) : (s.setRet x).ret = x := rfl
@[simp] theorem State.setRet_retValid (s : State) (x : Retention) : (s.setRet x).retValid = s.retValid := rfl
@[simp] theorem State.setRet_tmb (s : State) (x : Retention) : (s.setRet x).tmb = s.tmb := rfl
@[simp] theorem State.setRet_tch (s : State) (x : Retention) : (s.setRet x).tch = s.tch := rfl
@[simp] theorem State.setRet_chc (s : State) (x : Retention) : (s.setRet x).chc = s.chc := rfl
@[simp] theorem State.setRet_ptb (s : State) (x : Retention) : (s.setRet x).ptb = s.ptb := rfl
@[simp] theorem State.setRet_dmn (s : State) (x : Retention) : (s.setRet x).dmn = s.dmn := rfl
@[simp] theorem State.setRet_eve (s : State) (x : Retention) : (s.setRet x).eve = s.eve := rfl
@[simp] theorem State.setRet_store (s : State) (x : Retention) : (s.setRet x).store = s.store := rfl
@[simp] theorem State.setRet_jst (s : State) (x : Retention) : (s.setRet x).jst = s.jst := rfl
@[simp] theorem State.setRet_cmr (s : State) (x : Retention) : (s.setRet x).cmr = s.cmr := rfl
@[simp] theorem State.setRet_rqs (s : State) (x : Retention) : (s.setRet x).rqs = s.rqs := rfl
@[simp] theorem State.setRet_free (s : State) (x : Retention) : (s.setRet x).free = s.free := rfl
@[simp] theorem State.setRet_pending (s : State) (x : Retention) : (s.setRet x).pending = s.pending := rfl

@[simp] theorem State.setRetValid_logic (s : State) (x : Bool) : (s.setRetValid x).logic = s.logic := rfl
@[simp] theorem State.setRetValid_ret (s : State) (x : Bool) : (s.setRetValid x).ret = s.ret := rfl
@[simp] theorem State.setRetValid_retValid (s : State) (x : Bool) : (s.setRetValid x).retValid = x := rfl
@[simp] theorem State.setRetValid_tmb (s : State) (x : Bool) : (s.setRetValid x).tmb = s.tmb := rfl
@[simp] theorem State.setRetValid_tch (s : State) (x : Bool) : (s.setRetValid x).tch = s.tch := rfl
@[simp] theorem State.setRetValid_chc (s : State) (x : Bool) : (s.setRetValid x).chc = s.chc := rfl
@[simp] theorem State.setRetValid_ptb (s : State) (x : Bool) : (s.setRetValid x).ptb = s.ptb := rfl
@[simp] theorem State.setRetValid_dmn (s : State) (x : Bool) : (s.setRetValid x).dmn = s.dmn := rfl
@[simp] theorem State.setRetValid_eve (s : State) (x : Bool) : (s.setRetValid x).eve = s.eve := rfl
@[simp] theorem State.setRetValid_store (s : State) (x : Bool) : (s.setRetValid x).store = s.store := rfl
@[simp] theorem State.setRetValid_jst (s : State) (x : Bool) : (s.setRetValid x).jst = s.jst := rfl
@[simp] theorem State.setRetValid_cmr (s : State) (x : Bool) : (s.setRetValid x).cmr = s.cmr := rfl
@[simp] theorem State.setRetValid_rqs (s : State) (x : Bool) : (s.setRetValid x).rqs = s.rqs := rfl
@[simp] theorem State.setRetValid_free (s : State) (x : Bool) : (s.setRetValid x).free = s.free := rfl
@[simp] theorem State.setRetValid_pending (s : State) (x : Bool) : (s.setRetValid x).pending = s.pending := rfl

@[simp] theorem State.setTmb_logic (s : State) (x : Tmb) : (s.setTmb x).logic = s.logic := rfl
@[simp] theorem State.setTmb_ret (s : State) (x : Tmb) : (s.setTmb x).ret = s.ret := rfl
@[simp] theorem State.setTmb_retValid (s : State) (x : Tmb) : (s.setTmb x).retValid = s.retValid := rfl
@[simp] theorem State.setTmb_tmb (s : State) (x : Tmb) : (s.setTmb x).tmb = x := rfl
@[simp] theorem State.setTmb_tch (s : State) (x : Tmb) : (s.setTmb x).tch = s.tch := rfl
@[simp] theorem State.setTmb_chc (s : State) (x : Tmb) : (s.setTmb x).chc = s.chc := rfl
@[simp] theorem State.setTmb_ptb (s : State) (x : Tmb) : (s.setTmb x).ptb = s.ptb := rfl
@[simp] theorem State.setTmb_dmn (s : State) (x : Tmb) : (s.setTmb x).dmn = s.dmn := rfl
@[simp] theorem State.setTmb_eve (s : State) (x : Tmb) : (s.setTmb x).eve = s.eve := rfl
@[simp] theorem State.setTmb_store (s : State) (x : Tmb) : (s.setTmb x).store = s.store := rfl
@[simp] theorem State.setTmb_jst (s : State) (x : Tmb) : (s.setTmb x).jst = s.jst := rfl
@[simp] theorem State.setTmb_cmr (s : State) (x : Tmb) : (s.setTmb x).cmr = s.cmr := rfl
@[simp] theorem State.setTmb_rqs (s : State) (x : Tmb) : (s.setTmb x).rqs = s.rqs := rfl
@[simp] theorem State.setTmb_free (s : State) (x : Tmb) : (s.setTmb x).free = s.free := rfl
@[simp] theorem State.setTmb_pending (s : State) (x : Tmb) : (s.setTmb x).pending = s.pending := rfl

@[simp] theorem State.setTch_logic (s : State) (x : Tch) : (s.setTch x).logic = s.logic := rfl
@[simp] theorem State.setTch_ret (s : State) (x : Tch) : (s.setTch x).ret = s.ret := rfl
@[simp] theorem State.setTch_retValid (s : State) (x : Tch) : (s.setTch x).retValid = s.retValid := rfl
@[simp] theorem State.setTch_tmb (s : State) (x : Tch) : (s.setTch x).tmb = s.tmb := rfl
@[simp] theorem State.setTch_tch (s : State) (x : Tch) : (s.setTch x).tch = x := rfl
@[simp] theorem State.setTch_chc (s : State) (x : Tch) : (s.setTch x).chc = s.chc := rfl
@[simp] theorem State.setTch_ptb (s : State) (x : Tch) : (s.setTch x).ptb = s.ptb := rfl
@[simp] theorem State.setTch_dmn (s : State) (x : Tch) : (s.setTch x).dmn = s.dmn := rfl
@[simp] theorem State.setTch_eve (s : State) (x : Tch) : (s.setTch x).eve = s.eve := rfl
@[simp] theorem State.setTch_store (s : State) (x : Tch) : (s.setTch x).store = s.store := rfl
@[simp] theorem State.setTch_jst (s : State) (x : Tch) : (s.setTch x).jst = s.jst := rfl
@[simp] theorem State.setTch_cmr (s : State) (x : Tch) : (s.setTch x).cmr = s.cmr := rfl
@[simp] theorem State.setTch_rqs (s : State) (x : Tch) : (s.setTch x).rqs = s.rqs := rfl
@[simp] theorem State.setTch_free (s : State) (x : Tch) : (s.setTch x).free = s.free := rfl
@[simp] theorem State.setTch_pending (s : State) (x : Tch) : (s.setTch x).pending = s.pending := rfl

@[simp] theorem State.setChc_logic (s : State) (x : Chc) : (s.setChc x).logic = s.logic := rfl
@[simp] theorem State.setChc_ret (s : State) (x : Chc) : (s.setChc x).ret = s.ret := rfl
@[simp] theorem State.setChc_retValid (s : State) (x : Chc) : (s.setChc x).retValid = s.retValid := rfl
@[simp] theorem State.setChc_tmb (s : State) (x : Chc) : (s.setChc x).tmb = s.tmb := rfl
@[simp] theorem State.setChc_tch (s : State) (x : Chc) : (s.setChc x).tch = s.tch := rfl
@[simp] theorem State.setChc_chc (s : State) (x : Chc) : (s.setChc x).chc = x := rfl
@[simp] theorem State.setChc_ptb (s : State) (x : Chc) : (s.setChc x).ptb = s.ptb := rfl
@[simp] theorem State.setChc_dmn (s : State) (x : Chc) : (s.setChc x).dmn = s.dmn := rfl
@[simp] theorem State.setChc_eve (s : State) (x : Chc) : (s.setChc x).eve = s.eve := rfl
@[simp] theorem State.setChc_store (s : State) (x : Chc) : (s.setChc x).store = s.store := rfl
@[simp] theorem State.setChc_jst (s : State) (x : Chc) : (s.setChc x).jst = s.jst := rfl
@[simp] theorem State.setChc_cmr (s : State) (x : Chc) : (s.setChc x).cmr = s.cmr := rfl
@[simp] theorem State.setChc_rqs (s : State) (x : Chc) : (s.setChc x).rqs = s.rqs := rfl
@[simp] theorem State.setChc_free (s : State) (x : Chc) : (s.setChc x).free = s.free := rfl
@[simp] theorem State.setChc_pending (s : State) (x : Chc) : (s.setChc x).pending = s.pending := rfl

@[simp] theorem State.setPtb_logic (s : State) (x : Ptb) : (s.setPtb x).logic = s.logic := rfl
@[simp] theorem State.setPtb_ret (s : State) (x : Ptb) : (s.setPtb x).ret = s.ret := rfl
@[simp] theorem State.setPtb_retValid (s : State) (x : Ptb) : (s.setPtb x).retValid = s.retValid := rfl
@[simp] theorem State.setPtb_tmb (s : State) (x : Ptb) : (s.setPtb x).tmb = s.tmb := rfl
@[simp] theorem State.setPtb_tch (s : State) (x : Ptb) : (s.setPtb x).tch = s.tch := rfl
@[simp] theorem State.setPtb_chc (s : State) (x : Ptb) : (s.setPtb x).chc = s.chc := rfl
@[simp] theorem State.setPtb_ptb (s : State) (x : Ptb) : (s.setPtb x).ptb = x := rfl
@[simp] theorem State.setPtb_dmn (s : State) (x : Ptb) : (s.setPtb x).dmn = s.dmn := rfl
@[simp] theorem State.setPtb_eve (s : State) (x : Ptb) : (s.setPtb x).eve = s.eve := rfl
@[simp] theorem State.setPtb_store (s : State) (x : Ptb) : (s.setPtb x).store = s.store := rfl
@[simp] theorem State.setPtb_jst (s : State) (x : Ptb) : (s.setPtb x).jst = s.jst := rfl
@[simp] theorem State.setPtb_cmr (s : State) (x : Ptb) : (s.setPtb x).cmr = s.cmr := rfl
@[simp] theorem State.setPtb_rqs (s : State) (x : Ptb) : (s.setPtb x).rqs = s.rqs := rfl
@[simp] theorem State.setPtb_free (s : State) (x : Ptb) : (s.setPtb x).free = s.free := rfl
@[simp] theorem State.setPtb_pending (s : State) (x : Ptb) : (s.setPtb x).pending = s.pending := rfl

@[simp] theorem State.setDmn_logic (s : State) (x : Dmn) : (s.setDmn x).logic = s.logic := rfl
@[simp] theorem State.setDmn_ret (s : State) (x : Dmn) : (s.setDmn x).ret = s.ret := rfl
@[simp] theorem State.setDmn_retValid (s : State) (x : Dmn) : (s.setDmn x).retValid = s.retValid := rfl
@[simp] theorem State.setDmn_tmb (s : State) (x : Dmn) : (s.setDmn x).tmb = s.tmb := rfl
@[simp] theorem State.setDmn_tch (s : State) (x : Dmn) : (s.setDmn x).tch = s.tch := rfl
@[simp] theorem State.setDmn_chc (s : State) (x : Dmn) : (s.setDmn x).chc = s.chc := rfl
@[simp] theorem State.setDmn_ptb (s : State) (x : Dmn) : (s.setDmn x).ptb = s.ptb := rfl
@[simp] theorem State.setDmn_dmn (s : State) (x : Dmn) : (s.setDmn x).dmn = x := rfl
@[simp] theorem State.setDmn_eve (s : State) (x : Dmn) : (s.setDmn x).eve = s.eve := rfl
@[simp] theorem State.setDmn_store (s : State) (x : Dmn) : (s.setDmn x).store = s.store := rfl
@[simp] theorem State.setDmn_jst (s : State) (x : Dmn) : (s.setDmn x).jst = s.jst := rfl
@[simp] theorem State.setDmn_cmr (s : State) (x : Dmn) : (s.setDmn x).cmr = s.cmr := rfl
@[simp] theorem State.setDmn_rqs (s : State) (x : Dmn) : (s.setDmn x).rqs = s.rqs := rfl
@[simp] theorem State.setDmn_free (s : State) (x : Dmn) : (s.setDmn x).free = s.free := rfl
@[simp] theorem State.setDmn_pending (s : State) (x : Dmn) : (s.setDmn x).pending = s.pending := rfl

@[simp] theorem State.setEve_logic (s : State) (x : Eve) : (s.setEve x).logic = s.logic := rfl
@[simp] theorem State.setEve_ret (s : State) (x : Eve) : (s.setEve x).ret = s.ret := rfl
@[simp] theorem State.setEve_retValid (s : State) (x : Eve) : (s.setEve x).retValid = s.retValid := rfl
@[simp] theorem State.setEve_tmb (s : State) (x : Eve) : (s.setEve x).tmb = s.tmb := rfl
@[simp] theorem State.setEve_tch (s : State) (x : Eve) : (s.setEve x).tch = s.tch := rfl
@[simp] theorem State.setEve_chc (s : State) (x : Eve) : (s.setEve x).chc = s.chc := rfl
@[simp] theorem State.setEve_ptb (s : State) (x : Eve) : (s.setEve x).ptb = s.ptb := rfl
@[simp] theorem State.setEve_dmn (s : State) (x : Eve) : (s.setEve x).dmn = s.dmn := rfl
@[simp] theorem State.setEve_eve (s : State) (x : Eve) : (s.setEve x).eve = x := rfl
@[simp] theorem State.setEve_store (s : State) (x : Eve) : (s.setEve x).store = s.store := rfl
@[simp] theorem State.setEve_jst (s : State) (x : Eve) : (s.setEve x).jst = s.jst := rfl
@[simp] theorem State.setEve_cmr (s : State) (x : Eve) : (s.setEve x).cmr = s.cmr := rfl
@[simp] theorem State.setEve_rqs (s : State) (x : Eve) : (s.setEve x).rqs = s.rqs := rfl
@[simp] theorem State.setEve_free (s : State) (x : Eve) : (s.setEve x).free = s.free := rfl
@[simp] theorem State.setEve_pending (s : State) (x : Eve) : (s.setEve x).pending = s.pending := rfl

@[simp] theorem State.setStore_logic (s : State) (x : List Segment) : (s.setStore x).logic = s.logic := rfl
@[simp] theorem State.setStore_ret (s : State) (x : List Segment) : (s.setStore x).ret = s.ret := rfl
@[simp] theorem State.setStore_retValid (s : State) (x : List Segment) : (s.setStore x).retValid = s.retValid := rfl
@[simp] theorem State.setStore_tmb (s : State) (x : List Segment) : (s.setStore x).tmb = s.tmb := rfl
@[simp] theorem State.setStore_tch (s : State) (x : List Segment) : (s.setStore x).tch = s.tch := rfl
@[simp] theorem State.setStore_chc (s : State) (x : List Segment) : (s.setStore x).chc = s.chc := rfl
@[simp] theorem State.setStore_ptb (s : State) (x : List Segment) : (s.setStore x).ptb = s.ptb := rfl
@[simp] theorem State.setStore_dmn (s : State) (x : List Segment) : (s.setStore x).dmn = s.dmn := rfl
@[simp] theorem State.setStore_eve (s : State) (x : List Segment) : (s.setStore x).eve = s.eve := rfl
@[simp] theorem State.setStore_store (s : State) (x : List Segment) : (s.setStore x).store = x := rfl
@[simp] theorem State.setStore_jst (s : State) (x : List Segment) : (s.setStore x).jst = s.jst := rfl
@[simp] theorem State.setStore_cmr (s : State) (x : List Segment) : (s.setStore x).cmr = s.cmr := rfl
@[simp] theorem State.setStore_rqs (s : State) (x : List Segment) : (s.setStore x).rqs = s.rqs := rfl
@[simp] theorem State.setStore_free (s : State) (x : List Segment) : (s.setStore x).free = s.free := rfl
@[simp] theorem State.setStore_pending (s : State) (x : List Segment) : (s.setStore x).pending = s.pending := rfl

@[simp] theorem State.setJst_logic (s : State) (x : Jst) : (s.setJst x).logic = s.logic := rfl
@[simp] theorem State.setJst_ret (s : State) (x : Jst) : (s.setJst x).ret = s.ret := rfl
@[simp] theorem State.setJst_retValid (s : State) (x : Jst) : (s.setJst x).retValid = s.retValid := rfl
@[simp] theorem State.setJst_tmb (s : State) (x : Jst) : (s.setJst x).tmb = s.tmb := rfl
@[simp] theorem State.setJst_tch (s : State) (x : Jst) : (s.setJst x).tch = s.tch := rfl
@[simp] theorem State.setJst_chc (s : State) (x : Jst) : (s.setJst x).chc = s.chc := rfl
@[simp] theorem State.setJst_ptb (s : State) (x : Jst) : (s.setJst x).ptb = s.ptb := rfl
@[simp] theorem State.setJst_dmn (s : State) (x : Jst) : (s.setJst x).dmn = s.dmn := rfl
@[simp] theorem State.setJst_eve (s : State) (x : Jst) : (s.setJst x).eve = s.eve := rfl
@[simp] theorem State.setJst_store (s : State) (x : Jst) : (s.setJst x).store = s.store := rfl
@[simp] theorem State.setJst_jst (s : State) (x : Jst) : (s.setJst x).jst = x := rfl
@[simp] theorem State.setJst_cmr (s : State) (x : Jst) : (s.setJst x).cmr = s.cmr := rfl
@[simp] theorem State.setJst_rqs (s : State) (x : Jst) : (s.setJst x).rqs = s.rqs := rfl
@[simp] theorem State.setJst_free (s : State) (x : Jst) : (s.setJst x).free = s.free := rfl
@[simp] theorem State.setJst_pending (s : State) (x : Jst) : (s.setJst x).pending = s.pending := rfl

@[simp] theorem State.setCmr_logic (s : State) (x : Cmr) : (s.setCmr x).logic = s.logic := rfl
@[simp] theorem State.setCmr_ret (s : State) (x : Cmr) : (s.setCmr x).ret = s.ret := rfl
@[simp] theorem State.setCmr_retValid (s : State) (x : Cmr) : (s.setCmr x).retValid = s.retValid := rfl
@[simp] theorem State.setCmr_tmb (s : State) (x : Cmr) : (s.setCmr x).tmb = s.tmb := rfl
@[simp] theorem State.setCmr_tch (s : State) (x : Cmr) : (s.setCmr x).tch = s.tch := rfl
@[simp] theorem State.setCmr_chc (s : State) (x : Cmr) : (s.setCmr x).chc = s.chc := rfl
@[simp] theorem State.setCmr_ptb (s : State) (x : Cmr) : (s.setCmr x).ptb = s.ptb := rfl
@[simp] theorem State.setCmr_dmn (s : State) (x : Cmr) : (s.setCmr x).dmn = s.dmn := rfl
@[simp] theorem State.setCmr_eve (s : State) (x : Cmr) : (s.setCmr x).eve = s.eve := rfl
@[simp] theorem State.setCmr_store (s : State) (x : Cmr) : (s.setCmr x).store = s.store := rfl
@[simp] theorem State.setCmr_jst (s : State) (x : Cmr) : (s.setCmr x).jst = s.jst := rfl
@[simp] theorem State.setCmr_cmr (s : State) (x : Cmr) : (s.setCmr x).cmr = x := rfl
@[simp] theorem State.setCmr_rqs (s : State) (x : Cmr) : (s.setCmr x).rqs = s.rqs := rfl
@[simp] theorem State.setCmr_free (s : State) (x : Cmr) : (s.setCmr x).free = s.free := rfl
@[simp] theorem State.setCmr_pending (s : State) (x : Cmr) : (s.setCmr x).pending = s.pending := rfl

@[simp] theorem State.setRqs_logic (s : State) (x : Rqs) : (s.setRqs x).logic = s.logic := rfl
@[simp] theorem State.setRqs_ret (s : State) (x : Rqs) : (s.setRqs x).ret = s.ret := rfl
@[simp] theorem State.setRqs_retValid (s : State) (x : Rqs) : (s.setRqs x).retValid = s.retValid := rfl
@[simp] theorem State.setRqs_tmb (s : State) (x : Rqs) : (s.setRqs x).tmb = s.tmb := rfl
@[simp] theorem State.setRqs_tch (s : State) (x : Rqs) : (s.setRqs x).tch = s.tch := rfl
@[simp] theorem State.setRqs_chc (s : State) (x : Rqs) : (s.setRqs x).chc = s.chc := rfl
@[simp] theorem State.setRqs_ptb (s : State) (x : Rqs) : (s.setRqs x).ptb = s.ptb := rfl
@[simp] theorem State.setRqs_dmn (s : State) (x : Rqs) : (s.setRqs x).dmn = s.dmn := rfl
@[simp] theorem State.setRqs_eve (s : State) (x : Rqs) : (s.setRqs x).eve = s.eve := rfl
@[simp] theorem State.setRqs_store (s : State) (x : Rqs) : (s.setRqs x).store = s.store := rfl
@[simp] theorem State.setRqs_jst (s : State) (x : Rqs) : (s.setRqs x).jst = s.jst := rfl
@[simp] theorem State.setRqs_cmr (s : State) (x : Rqs) : (s.setRqs x).cmr = s.cmr := rfl
@[simp] theorem State.setRqs_rqs (s : State) (x : Rqs) : (s.setRqs x).rqs = x := rfl
@[simp] theorem State.setRqs_free (s : State) (x : Rqs) : (s.setRqs x).free = s.free := rfl
@[simp] theorem State.setRqs_pending (s : State) (x : Rqs) : (s.setRqs x).pending = s.pending := rfl

@[simp] theorem State.setFree_logic (s : State) (x : Nat) : (s.setFree x).logic = s.logic := rfl
@[simp] theorem State.setFree_ret (s : State) (x : Nat) : (s.setFree x).ret = s.ret := rfl
@[simp] theorem State.setFree_retValid (s : State) (x : Nat) : (s.setFree x).retValid = s.retValid := rfl
@[simp] theorem State.setFree_tmb (s : State) (x : Nat) : (s.setFree x).tmb = s.tmb := rfl
@[simp] theorem State.setFree_tch (s : State) (x : Nat) : (s.setFree x).tch = s.tch := rfl
@[simp] theorem State.setFree_chc (s : State) (x : Nat) : (s.setFree x).chc = s.chc := rfl
@[simp] theorem State.setFree_ptb (s : State) (x : Nat) : (s.setFree x).ptb = s.ptb := rfl
@[simp] theorem State.setFree_dmn (s : State) (x : Nat) : (s.setFree x).dmn = s.dmn := rfl
@[simp] theorem State.setFree_eve (s : State) (x : Nat) : (s.setFree x).eve = s.eve := rfl
@[simp] theorem State.setFree_store (s : State) (x : Nat) : (s.setFree x).store = s.store := rfl
@[simp] theorem State.setFree_jst (s : State) (x : Nat) : (s.setFree x).jst = s.jst := rfl
@[simp] theorem State.setFree_cmr (s : State) (x : Nat) : (s.setFree x).cmr = s.cmr := rfl
@[simp] theorem State.setFree_rqs (s : State) (x : Nat) : (s.setFree x).rqs = s.rqs := rfl
@[simp] theorem State.setFree_free (s : State) (x : Nat) : (s.setFree x).free = x := rfl
@[simp] theorem State.setFree_pending (s : State) (x : Nat) : (s.setFree x).pending = s.pending := rfl

@[simp] theorem State.setPending_logic (s : State) (x : List Instr) : (s.setPending x).logic = s.logic := rfl
@[simp] theorem State.setPending_ret (s : State) (x : List Instr) : (s.setPending x).ret = s.ret := rfl
@[simp] theorem State.setPending_retValid (s : State) (x : List Instr) : (s.setPending x).retValid = s.retValid := rfl
@[simp] theorem State.setPending_tmb (s : State) (x : List Instr) : (s.setPending x).tmb = s.tmb := rfl
@[simp] theorem State.setPending_tch (s : State) (x : List Instr) : (s.setPending x).tch = s.tch := rfl
@[simp] theorem State.setPending_chc (s : State) (x : List Instr) : (s.setPending x).chc = s.chc := rfl
@[simp] theorem State.setPending_ptb (s : State) (x : List Instr) : (s.setPending x).ptb = s.ptb := rfl
@[simp] theorem State.setPending_dmn (s : State) (x : List Instr) : (s.setPending x).dmn = s.dmn := rfl
@[simp] theorem State.setPending_eve (s : State) (x : List Instr) : (s.setPending x).eve = s.eve := rfl
@[simp] theorem State.setPending_store (s : State) (x : List Instr) : (s.setPending x).store = s.store := rfl
@[simp] theorem State.setPending_jst (s : State) (x : List Instr) : (s.setPending x).jst = s.jst := rfl
@[simp] theorem State.setPending_cmr (s : State) (x : List Instr) : (s.setPending x).cmr = s.cmr := rfl
@[simp] theorem State.setPending_rqs (s : State) (x : List Instr) : (s.setPending x).rqs = s.rqs := rfl
@[simp] theorem State.setPending_free (s : State) (x : List Instr) : (s.setPending x).free = s.free := rfl
@[simp] theorem State.setPending_pending (s : State) (x : List Instr) : (s.setPending x).pending = x := rfl

end Sys2Proof.Machine
end

