-- ==== Sys2Proof/Laws/Frames.lean ====
section
/-! SUPPORT. What the shared operations leave unchanged: one lemma per operation, over the bundles of Safety.lean. -/

namespace Sys2Proof.Machine

theorem SameCore.refl (s : State) : SameCore s s := by
  constructor
  case work => exact ⟨0, (List.append_nil _).symm⟩
  case trip => exact fun h => ⟨h, rfl, rfl, rfl⟩
  all_goals rfl

theorem SameBlocks.refl (s : State) : SameBlocks s s := by constructor <;> rfl

theorem SameCore.trans {s t u : State} (a : SameCore s t) (b : SameCore t u) : SameCore s u := by
  obtain ⟨m, hm⟩ := a.work
  obtain ⟨n, hn⟩ := b.work
  have trip : concluding s = false →
      concluding u = false ∧ u.eve.station = s.eve.station ∧ u.ret = s.ret ∧ u.tmb = s.tmb := fun h =>
    have x := a.trip h
    have y := b.trip x.1
    ⟨y.1, y.2.1.trans x.2.1, y.2.2.1.trans x.2.2.1, y.2.2.2.trans x.2.2.2⟩
  obtain ⟨⟩ := a
  obtain ⟨⟩ := b
  constructor
  case work => exact ⟨m + n, by rw [hn, hm, List.append_assoc, List.replicate_append_replicate]⟩
  case trip => exact trip
  all_goals simp_all

theorem SameBlocks.trans {s t u : State} (a : SameBlocks s t) (b : SameBlocks t u) : SameBlocks s u := by
  obtain ⟨⟩ := a
  obtain ⟨⟩ := b
  constructor <;> simp_all

/-! ### One relation for both bundles -/

/-- `t` keeps what `SameCore` names; and, where `s` serves neither a conclusion nor an opening commissioning, what
`SameBlocks` names too, and `t` serves neither. -/
def Kept (s t : State) : Prop :=
  SameCore s t ∧ (serviceLight s = true → SameBlocks s t ∧ serviceLight t = true)

theorem Kept.refl (s : State) : Kept s s := ⟨.refl s, fun h => ⟨.refl s, h⟩⟩

theorem Kept.trans {s t u : State} (a : Kept s t) (b : Kept t u) : Kept s u :=
  ⟨a.1.trans b.1, fun h => ⟨(a.2 h).1.trans (b.2 (a.2 h).2).1, (b.2 (a.2 h).2).2⟩⟩

/-- An update of the journal store's state alone that keeps the next sequence number. -/
theorem Kept.setJst (s : State) (j : Jst) (h : j.nextSeq = s.jst.nextSeq) : Kept s (s.setJst j) :=
  ⟨by constructor <;> first | rfl | exact fun h => ⟨h, rfl, rfl, rfl⟩ | exact h | exact ⟨0, (List.append_nil _).symm⟩,
    fun hl => ⟨by constructor <;> rfl, hl⟩⟩

theorem Kept.thenJst {s t : State} {j : Jst} (k : Kept (s.setJst j) t) (h : j.nextSeq = s.jst.nextSeq) : Kept s t :=
  (Kept.setJst s j h).trans k

/-- An update of the channel controller that keeps its schedule, its note content and its hold. -/
theorem Kept.setChc (s : State) (c : Chc) (h1 : c.schedule = s.chc.schedule) (h2 : c.content = s.chc.content)
    (h3 : c.hold = s.chc.hold) : Kept s (s.setChc c) :=
  ⟨by constructor <;> first | rfl | exact fun h => ⟨h, rfl, rfl, rfl⟩ | exact h3 | exact ⟨0, (List.append_nil _).symm⟩,
    fun hl => ⟨by constructor <;> first | rfl | exact h1 | exact h2, hl⟩⟩

/-- A request in service that stays neither a conclusion nor an opening commissioning. -/
theorem Kept.setService (s : State) (x : Option Service)
    (h : serviceLight s = true → serviceLight (Machine.setService x s) = true)
    (h2 : concluding s = false → concluding (Machine.setService x s) = false) : Kept s (Machine.setService x s) :=
  ⟨by constructor <;> first | rfl | exact fun hc => ⟨h2 hc, rfl, rfl, rfl⟩ | exact ⟨0, (List.append_nil _).symm⟩,
    fun hl => ⟨by constructor <;> rfl, h hl⟩⟩

/-- What a heavy service lets a step do: no more than `SameCore`. -/
theorem Kept.ofCore {s t : State} (c : SameCore s t) (h : serviceLight s = false) : Kept s t :=
  ⟨c, fun hl => by simp [h] at hl⟩

/-! ### The channel -/

theorem Chc.beginSense_keeps (c : Chc) :
    c.beginSense.schedule = c.schedule ∧ c.beginSense.content = c.content ∧ c.beginSense.hold = c.hold := by
  unfold Chc.beginSense
  split <;> exact ⟨rfl, rfl, rfl⟩

theorem Chc.endSense_keeps (c : Chc) (busy : Bool) (slots : Nat) :
    (c.endSense busy slots).schedule = c.schedule ∧ (c.endSense busy slots).content = c.content ∧
      (c.endSense busy slots).hold = c.hold := by
  unfold Chc.endSense Chc.senseReport
  repeat' split
  all_goals exact ⟨rfl, rfl, rfl⟩

/-- Carrier sense changes the queue, its busy count and the transmitter alone. -/
theorem Chc.kick_keeps (env : Env) (c : Chc) :
    (c.kick env).schedule = c.schedule ∧ (c.kick env).content = c.content ∧ (c.kick env).hold = c.hold := by
  simp only [Chc.kick, Chc.endSense_keeps, Chc.beginSense_keeps, and_self]

theorem kick_kept (env : Env) (s : State) : Kept s (kick env s) :=
  .setChc s _ (Chc.kick_keeps env s.chc).1 (Chc.kick_keeps env s.chc).2.1 (Chc.kick_keeps env s.chc).2.2

theorem Chc.offerReply_keeps (c : Chc) (reader : PartyId) (r : Reply) :
    (c.offerReply reader r).schedule = c.schedule ∧ (c.offerReply reader r).content = c.content ∧
      (c.offerReply reader r).hold = c.hold := by
  unfold Chc.offerReply
  split <;> exact ⟨rfl, rfl, rfl⟩

theorem sendReply_kept (reader : PartyId) (r : Reply) (s : State) : Kept s (sendReply reader r s) :=
  .setChc s _ (Chc.offerReply_keeps ..).1 (Chc.offerReply_keeps ..).2.1 (Chc.offerReply_keeps ..).2.2

theorem complete_kept (reader : PartyId) (r : Reply) (s : State) : Kept s (complete reader r s) :=
  (Kept.setService s none (fun _ => rfl) fun _ => rfl).trans (sendReply_kept ..)

/-! ### The journal store -/

theorem setAccess_kept (a : Access) (s : State) : Kept s (setAccess a s) := .setJst s _ rfl
theorem setJob_kept (j : Job) (s : State) : Kept s (setJob j s) := .setJst s _ rfl
theorem putStatus_kept (i : Nat) (x : SegStatus) (s : State) : Kept s (putStatus i x s) := .setJst s _ rfl
theorem endJob_kept (c : Option Nat) (s : State) : Kept s (endJob c s) := setJob_kept ..

theorem suspend_kept (s : State) : Kept s (suspend s) := by
  unfold suspend
  split <;> first | exact .refl s | exact .setJst s _ rfl

theorem offer_kept (e : Entry) (s : State) : Kept s (offer e s).1 := by
  unfold offer
  split
  · exact .thenJst (suspend_kept _) rfl
  · exact .refl s

theorem fillStore_kept (s : State) : Kept s (fillStore s) := by
  unfold fillStore
  split
  · exact (putStatus_kept ..).trans (.setJst _ _ rfl)
  · exact .setJst s _ rfl

theorem settleShort_kept (s : State) : Kept s (settleShort s) := by
  unfold settleShort
  repeat' split
  all_goals first | exact .refl s | exact .setJst s _ rfl | exact fillStore_kept s

/-! ### Fates of entries that are refused -/

theorem settleLeg_kept (e : LegEntry) (s : State) : Kept s (settleLeg e false s) := by
  unfold settleLeg
  repeat' split
  all_goals first
    | exact .refl s
    | contradiction
    | exact ⟨by constructor <;> first | rfl | exact fun h => ⟨h, rfl, rfl, rfl⟩ | exact ⟨0, (List.append_nil _).symm⟩,
    fun hl => ⟨by constructor <;> rfl, hl⟩⟩

theorem coverageFate_kept (e : Entry) (s : State) : Kept s (coverageFate false e s) :=
  ⟨by constructor <;> first | rfl | exact fun h => ⟨h, rfl, rfl, rfl⟩ | exact ⟨0, (List.append_nil _).symm⟩ | exact ⟨1, rfl⟩,
    fun hl => ⟨by constructor <;> rfl, hl⟩⟩

theorem blockFate_kept (e : Entry) (s : State) : Kept s (blockFate false e s) := by
  cases e with
  | epoch x => exact coverageFate_kept (.epoch x) s
  | gap x => exact coverageFate_kept (.gap x) s
  | leg x => exact settleLeg_kept x s
  | run | door | checkpoint | conclude => exact .refl s

theorem foldl_kept {α : Type} (f : State → α → State) (h : ∀ s a, Kept s (f s a)) (as : List α) :
    ∀ s, Kept s (as.foldl f s) := by
  induction as with
  | nil => exact .refl
  | cons a as ih => exact fun s => (h s a).trans (ih _)

theorem freeze_kept (s : State) : Kept s (freeze s) :=
  .thenJst (foldl_kept _ (fun s e => blockFate_kept e s) _ _) rfl

theorem checkpointFate_kept (b : Bool) (s : State) : Kept s (checkpointFate b s) := by
  unfold checkpointFate
  split
  · exact complete_kept ..
  · exact .refl s

theorem concludeFate_kept (b : Bool) (s : State) : Kept s (concludeFate b s) := by
  unfold concludeFate
  split
  · rename_i h
    exact (Kept.setService s _ (fun hl => by simp [serviceLight, h] at hl)
      fun hl => by simp [concluding, h] at hl).trans (freeze_kept _)
  · exact .refl s

theorem reportFate_kept (e : Entry) (s : State) : Kept s (reportFate false e s) := by
  cases e with
  | epoch x => exact blockFate_kept (.epoch x) s
  | run x => exact blockFate_kept (.run x) s
  | gap x => exact blockFate_kept (.gap x) s
  | leg x => exact blockFate_kept (.leg x) s
  | door x => exact blockFate_kept (.door x) s
  | checkpoint => exact checkpointFate_kept ..
  | conclude => exact concludeFate_kept ..

theorem refuseQueue_kept (s : State) : Kept s (refuseQueue s) :=
  .thenJst (foldl_kept _ (fun s e => reportFate_kept e s) _ _) rfl

/-! ### Activation and conclusion -/

theorem activatePeers_core (s : State) : SameCore s (activatePeers s) := by
  refine SameCore.trans ?_ (offer_kept _ _).1
  constructor <;> first | rfl | exact fun h => ⟨h, rfl, rfl, rfl⟩ | exact ⟨0, (List.append_nil _).symm⟩ | simp [Function.comp_def]

theorem openAtLight_core (n : Nat) (s : State) : SameCore s (openAtLight n s) := by
  unfold openAtLight
  split
  · constructor <;> first | rfl | exact fun h => ⟨h, rfl, rfl, rfl⟩ | exact ⟨0, (List.append_nil _).symm⟩
  · exact .refl s

theorem activateBlocks_core (s : State) : SameCore s (activateBlocks s) := by
  refine SameCore.trans ?_ (openAtLight_core 0 _)
  refine SameCore.trans (t := activatePeers (s.setTch { s.tch with probe := .pending, air := .pending })) ?_ ?_
  · exact SameCore.trans (by constructor <;> first | rfl | exact fun h => ⟨h, rfl, rfl, rfl⟩ | exact ⟨0, (List.append_nil _).symm⟩)
      (activatePeers_core _)
  · constructor <;> first | rfl | exact fun h => ⟨h, rfl, rfl, rfl⟩ | exact ⟨0, (List.append_nil _).symm⟩

theorem finishOpening_kept (s : State) : Kept s (finishOpening s) := by
  unfold finishOpening
  split
  · rename_i h
    exact .ofCore ((activateBlocks_core s).trans (complete_kept ..).1) (by simp [serviceLight, h])
  · exact .refl s

theorem Chc.conclude_hold (c : Chc) : c.conclude.hold = c.hold := by
  unfold Chc.conclude
  repeat' split
  all_goals rfl

theorem becomeConcluded_core (reader : PartyId) (f : FinalFigures) (r : Bool) (l n : Nat) (s : State)
    (h : concluding s = true) : SameCore s (becomeConcluded reader f r l n s) := by
  unfold becomeConcluded
  refine SameCore.trans ?_ (complete_kept ..).1
  split <;> (constructor <;> first
    | rfl | exact fun hc => by simp [h] at hc | exact Chc.conclude_hold _ | exact ⟨0, (List.append_nil _).symm⟩)

/-! ### The stages of `turn` -/

theorem offerCheckpoint_kept (reader : PartyId) (n e k l : Nat) (s : State) :
    Kept s (offerCheckpoint reader n e k l s) := by
  unfold offerCheckpoint
  dsimp only
  split
  · exact (offer_kept ..).trans (.setService _ _ (fun _ => rfl) fun _ => rfl)
  · exact (offer_kept ..).trans (complete_kept ..)

theorem openFailed_kept (why : AllocWhy) (s : State) : Kept s (openFailed why s) := by
  refine (Kept.setJst s { s.jst with wantOpen := none } rfl).trans ?_
  cases why <;> first
    | exact .refl _
    | exact (fillStore_kept _).trans (refuseQueue_kept _)
    | exact finishOpening_kept _

theorem openStage_kept (s : State) : Kept s (openStage s) := by
  unfold openStage
  repeat' split
  all_goals first | exact .refl s | exact setAccess_kept .. | exact openFailed_kept ..

theorem rollover_kept (s : State) : Kept s (rollover s) := by
  unfold rollover
  repeat' split
  · exact setAccess_kept ..
  · exact .thenJst (refuseQueue_kept _) rfl
  · exact (fillStore_kept _).trans (refuseQueue_kept _)

theorem headStage_kept (s : State) : Kept s (headStage s) := by
  unfold headStage
  repeat' split
  all_goals first | exact .refl s | exact setAccess_kept .. | exact rollover_kept ..

theorem composeCheckpoint_kept (reader : PartyId) (number epoch newly failed : Nat) (s : State) :
    Kept s (composeCheckpoint reader number epoch newly failed s) := by
  unfold composeCheckpoint
  split
  · exact offerCheckpoint_kept ..
  · exact .setService _ _ (fun _ => rfl) fun _ => rfl

theorem checkpointStage_kept (s : State) : Kept s (checkpointStage s) := by
  unfold checkpointStage
  repeat' split
  all_goals first | exact .refl s | exact composeCheckpoint_kept ..

theorem readStage_kept (first : Bool) (s : State) : Kept s (readStage first s) := by
  unfold readStage
  repeat' split
  all_goals first | exact .refl s | exact .setService _ _ (fun _ => rfl) fun _ => rfl

theorem markStage_kept (s : State) : Kept s (markStage s) := by
  unfold markStage
  split
  · split
    · split
      · exact setAccess_kept ..
      · exact .refl s
    · rename_i h
      split
      · exact setAccess_kept ..
      · exact .ofCore (becomeConcluded_core _ _ _ _ _ _ (by simp [concluding, h])) (by simp [serviceLight, h])
    · exact .refl s
  · exact .refl s

theorem beginErase_kept (i : Nat) (a : Access) (s : State) : Kept s (beginErase i a s) := by
  unfold beginErase
  split
  · exact .refl s
  · exact (putStatus_kept ..).trans (setAccess_kept ..)

theorem eraseSource_kept (x : Option (Nat × Nat)) (s : State) : Kept s (eraseSource x s) := by
  unfold eraseSource
  split
  · exact beginErase_kept ..
  · exact .refl s

theorem jobStep_kept (s : State) : Kept s (jobStep s) := by
  unfold jobStep
  dsimp only
  repeat' split
  all_goals first
    | exact .refl s
    | exact setAccess_kept ..
    | exact beginErase_kept ..
    | exact eraseSource_kept ..
    | exact (setJob_kept ..).trans (setAccess_kept ..)
    | exact (endJob_kept ..).trans (settleShort_kept _)

theorem jobStage_kept (s : State) : Kept s (jobStage s) := by
  unfold jobStage
  repeat' split
  all_goals first | exact .refl s | exact jobStep_kept s | exact .setJst s _ rfl

theorem turn_kept (env : Env) (s : State) : Kept s (turn env s) := by
  unfold turn
  dsimp only
  refine (checkpointStage_kept s).trans ((openStage_kept _).trans ?_)
  split
  · exact (readStage_kept ..).trans ((headStage_kept _).trans ((readStage_kept ..).trans
      ((markStage_kept _).trans (jobStage_kept _))))
  · exact (headStage_kept _).trans ((readStage_kept ..).trans ((markStage_kept _).trans (jobStage_kept _)))

/-- What the end of a command keeps. -/
theorem settle_kept (env : Env) (s : State) : Kept s (settle env s) := by
  unfold settle
  split
  · exact (turn_kept ..).trans ((turn_kept ..).trans (kick_kept ..))
  · exact .refl s

theorem settle_core (env : Env) (s : State) : SameCore s (settle env s) := (settle_kept env s).1

theorem settle_blocks (env : Env) {s : State} (h : serviceLight s = true) : SameBlocks s (settle env s) :=
  ((settle_kept env s).2 h).1

/-! ### A quiet state -/

/-- What a quiet state leaves for the array: an access is in progress, or nothing waits. -/
theorem quiet_rests {s : State} (h : quiet s = true) :
    checkpointRests s = true ∧ (arrayFree s = true →
      s.jst.wantOpen = none ∧ s.jst.queue = [] ∧ serviceRests s.rqs.service = true ∧ jobRests s = true) := by
  simp only [quiet, Bool.and_eq_true, Bool.or_eq_true, Bool.not_eq_true', List.isEmpty_iff, Option.isNone_iff_eq_none] at h
  refine ⟨h.1, fun ha => ?_⟩
  obtain h' | ⟨⟨⟨h1, h2⟩, h3⟩, h4⟩ := h.2
  · simp [ha] at h'
  · exact ⟨h1, h2, h3, h4⟩

theorem checkpointStage_quiet {s : State} (h : quiet s = true) : checkpointStage s = s := by
  have hr := (quiet_rests h).1
  unfold checkpointStage
  split
  · rename_i hs
    simp only [checkpointRests, hs, Bool.not_eq_true'] at hr
    simp [hr]
  · rename_i hs
    simp only [checkpointRests, hs, bne_iff_ne, ne_eq] at hr
    simp only [composeCheckpoint, hr, if_false, setService, State.setRqs, ← hs]
  · rfl

theorem openStage_quiet {s : State} (h : quiet s = true) : openStage s = s := by
  unfold openStage
  split
  · rename_i w hw
    split
    · rename_i ha
      simp [((quiet_rests h).2 ha).1] at hw
    · rfl
  · rfl

theorem headStage_quiet {s : State} (h : quiet s = true) : headStage s = s := by
  unfold headStage
  split
  · rename_i hq
    split
    · rename_i ha
      simp [((quiet_rests h).2 ha).2.1] at hq
    · rfl
  · rfl

theorem readStage_quiet (first : Bool) {s : State} (h : quiet s = true) : readStage first s = s := by
  unfold readStage
  split
  · rename_i c on start hs
    split
    · rename_i ha
      obtain ⟨-, hq, hr, -⟩ := (quiet_rests h).2 ha
      cases start with
      | none => simp [serviceRests, hs] at hr
      | some n =>
        simp only [hq, List.isEmpty_nil, Bool.not_true, Bool.and_false, Bool.false_eq_true, if_false, Option.getD_some,
          setService, State.setRqs, ← hs]
    · rfl
  · rfl

theorem markStage_quiet {s : State} (h : quiet s = true) : markStage s = s := by
  unfold markStage
  split
  · rename_i ha
    have hr := ((quiet_rests h).2 ha).2.2.1
    split
    all_goals first
      | rfl
      | (rename_i hs
         simp [serviceRests, hs] at hr)
  · rfl

theorem jobStage_quiet {s : State} (h : quiet s = true) : jobStage s = s := by
  unfold jobStage
  split
  · rename_i hc
    have ha : arrayFree s = true := by
      simp only [clearForJob, Bool.and_eq_true] at hc
      exact hc.1.1.1.1
    have hj := ((quiet_rests h).2 ha).2.2.2
    simp only [jobRests, hc, Bool.not_true, Bool.false_or, Bool.and_eq_true, Option.isNone_iff_eq_none, beq_iff_eq] at hj
    obtain ⟨⟨h1, h2⟩, h3⟩ := hj
    simp [h1, jobStep, h2, h3]
  · rfl

theorem turn_quiet (env : Env) {s : State} (h : quiet s = true) : turn env s = s := by
  unfold turn
  simp only [checkpointStage_quiet h, openStage_quiet h, readStage_quiet _ h, ite_self, headStage_quiet h,
    markStage_quiet h, jobStage_quiet h]

/-- In a quiet state the end of a command is the transmitter's alone. -/
theorem settle_quiet (env : Env) {s : State} (hr : running s = true) (h : quiet s = true) :
    settle env s = kick env s := by
  simp only [settle, hr, if_true, turn_quiet env h]

/-- The start of the logic notes its restart in the timebase and the retention domain alone (R26, R30). -/
theorem noteRestart_frame (s : State) :
    noteRestart s = (s.setTmb (noteRestart s).tmb).setRet (noteRestart s).ret ∧
      (noteRestart s).tmb.stall = s.tmb.stall ∧
      ((noteRestart s).ret.restarts = s.ret.restarts ∨ (noteRestart s).ret.restarts = satAdd 255 s.ret.restarts 1) := by
  unfold noteRestart
  split
  · split <;> simp [State.setTmb, State.setRet]
  · exact ⟨rfl, rfl, .inl rfl⟩

/-- With the retention domain INVALID nothing is noted. -/
theorem noteRestart_invalid {s : State} (h : s.retValid = false) : noteRestart s = s := by
  simp [noteRestart, h]

end Sys2Proof.Machine
end

