-- ==== Sys2Proof/Laws/Memory.lean ====
section
/-! SUPPORT. Byte memory: a read after a write, and the canonical form, which every write and program keeps. -/

namespace Sys2Proof.Machine

theorem Memory.read_nil (a : Nat) : Memory.read [] a = erasedByte := rfl

theorem Memory.read_cons (b : Nat) (w : Byte) (m : Memory) (a : Nat) :
    Memory.read ((b, w) :: m) a = if b = a then w else Memory.read m a := by
  unfold Memory.read
  by_cases h : b = a
  · simp [h]
  · simp [h]

/-- Below every listed address a canonical memory reads erased. -/
theorem Memory.read_below {m : Memory} {bound a : Nat} (h : Memory.wfFrom bound m = true) (ha : a < bound) :
    Memory.read m a = erasedByte := by
  induction m generalizing bound with
  | nil => rfl
  | cons c m ih =>
    obtain ⟨b, w⟩ := c
    simp only [Memory.wfFrom, Bool.and_eq_true, decide_eq_true_eq] at h
    rw [Memory.read_cons, if_neg (by omega)]
    exact ih h.2 (by omega)

/-- A read after a write: the written byte at its address, the old one elsewhere. -/
theorem Memory.read_write {m : Memory} {bound : Nat} (h : Memory.wfFrom bound m = true) (a b : Nat) (v : Byte) :
    Memory.read (Memory.write m a v) b = if b = a then v else Memory.read m b := by
  induction m generalizing bound with
  | nil =>
    by_cases hv : v = erasedByte
    · simp [Memory.write, hv, Memory.read_nil]
    · simp [Memory.write, hv, Memory.read_cons, eq_comm]
  | cons c m ih =>
    obtain ⟨k, w⟩ := c
    simp only [Memory.wfFrom, Bool.and_eq_true, decide_eq_true_eq] at h
    have rest := ih h.2
    have ha : a < k + 1 → Memory.read m a = erasedByte := fun hx => Memory.read_below h.2 hx
    simp only [Memory.write]
    split
    · have hr := ha (by omega)
      split <;> simp only [Memory.read_cons] <;> split_ifs <;> first | rfl | omega | (subst_vars; exact hr)
    · split
      · have hr := ha (by omega)
        split <;> simp only [Memory.read_cons] <;> split_ifs <;> first | rfl | omega | (subst_vars; exact hr)
      · simp only [Memory.read_cons, rest]
        split_ifs <;> first | rfl | omega

/-- A write keeps the canonical form. -/
theorem Memory.write_wfFrom {m : Memory} {bound a : Nat} (h : Memory.wfFrom bound m = true) (ha : bound ≤ a) (v : Byte) :
    Memory.wfFrom bound (Memory.write m a v) = true := by
  induction m generalizing bound with
  | nil =>
    by_cases hv : v = erasedByte <;> simp [Memory.write, Memory.wfFrom, hv, ha]
  | cons c m ih =>
    obtain ⟨k, w⟩ := c
    simp only [Memory.wfFrom, Bool.and_eq_true, decide_eq_true_eq, bne_iff_ne] at h
    simp only [Memory.write]
    split
    · split <;> simp_all [Memory.wfFrom]
    · split
      · subst_vars
        split
        · obtain ⟨⟨h1, h2⟩, h3⟩ := h
          exact Memory.wfFrom_mono h3 (by omega)
        · simp_all [Memory.wfFrom]
      · have := ih h.2 (by omega)
        simp_all [Memory.wfFrom]
where
  Memory.wfFrom_mono {m : Memory} {x y : Nat} (h : Memory.wfFrom x m = true) (hxy : y ≤ x) : Memory.wfFrom y m = true := by
    cases m with
    | nil => rfl
    | cons c m =>
      obtain ⟨k, w⟩ := c
      simp only [Memory.wfFrom, Bool.and_eq_true, decide_eq_true_eq] at h ⊢
      exact ⟨⟨by omega, h.1.2⟩, h.2⟩

theorem Memory.write_wf {m : Memory} (h : m.wf = true) (a : Nat) (v : Byte) : (m.write a v).wf = true :=
  Memory.write_wfFrom h (Nat.zero_le a) v

theorem Memory.program_wf {m : Memory} (h : m.wf = true) (a : Nat) (v miss : Byte) : (m.program a v miss).wf = true :=
  Memory.write_wf h a _

theorem Memory.programBytes_wf (vs : List Byte) : ∀ {m : Memory} (a : Nat) (miss : List Byte), m.wf = true →
    (m.programBytes a vs miss).wf = true := by
  induction vs with
  | nil => intro m a miss h; exact h
  | cons v vs ih => intro m a miss h; exact ih _ _ (Memory.program_wf h a v _)

/-- What a program leaves at every address. -/
theorem Memory.read_program {m : Memory} (h : m.wf = true) (a b : Nat) (v miss : Byte) :
    Memory.read (m.program a v miss) b = if b = a then m.read a &&& (v ||| miss) else m.read b :=
  Memory.read_write h a b _

/-- A program turns no zero bit into a one (R105, R181). -/
theorem Memory.program_loses {m : Memory} (h : m.wf = true) (a b : Nat) (v miss : Byte) :
    Memory.read (m.program a v miss) b &&& m.read b = Memory.read (m.program a v miss) b := by
  rw [Memory.read_program h]
  split
  · subst_vars
    rw [BitVec.and_assoc, BitVec.and_comm (v ||| miss), ← BitVec.and_assoc, BitVec.and_self]
  · exact BitVec.and_self

end Sys2Proof.Machine
end

