-- ==== Sys2Proof/WellFormed.lean ====
section
/-! DEFINITION. Which commands the outside can send: ids, levels, draws and payload lengths in the ranges the manual gives. -/

namespace Sys2Proof

/-- A station or reader id is never 0 and never all-ones (00_scope, R33). -/
def PartyId.sound (i : PartyId) : Bool := i != 0 && i != BitVec.allOnes 32

/-- A payload of a sound frame holds at most 208 bytes (R31, R33). -/
def payloadFits (payload : List Byte) : Bool := decide (payload.length ≤ 208)

/-- A note delay is drawn from 0 to 2 L, and L is at most 600 (R41, R168). -/
def Env.ok (e : Env) : Bool := decide (e.noteDelay ≤ 1200)

/-- The fields of a request stand after its one-byte code (R183). -/
def Request.ok (r : Request) (fields : List Byte) : Bool :=
  PartyId.sound r.reader && decide (fields.length ≤ 207)

/-- A reported level is one signed byte (R181). -/
def levelOk (level : Int) : Bool := decide (-128 ≤ level ∧ level ≤ 127)

/-- A header shows a sequence number and at most two sources, of two bytes each (R106, R185). -/
def shownOk (shown : List Nat) : Bool := decide (shown.length ≤ 3) && shown.all (fun n => decide (n ≤ 65535))

def FieldLeft.ok : FieldLeft → Bool
  | .asIs => true
  | .broken shown => shownOk shown
  | .gone => true

def Amount.ok : Amount → Bool
  | .nothing => true
  | .part shown => shownOk shown
  | .whole => true

/-- A segment has 126 slots and a page eight (R105). -/
def EraseLeft.ok (e : EraseLeft) : Bool := decide (e.slots.length ≤ 126) && e.alloc.ok

def Leftover.ok (l : Leftover) : Bool :=
  decide (l.entry.length ≤ 2 ∧ l.page.length ≤ 8) && l.erase.ok && l.header.ok

/-- The converter's span bounds every raw result (R6). -/
def Conversion.ok : Conversion → Bool
  | .probe raw => decide (-800 ≤ raw ∧ raw ≤ 1120)
  | .probeOpen => true
  | .probeShort => true
  | .air raw => decide (-800 ≤ raw ∧ raw ≤ 1120)
  | .airFault => true

/-- The check of one command. -/
def Instr.wf : Instr → Bool
  | .quarterEnd env => env.ok
  | .countdownStep env => env.ok
  | .stallExpiry left => left.ok
  | .conversionComplete outcome env => outcome.ok && env.ok
  | .brownout left => left.ok
  | .retentionLoss left => left.ok
  | .restart _ env => env.ok
  | .scanEraseEnd left env => left.ok && env.ok
  | .restartRestoration env => env.ok
  | .ordinaryClose env => env.ok
  | .partialClose env => env.ok
  | .lateRefusal env => env.ok
  | .verdictMarkProgrammed _ env => env.ok
  | .noteDelayExpiry env => env.ok
  | .backoffEnd env => env.ok
  | .transmissionEnd env => env.ok
  | .discoveryDelayExpiry env => env.ok
  | .unsoundFrame _ => true
  | .replyFrame sender _ payload => PartyId.sound sender && payloadFits payload
  | .chillNote sender level payload env =>
      PartyId.sound sender && levelOk level && payloadFits payload && env.ok
  | .lightEvent _ env => env.ok
  | .unknownRequest req _ fields env => req.ok fields && env.ok
  | .discover req fields env => req.ok fields && env.ok
  | .commission req fields env => req.ok fields && env.ok
  | .commissionByteProgrammed _ env => env.ok
  | .queryStatus req fields env => req.ok fields && env.ok
  | .queryPeers req fields env => req.ok fields && env.ok
  | .read req fields env => req.ok fields && env.ok
  | .readOn req fields env => req.ok fields && env.ok
  | .fragmentComposed env => env.ok
  | .checkpoint req fields left env => req.ok fields && left.ok && env.ok
  | .protectionMarkProgrammed _ env => env.ok
  | .conclude req fields left env => req.ok fields && left.ok && env.ok
  | .conclusionFinalFigures env => env.ok
  | .conclusionMarkProgrammed _ env => env.ok
  | .finalFigureProgrammed _ env => env.ok
  | .lockMarkProgrammed _ env => env.ok
  | .entryProgramEnd _ _ _ env => env.ok
  | .allocationProgramEnd result env => result.ok && env.ok
  | .pageReadEnd _ env => env.ok
  | .pageProgramEnd _ slots env => decide (slots.length ≤ 8) && env.ok
  | .commitMarkProgrammed _ env => env.ok
  | .sourceEraseEnd left env => left.ok && env.ok
  | .cleanupEraseEnd left env => left.ok && env.ok
  | .discardedNote sender level payload => PartyId.sound sender && levelOk level && payloadFits payload
  | .requestForAnotherStation sender _ payload => PartyId.sound sender && payloadFits payload

end Sys2Proof
end

