-- ==== Sys2Proof/Tests/Slice0.lean ====
section
/-! SUPPORT. Tests on fixed values: what WellFormed refuses, the manual's worked examples,
        small runs of one command, and a
witness for each statement of Certificates/ that has hypotheses. -/

namespace Sys2Proof.Tests

open Sys2Proof.Machine

/-! ### Values the tests share -/

set_option maxRecDepth 10000

def env : Env := ⟨false, false, 3, 9, 17, false, ⟨false, false, false⟩, false, false⟩
def left : Leftover := ⟨.nothing, [], [], ⟨.gone, false, false, []⟩, 0⟩
def req : Request := ⟨0x1001, false⟩

/-- Terms of a frozen load: limits −320 and −200 sixteenths, epochs of 60 s, no start delay unless given. -/
def terms (delay : Nat) : RawTerms :=
  { cls := 3, upper := -200, lower := -400, ceiling := -100, floor := -500, budget := 375, allowance := 30, gap := 8,
    length := 60, delay := delay, link := -85, reference := [0x41] }

/-- The consignment part a commissioning leaves. -/
def consignment (delay : Nat) : Memory := (terms delay).programs.foldl (fun m p => Memory.program m p.1 p.2 0) []

def dormant : State :=
  { State.reset with
    ret := { Retention.initial with schedule := .listening, countdown := .counting 2 0 }
    tmb := ⟨some 480, .firstPower⟩
    eve := .initial .dormant 0
    cmr := ⟨factoryIdentity, consignment 2, .none⟩ }

/-- ACTIVE in epoch 5, quarter 2, its OPEN segment holding nothing yet. -/
def active : State :=
  { State.reset with
    ret := { Retention.initial with schedule := .running, epoch := 5, quarter := 2, countdown := .expired }
    tmb := ⟨some 480, .firstPower⟩
    ptb := { Ptb.initial with leg := some 0 }
    eve := .initial .active 5
    store := State.reset.store.set 0 ⟨{ Header.erased with alloc := .fields ⟨1, 0, none⟩ }, []⟩
    jst := { Jst.initial with status := Jst.initial.status.set 0 .opened, nextSeq := 2 }
    cmr := ⟨factoryIdentity, consignment 0, .none⟩ }

def withService (x : Service) (s : State) : State := setService (some x) s
def withAccess (a : Access) (s : State) : State := setAccess a s
def withProgram (p : CrProgram) (s : State) : State := { s with cmr := { s.cmr with program := p } }
def withWork (ps : List Piece) (s : State) : State := { s with eve := { s.eve with work := ps } }

def gapEntry : Entry := .gap ⟨3, some 2, .brownout, 2, .intact⟩
def legEntry : LegEntry := ⟨1, 4, [0x55]⟩
def doorEntry : DoorEntry := ⟨3, 4, .own, false, 12, false, 5⟩
def flags : EpochFlags := ⟨false, false, false, false, false, false, false, false, false, false⟩
def epochEntry : EpochEntry := ⟨4, some (-300), .probe, 0, flags, some (-300), none, 0, 0, 7, 0, 0, 0, .strained⟩
def readings (q : Nat) : EpochReadings := ⟨q, some ⟨-300, false⟩, none⟩
def joined (q : Nat) : Joined := ⟨5, readings q, ⟨5, some 0, []⟩, ⟨5, false, false⟩⟩
/-- A close that breaks the proof: the probe stands above the ceiling. -/
def hot : Joined := { joined 4 with readings := ⟨4, some ⟨-50, false⟩, none⟩ }
/-- A close of slight excess, and one without evidence. -/
def warm : Joined := { joined 4 with readings := ⟨4, some ⟨-199, false⟩, none⟩ }
def figures : FinalFigures := ⟨some 5, .strained, 7, 0, 0⟩
def peer (i : PartyId) : Peer := ⟨i, .heard, List.replicate 8 false, true, -60, true, .closed, some ⟨-300, false⟩,
        .intact, 0⟩
def note : Note := ⟨3, some (-75), true, .closed, .intact, 0⟩

/-! ### WellFormed refuses (one term for each check) -/

theorem test_wf_accepts : (Instr.chillNote 7 (-60) note.payload env).wf = true := by decide
theorem test_wf_note_delay : (Instr.quarterEnd { env with noteDelay := 1201 }).wf = false := by decide
theorem test_wf_entry_slots : (Instr.stallExpiry { left with entry := [.void, .void, .void] }).wf = false := by decide
theorem test_wf_page_slots : (Instr.brownout { left with page := List.replicate 9 .void }).wf = false := by decide
theorem test_wf_program_slots : (Instr.pageProgramEnd false (List.replicate 9 .void) env).wf = false := by decide
theorem test_wf_shown_numbers : (Instr.allocationProgramEnd (.part [65536]) env).wf = false := by decide
theorem test_wf_erase_slots : (Instr.scanEraseEnd ⟨.gone, false, false,
        List.replicate 127 .void⟩ env).wf = false := by
  decide
theorem test_wf_probe_span : (Instr.conversionComplete (.probe 1121) env).wf = false := by decide
theorem test_wf_air_span : (Instr.conversionComplete (.air (-801)) env).wf = false := by decide
theorem test_wf_reader_zero : (Instr.discover ⟨0, true⟩ [] env).wf = false := by decide
theorem test_wf_fields_long : (Instr.readOn req (List.replicate 208 0) env).wf = false := by decide
theorem test_wf_sender_ones : (Instr.replyFrame (BitVec.allOnes 32) 1 []).wf = false := by decide
theorem test_wf_level : (Instr.discardedNote 7 128 []).wf = false := by decide
theorem test_wf_payload_long : (Instr.requestForAnotherStation 7 8 (List.replicate 209 0)).wf = false := by decide

/-! ### Worked examples of the manual -/

def quadOf (a b c d : QuarterSlot) : Quad := ⟨a, b, c, d⟩

/-- R8's table, rows 1, 2, 5 and 6. -/
theorem test_r8_table :
    (quadOf (.valid 85 false) (.valid 88 false) (.valid 90 false) (.valid 91 false)).reading = some ⟨89, false⟩ ∧
    (quadOf (.valid (-22) false) (.valid (-23) true) (.valid (-25) false) (.valid (-25) false)).reading =
      some ⟨-23, true⟩ ∧
    (quadOf (.valid 70 false) .lost (.valid 71 false) (.valid 71 false)).reading = some ⟨71, false⟩ ∧
    (quadOf .lost .lost (.invalid .opened) (.valid 40 false)).reading = none := by decide

/-- R44's table. -/
theorem test_r44_table : [87, 86, 85, -30, -31, 600, -639].map airByte = [22, 22, 21, -7, -8, 127, -128] := by decide

/-- R87's table, rows 1, 3, 4 and 5. -/
theorem test_r87_table :
    median [⟨1, 88, false⟩, ⟨2, 92, false⟩, ⟨3, 96, false⟩, ⟨4, 100, false⟩] = some (94, false) ∧
    median [⟨1, -32, false⟩, ⟨2, -28, false⟩] = some (-30, false) ∧
    median [⟨1, -512, true⟩, ⟨2, -512, true⟩, ⟨3, -508, false⟩] = some (-512, true) ∧
    median [⟨1, 60, false⟩, ⟨2, 64, false⟩, ⟨3, 508, true⟩, ⟨4, 508, true⟩] = some (286, true) := by decide

/-- R91: an excess of 9 over an epoch of 60 s is 36 xu; R92: with 20 xu of allowance left, 20 are drawn. -/
theorem test_r91_r92 : rawContribution 9 4 4 = 36 ∧ doorDraw ⟨5, true, false⟩ 36 100 80 = 20 := by decide

/-- R56, R57: a peer heard in every epoch is CO-LOCATED at the fifth close; one heard last in epoch E is LAPSING at the
close of E + 6, and removed at the close of E + 8. -/
def silent : Nat → List Peer → List Peer
  | 0, ps => ps
  | n + 1, ps => silent n (closePeers ps)
def heardFor : Nat → List Peer → List Peer
  | 0, ps => ps
  | n + 1, ps => heardFor n ((closePeers ps).map fun p => { p with heard := true })
theorem test_colocation_at_fifth_close :
    (heardFor 4 [peer 9]).map Peer.state = [.heard] ∧ (heardFor 5 [peer 9]).map Peer.state = [.coLocated] := by decide
def neighbour : Peer := { peer 9 with state := .coLocated, history := List.replicate 8 true, heard := false }
theorem test_lapse_and_removal :
    (silent 5 [neighbour]).map Peer.state = [.coLocated] ∧ (silent 6 [neighbour]).map Peer.state = [.lapsing] ∧
    silent 8 [neighbour] = [] := by decide

/-- R32: the check value of this generator over the ASCII digits 1 to 9, register starting at all-ones. -/
theorem test_check_value : crc [0x31, 0x32, 0x33, 0x34, 0x35, 0x36, 0x37, 0x38, 0x39] = 0x29B1 := by decide

/-- R31, R32, R182, R183, bit by bit: a DISCOVER to all stations, and the same with a check bit flipped. -/
def discoverFrame : List Byte :=
  [0x01, 0x02, 0x00, 0x00, 0x10, 0x01, 0xFF, 0xFF, 0xFF, 0xFF, 0x10] ++
    crcBytes [0x02, 0x00, 0x00, 0x10, 0x01, 0xFF, 0xFF, 0xFF, 0xFF, 0x10]
theorem test_discover_frame : decodeFrame 1 ⟨-60, left, env⟩ discoverFrame = .discover ⟨0x1001,
        true⟩ [] env := by decide
theorem test_bad_check : decodeFrame 1 ⟨-60, left, env⟩ (discoverFrame.set 11 0x00) =
    .unsoundFrame (discoverFrame.set 11 0x00) := by decide
/-- R36, R182: class 3, AIR present and fit with the door LIGHT, verdict STRAINED, leg 2, b = −75. -/
theorem test_note_payload : parseNote [0x03, 0xD4, 0x02, 0xB5] = some ⟨3, some (-75), true, .light, .strained,
        2⟩ := by
  decide
/-- R36: length and AIR flag must agree, the class lies in 1 to 7, and door code 3 is none. -/
theorem test_bad_notes : parseNote [0x03, 0x54, 0x02, 0xB5] = none ∧ parseNote [0x08, 0xD4, 0x02, 0xB5] = none ∧
    parseNote [0x03, 0xF4, 0x02, 0xB5] = none := by decide
/-- R183: a READ from epoch 256, stride 4, with window end 1,000. -/
theorem test_read_fields : parseRead [0x00, 0x00, 0x00, 0x01, 0x00, 0x04, 0x00, 0x03, 0xE8] =
    some ⟨.absolute, 256, 4, some 1000⟩ := by decide
/-- R185: header bytes 0 to 11 of a JOURNAL segment, sequence number 7, span start 5. -/
theorem test_header_bytes : AllocFields.bytes ⟨7, 5, none⟩ =
    [0x00, 0x07, 0x0F, 0x00, 0x00, 0x05, 0xFF, 0xFF, 0xFF, 0xFF] := by decide

/-! ### One step -/

theorem test_table_words : decodeTableWord 8 0x00 = none := rfl
theorem test_front_command_runs :
    step { State.reset with pending := [.lightEvent true env] } =
      .next { State.reset with dmn := { State.reset.dmn with latch := true } } := rfl
theorem test_idle_step : (match step active with
    | .next t => some (t.ret.position, t.tmb.stall)
    | _ => none) = some (1, some 479) := by decide
/-- A quarter end in ACTIVE starts both conversions of its quarter (R3). -/
theorem test_quarter_end : (match exec (.quarterEnd env) active with
    | .next t => some (t.ret.quarter, t.tch.probe.q2, t.tch.air.q2)
    | _ => none) = some (3, .converting, .converting) := by decide
/-- A COMMISSION in BLANK programs the class first (R169). -/
def commissionFields : List Byte :=
  [0x03, 0xFF, 0x38, 0xFE, 0x70, 0xFF, 0x9C, 0xFE, 0x0C, 0x01, 0x77, 0x00, 0x1E, 0x00, 0x08, 0x00, 0x3C, 0x00, 0x02,
    0xAB, 0x01, 0x41]
theorem test_commission_fields : parseCommission commissionFields = some (terms 2) := by decide
theorem test_commission_begins : (match exec (.commission req commissionFields env) State.reset with
    | .next t => some t.cmr.program
    | _ => none) = some (.commissionByte 0 0x03) := by decide

/-! ### Witnesses: states and operands that meet the hypotheses of each statement -/

theorem witness_StepRunsFrontCommand :
    ({ active with pending := [.quarterEnd env, .brownout left] } : State).pending = .quarterEnd env :: [.brownout left] := rfl
theorem witness_IdleStep : active.pending = [] ∧ active.retValid = true ∧ active.ret.schedule = .running ∧
    active.ret.position + 1 < active.cmr.epochLength ∧ active.ret.countdown = .expired ∧ active.logic = .running ∧
    active.chc.schedule = .none ∧ active.tmb.stall = some 480 ∧
    ({ active with logic := .stopped } : State).logic = .stopped := by decide
theorem witness_HighestMark_CommissionRecord : memoryOk active = true ∧
    step active = .next (tick active) := ⟨by decide, rfl⟩
theorem witness_QueuesAndClock : bounded active = true ∧ clockOk active = true ∧ step active = .next (tick active) :=
  ⟨by decide, by decide, rfl⟩

/-- A concluded part with its journal, frozen. -/
def concluded : State :=
  { active with
    ret := { active.ret with schedule := .stopped }
    tmb := ⟨none, .firstPower⟩
    eve := .initial .concluded 5
    jst := { active.jst with frozen := true, status := active.jst.status.set 0 .full } }
theorem witness_ConcludedStationIsFinal : concludedOk concluded = true ∧ step concluded = .next (tick concluded) :=
  ⟨by decide, rfl⟩
theorem witness_EndOfCommand : serviceLight active = true ∧ active.logic = .running ∧ quiet active = true := by decide

theorem witness_SlotImage : ([.epoch epochEntry, gapEntry, .leg legEntry, .door doorEntry,
    .run ⟨0, 65535, -640, 960, 4294967295, 65535, 255, .broken⟩, .checkpoint ⟨32, 16777215, 9, .intact, 0⟩,
    .conclude ⟨figures, 9, [0xAA], 5⟩] : List Entry).all entryFits = true := by decide
theorem witness_Headers : (7 ≤ 65535 ∧ 16777215 ≤ Config.maxEpoch) ∧ noteFits note = true ∧
    noteFits { note with air := some (-128), leg := 255 } = true := by decide
theorem witness_Frames : (1 : PartyId) ≠ BitVec.allOnes 32 ∧ (0x1001 : PartyId) ≠ 0 ∧
    (0x1001 : PartyId) ≠ BitVec.allOnes 32 ∧ note.payload.length ≤ 208 ∧ commissionFields.length ≤ 207 ∧
    (2 : PartyId) ≠ 1 ∧ (2 : PartyId) ≠ BitVec.allOnes 32 := by decide
theorem witness_StoredTerms : termsFit (terms 0) = true ∧ termsFit (terms 1440) = true := by decide

/-- The second quarter's conversions are in progress. -/
def converting : State :=
  { active with tch := { active.tch with
      probe := quadOf (.valid (-300) false) .converting .pending .pending
      air := quadOf (.valid (-300) false) .converting .pending .pending } }
theorem witness_ConversionFills : converting.logic = .running ∧ quiet converting = true ∧
    converting.ptb.viewTaken = false ∧ converting.tch.partialWaiting = false ∧
    converting.tch.probe.converting = some 2 ∧ converting.tch.air.q4.converted = false ∧
    converting.tch.air.converting = some 2 ∧ converting.tch.probe.q4.converted = false := by decide

/-- Only the fourth PROBE conversion is in progress; the views are held, or not. -/
def lastOne (inputs : List CloseInputs) : State :=
  { active with
    tch := { active.tch with
      probe := quadOf (.valid (-300) false) .lost .lost .converting
      air := quadOf (.valid (-300) false) .lost .lost (.valid (-299) false) }
    eve := { active.eve with inputs := inputs } }
theorem witness_LastConversion : (lastOne []).logic = .running ∧ quiet (lastOne []) = true ∧
    (lastOne []).tch.probe.converting = some 4 ∧ (lastOne []).tch.air.q4.converted = true ∧
    (lastOne []).eve.readingsEpoch = 5 ∧ (lastOne []).eve.inputs = [] ∧
    (lastOne [⟨5, none, some ⟨5, some 0, []⟩, some ⟨5, false, false⟩⟩]).eve.inputs =
      [⟨5, none, some ⟨5, some 0, []⟩, some ⟨5, false, false⟩⟩] ∧ (lastOne []).ptb.viewTaken = false ∧
    (lastOne []).tch.partialWaiting = false := by decide

def atQuarter4 (epoch : Nat) (s : State) : State := { s with ret := { s.ret with quarter := 4, epoch := epoch } }
theorem witness_QuarterEnds : active.logic = .running ∧ quiet active = true ∧ active.ret.schedule = .running ∧
    active.ret.quarter < 4 ∧ serviceLight (atQuarter4 16777215 active) = true ∧
    (atQuarter4 16777215 active).ret.quarter = 4 ∧ (atQuarter4 16777215 active).ret.epoch = Config.maxEpoch ∧
    (atQuarter4 16777215 active).logic = .running ∧ (atQuarter4 16777215 active).ret.schedule = .running := by decide
theorem witness_EpochEnd : (atQuarter4 16777214 active).logic = .running ∧
    serviceLight (atQuarter4 16777214 active) = true ∧ (atQuarter4 16777214 active).ret.schedule = .running ∧
    (atQuarter4 16777214 active).ret.epoch < Config.maxEpoch ∧ (atQuarter4 16777214 active).eve.station = .active ∧
    (atQuarter4 16777214 active).ptb.viewTaken = false ∧ (atQuarter4 16777214 active).dmn.taking = true ∧
    (atQuarter4 16777214 active).dmn.episode = none ∧ (atQuarter4 16777214 active).tch.taking = true ∧
    (atQuarter4 16777214 active).eve.inputs = [] := by decide
theorem witness_ListeningEnd : (atQuarter4 0 dormant).logic = .running ∧ quiet (atQuarter4 0 dormant) = true ∧
    (atQuarter4 0 dormant).ret.schedule = .listening ∧ (atQuarter4 0 dormant).ret.quarter = 4 ∧
    (atQuarter4 0 dormant).eve.station = .dormant := by decide

def stopped (s : State) : State := { s with logic := .stopped }
theorem witness_RetainedTime : (stopped active).logic = .stopped ∧ (stopped active).retValid = true ∧
    (stopped active).ret.schedule = .running ∧ (stopped active).ret.quarter < 4 ∧
    (atQuarter4 5 (stopped active)).ret.quarter = 4 ∧ (stopped dormant).ret.countdown = .counting 2 0 ∧
    ({ stopped active with retValid := false } : State).logic = .stopped := by decide
def lastMinute : State := { dormant with ret := { dormant.ret with countdown := .counting 1 0 } }
def concludingDormant : State := withService (.conclude 0x1001 [] (.mark figures)) dormant
theorem witness_Countdown : dormant.logic = .running ∧ dormant.ret.countdown = .counting 2 0 ∧
    concluding dormant = false ∧ concluding concludingDormant = true ∧ concludingDormant.eve.station = .dormant ∧
    lastMinute.ret.countdown = .counting 1 0 ∧ serviceLight lastMinute = true ∧
    lastMinute.logic = .running := by decide

theorem witness_Stops : active.logic ≠ .stopped ∧ active.logic = .running ∧ active.tmb.stall.isSome = true ∧
    active.jst.access = .none ∧ active.jst.job.suspended = none ∧ active.cmr.program = .none ∧
    (stopped active).logic = .stopped := by decide
def unpowered : State := { stopped State.reset with retValid := false }
theorem witness_FirstPower : unpowered.logic = .stopped ∧ unpowered.retValid = false ∧
    unpowered.cmr.commissioned = false ∧ unpowered.store = List.replicate 32 .erased ∧ (scanned unpowered).scan = [] ∧
    (stopped State.reset).retValid = true ∧ (stopped State.reset).cmr.commissioned = false := by decide
/-- R25, R27: a kept restart of a part not commissioned counts 0, starts BLANK and reports its cause. -/
theorem test_kept_blank :
    let stalled := { stopped State.reset with ret := { Retention.initial with restarts := 7, cause := .stall } }
    (match exec (.restart false env) stalled with
      | .next t => (t.eve.station, t.ret.restarts, t.tmb.lastCause, t.ret.cause)
      | .fault _ => (.active, 9, .brownout, .brownout)
      | .refused _ => (.active, 9, .brownout, .brownout)) = (.blank, 0, .stall, .none) := by decide
/-- The journal covers epochs 3 and 4; the current epoch is 5, or 9. -/
def gapSegment : Segment := ⟨{ Header.erased with alloc := .fields ⟨1, 0, none⟩ }, [.one gapEntry]⟩
def journalled : State := stopped { active with store := active.store.set 0 gapSegment }
theorem witness_KeptRestart : journalled.logic = .stopped ∧ journalled.retValid = true ∧
    journalled.cmr.commissioned = true ∧ journalled.cmr.concluded = false ∧ journalled.ret.countdown = .expired ∧
    journalled.ret.expiredStopped = false ∧ journalled.ret.schedule = .running ∧ (scanned journalled).scan = [] ∧
    (factsOf (liveSegments { journalled with jst := scanned journalled })).lastCovered = some 4 ∧
    4 + 1 ≤ journalled.ret.epoch := by decide
/-- R26, R30: a start of a commissioned part counts itself and takes the pending cause, though its scan goes on to an
erase (segment 1 is INVALID: a slot under an erased header). -/
theorem test_restart_counts_before_its_scan_ends :
    (match execRestart false default { journalled with
        store := journalled.store.set 1 ⟨.erased, [.void]⟩
        ret := { journalled.ret with restarts := 2, cause := .stall } } with
      | .next t => (t.logic, t.jst.access, t.ret.restarts, t.ret.cause, t.tmb.lastCause)
      | .fault _ => (.running, .none, 0, .stall, .firstPower)
      | .refused _ => (.running, .none, 0, .stall, .firstPower)) =
    (.startUp, .scanErase 1, 3, .none, .stall) := by decide
def scanning (rest : List Nat) : State :=
  { State.reset with logic := .startUp, jst := { Jst.initial with access := .scanErase 31, scan := 31 :: rest } }
theorem witness_ScanErase : (scanning [3]).logic = .startUp ∧ (scanning []).jst.access = .scanErase 31 ∧
    31 < (scanning []).store.length ∧ (scanning []).store.length = 32 ∧ (scanning [3]).jst.scan = 31 :: 3 :: [] ∧
    (scanning []).jst.scan = [31] := by decide

def reading (p : PartyId) (v : Int) : Item := ⟨p, v, false⟩
theorem witness_Corroboration : 2 ≤ [reading 1 4, reading 2 4].length ∧ [reading 1 4].length < 2 ∧
    median [reading 1 4, reading 2 8] = some (6, false) := by decide
theorem witness_Draw : (Eve.initial .active 5).drawn ≤ active.cmr.allowance ∧ (joined 4).readings.quarters = 4 ∧
    (joined 1).readings.quarters < 4 ∧ { (joined 4).door with inEpisode := true }.inEpisode = true := by decide

/-- A close waits while the array programs an entry. -/
def closing (j : Joined) : State :=
  withWork [.ordinary j] (withAccess (.entry 0 1) { active with jst := { active.jst with queue := [gapEntry] } })
theorem witness_OrdinaryClose : (closing (joined 4)).logic = .running ∧ (closing (joined 4)).eve.current = none ∧
    (closing (joined 4)).cmr.program = .none ∧ (closing (joined 4)).eve.work = [.ordinary (joined 4)] ∧
    (joined 4).readings.quarters = 4 ∧ (joined 4).door.inEpisode = false ∧
    emptyEpochWaits (closing (joined 4)) = false ∧
    (closing (joined 4)).chc.schedule = .none ∧ (closing (joined 4)).jst.access = .entry 0 1 ∧
    (closing (joined 4)).jst.condition = .normal ∧ (closing (joined 4)).jst.frozen = false ∧
    (closing (joined 4)).jst.queue.length < 6 ∧ (closing (joined 4)).ret.schedule = .running ∧
    (computeClose (closing (joined 4)).cmr (closing (joined 4)).eve (joined 4)).entry.verdict = .intact := by decide
def blind : Joined := { joined 4 with readings := ⟨4, none, none⟩ }
def longBlind : State := { closing blind with eve := { (closing blind).eve with run := 8 } }
theorem witness_Raises : (closing hot).logic = .running ∧ (closing hot).eve.current = none ∧
    (closing hot).cmr.program = .none ∧ (closing hot).eve.work = [.ordinary hot] ∧
    (closing hot).ptb.viewTaken = false ∧
    quiet (closing hot) = true ∧ quiet longBlind = true ∧ (closing hot).eve.verdict = .intact ∧
    (closing hot).cmr.highestMark = .intact ∧
    (computeClose (closing hot).cmr (closing hot).eve hot).entry.verdict = .broken ∧
    (computeClose (closing warm).cmr (closing warm).eve warm).entry.verdict = .strained ∧
    (computeClose longBlind.cmr longBlind.eve blind).entry.verdict = .unproven := by decide
def refused (v : Verdict) (m : Memory) : State :=
  { withWork [.lateRefusal] active with
    eve := { (withWork [.lateRefusal] active).eve with verdict := v }
    cmr := ⟨factoryIdentity, m, .none⟩ }
def marked (m : Memory) : Memory := (Memory.program (Memory.program m 46 0 0) 47 0 0)
theorem witness_LateRefusal : quiet (refused .unproven []) = true ∧ 2 ≤ (refused .unproven []).eve.verdict.rank ∧
    (refused .strained []).eve.verdict.rank < 2 ∧ (refused .strained []).cmr.highestMark = .intact ∧
    (refused .strained (marked [])).cmr.markSet 46 = true ∧ (refused .strained (marked [])).cmr.markSet 47 = true ∧
    (refused .intact []).eve.work = [.lateRefusal] := by decide
theorem witness_PartialClose : active.logic = .running ∧ active.eve.current = none ∧ active.cmr.program = .none ∧
    (withWork [.partialClose (joined 3)] active).eve.work = [.partialClose (joined 3)] ∧
    active.jst.condition = .normal ∧ active.jst.frozen = false ∧ (joined 0).readings.quarters = 0 ∧
    1 ≤ (joined 3).readings.quarters ∧
    (joined 3).readings.quarters < 4 ∧ (withWork [.partialClose (joined 3)] active).jst.queue.length < 6 ∧
    (computeClose active.cmr active.eve (joined 3)).entry.verdict = active.eve.verdict := by decide
def facts : Facts := ⟨true, some 4, some (.epoch epochEntry), some (7, 0), none, 0, 0⟩
def restoring (st : Station) : State := withWork [.restoration ⟨st, .brownout, .none⟩ facts] active
theorem witness_Restoration : (restoring .active).logic = .running ∧ (restoring .active).cmr.program = .none ∧
    (restoring .active).eve.work = [.restoration ⟨.active, .brownout, .none⟩ facts] ∧
    quiet (restoring .active) = true ∧ (restoring .active).eve.current = none ∧
    facts.lastAccount = some (epochEntry.exposure, epochEntry.drawn) ∧
    facts.lastCoverage = some (.epoch epochEntry) ∧ (knownGaps 3 65536 .stall).length = 2 ∧
    (restoring .dormant).eve.work = [.restoration ⟨.dormant, .brownout, .none⟩ facts] := by decide
def markWaiting (marks : List Verdict) : State :=
  let waiting : Waiting := ⟨.unproven, marks, .done⟩
  withProgram (.verdictMark .strained) { active with eve := { active.eve with current := some waiting } }
theorem witness_VerdictMark : (markWaiting [.strained]).logic = .running ∧ quiet (markWaiting [.strained]) = true ∧
    (markWaiting [.strained]).cmr.program = .verdictMark .strained ∧ (markWaiting []).ptb.viewTaken = false ∧
    (markWaiting []).rqs.discovers = [] ∧
    Memory.read (Memory.program (markWaiting []).cmr.consignment 46 0x00 0xFF) 46 = 0xFF ∧
    Memory.read (Memory.program (markWaiting []).cmr.consignment 46 0x00 0xFE) 46 ≠ 0xFF ∧
    (markWaiting [.strained, .unproven]).eve.current = some ⟨.unproven, [.strained, .unproven], .done⟩ := by decide

def onAir (s : State) : State := { s with chc := { s.chc with transmitter := .onAir (.note note) } }
def queued (fs : List Frame) (busy : Nat) : State :=
  { active with chc := { active.chc with queue := fs, busy := busy } }
theorem witness_CarrierSense : (queued [.note note] 7).chc.transmitter = .idle ∧ env.busy = false ∧
    { env with busy := true }.busy = true ∧ (queued [.note note] 6).chc.busy < 7 ∧ env.busyNext = false ∧
    (queued [.note note] 7).chc.queue = [.note note] ∧ active.chc.queue = [] ∧
    (onAir active).chc.transmitter = .onAir (.note note) ∧
    ({ active.chc with transmitter := .backoff 3 } : Chc).transmitter = .backoff 3 := by decide
def waiting (arrived : Bool) (fs : List Frame) : State :=
  { queued fs 0 with chc := { (queued fs 0).chc with
      schedule := .waiting 4 0 arrived
      hold := some ⟨0x1001, ⟨1, some 3, .active, .intact⟩, 9⟩ } }
def replies : List Frame := List.replicate 4 (.reply 0x1001 (.status 0x12 .busy))
theorem witness_ChannelEvents : (waiting true []).logic = .running ∧
    (waiting true []).chc.schedule = .waiting 4 0 true ∧
    (onAir active).logic = .running ∧
    (waiting false []).chc.schedule = .waiting 4 0 false ∧ (waiting true []).chc.queue.any Frame.isNote = false ∧
    (waiting true replies).chc.queue.any Frame.isNote = false ∧ 4 ≤ (waiting true replies).chc.queue.length ∧
    (waiting true [.note note]).chc.queue = .note note :: [] ∧ (waiting true []).chc.hold.isSome = true := by decide
theorem witness_AirByte : (4 : Int) * (-129) ≤ -514 + 2 ∧ (-516 : Int) + 2 < 4 * (-129) + 4 ∧
    (4 : Int) * 128 ≤ 510 + 2 := by decide

def heard : State := { active with ptb := { active.ptb with peers := [peer 7, peer 9] } }
def crowd : List Peer := (List.range 12).map fun i => { peer (BitVec.ofNat 32 (100 + i)) with state := .coLocated }
def crowded : State := { active with ptb := { active.ptb with peers := crowd } }
theorem witness_ChillNote : delivered env heard = true ∧ heard.eve.station = .active ∧
    parseNote note.payload = some note ∧
    (7 : PartyId) ≠ heard.cmr.stationId ∧ note.cls = heard.cmr.cls ∧ heard.cmr.linkThreshold ≤ -85 ∧
    (-86 : Int) < heard.cmr.linkThreshold ∧ heard.ptb.viewTaken = false ∧ heard.ptb.peers = [] ++ peer 7 :: [peer 9] ∧
    (∀ x ∈ ([] ++ [peer 9] : List Peer), x.id ≠ 7) ∧ note.door ≠ .light ∧ (∀ x ∈ heard.ptb.peers, x.id ≠ 8) ∧
    heard.ptb.peers.length < 12 ∧ (∀ x ∈ crowded.ptb.peers, x.id ≠ 7 ∧ x.state = .coLocated) ∧
    crowded.ptb.peers.length = 12 := by decide
theorem witness_HearingCount : (([false, false, true, true, true, true, true, false].filter id).length = 5) ∧
    (([true, true].filter id).length ≤ 2) := by decide
def lit : State := { active with dmn := { active.dmn with latch := true, episode := some { Episode.begin .own 4 with
  ownMark := false, quiet := 1 } } }
theorem witness_Light : (stopped active).logic = .stopped ∧ active.dmn.latch = false ∧ lit.dmn.latch ≠ false ∧
    active.eve.station = .active ∧ active.dmn.taking = true ∧ active.chc.queue.any Frame.isNote = false ∧
    active.chc.queue.length < 4 ∧ lit.dmn.closing = none ∧ lit.dmn.episode.isSome = true := by decide

theorem witness_UnknownAndDiscover : reaches req env active = true ∧ quiet active = true ∧
    (0x17 : Byte).toNat > 0x16 ∧
    (0x0F : Byte).toNat < 0x10 ∧ delivered env active = true ∧ req.reader ≠ 0 ∧ req.reader ≠ BitVec.allOnes 32 ∧
    (withProgram (.verdictMark .strained) active).cmr.program ≠ .none := by decide
def busyReading : State := withService (.fragment ⟨0x1001, 0, 1, none, .unanchored⟩ (.read .active) (some 0) none) active
theorem witness_Busy : reaches req env busyReading = true ∧ quiet busyReading = true ∧
    busyReading.rqs.service ≠ none ∧
    (parseCommission commissionFields).isSome = true ∧ (parseRead [0, 0, 0, 0, 0, 1]).isSome = true ∧
    (parseConclude [0x01, 0x41, 0x00]).isSome = true := by decide
def spoilt : State := { State.reset with rqs := { State.reset.rqs with spoilt := true } }
def numbered (n : Nat) (c : StoreCondition) : State :=
  { active with rqs := { active.rqs with checkpoints := n }, jst := { active.jst with condition := c } }
theorem witness_Refused : Machine.free req env State.reset = true ∧ quiet State.reset = true ∧
    parseCommission [] = none ∧
    spoilt.rqs.spoilt = true ∧ State.reset.eve.station = .blank ∧
    ({ terms 2 with upper := -400 } : RawTerms).clamped.acceptable = false ∧ parseRead [] = none ∧
    startEpoch (journal active) ⟨.leg 3, 0, 1, none⟩ = none ∧ active.rqs.cursor = none ∧
    dormant.eve.station ≠ .active ∧ 32 ≤ (numbered 32 .normal).rqs.checkpoints ∧
    (numbered 31 .journalFull).rqs.checkpoints < 32 ∧ (numbered 31 .journalFull).jst.condition = .journalFull ∧
    parseConclude [] = none ∧ parseConclude [0x01, 0x42, 0x00] = some ([0x42], []) ∧
    [0x42] ≠ active.cmr.reference := by decide
theorem witness_CommissionBegins : Machine.free req env State.reset = true ∧ quiet State.reset = true ∧
    State.reset.rqs.spoilt = false ∧ parseCommission commissionFields = some (terms 2) ∧
    (terms 2).clamped.acceptable = true := by decide
def programming (m : Memory) (a : Nat) (v : Byte) (todo : List (Nat × Byte)) (again : Bool) : State :=
  { withService (.commission 0x1001 ((a, v) :: todo) again []) State.reset with
    cmr := ⟨factoryIdentity, m, .commissionByte a v⟩ }
theorem witness_CommissionBytes : (programming [] 0 3 [(1, 0xFF)] false).cmr.program = .commissionByte 0 3 ∧
    (programming [] 0 3 [(1, 0xFF)] false).rqs.service = some (.commission 0x1001 [(0, 3), (1, 0xFF)] false []) ∧
    (programming [] 0 3 [(1, 0xFF)] false).rqs.discovers = [] ∧ quiet (programming [] 0 3 [] true) = true ∧
    (programming [] 0 3 [(1, 0xFF)] false).logic = .running ∧
    quiet (programming [] 0 3 [(1, 0xFF)] false) = true ∧ Memory.read (Memory.program [] 0 3 0) 0 = 3 ∧
    Memory.read (Memory.program [] 0 3 4) 0 ≠ 3 ∧ quiet (programming (consignment 2) 45 0 [] false) = true ∧
    Memory.read (Memory.program (consignment 2) 45 0x00 0x7F) 45 ≠ 0xFF ∧
    0 < (Cmr.startDelay ⟨factoryIdentity, Memory.program (consignment 2) 45 0 0, .none⟩) ∧
    Cmr.startDelay ⟨factoryIdentity, Memory.program (consignment 0) 45 0 0, .none⟩ = 0 := by decide
theorem witness_Queries : Machine.free req env active = true ∧ quiet active = true := by decide
def cursored : State := { active with rqs := { active.rqs with cursor := some ⟨0x1001, 0, 1, none, .anchored 3 0⟩ } }
theorem witness_Reads : Machine.free req env cursored = true ∧ quiet cursored = true ∧ cursored.jst.access = .none ∧
    cursored.eve.station ≠ .blank ∧ parseRead [0, 0, 0, 0, 0, 1] = some ⟨.absolute, 0, 1, none⟩ ∧
    startEpoch (journal cursored) ⟨.absolute, 0, 1, none⟩ = some 0 ∧
    cursored.rqs.cursor = some ⟨0x1001, 0, 1, none, .anchored 3 0⟩ := by decide
theorem witness_Fragment : busyReading.logic = .running ∧ busyReading.jst.access = .none ∧
    busyReading.rqs.service = some (.fragment ⟨0x1001, 0, 1, none, .unanchored⟩ (.read .active) (some 0) none) ∧
    quiet { busyReading with rqs := { busyReading.rqs with service := none } } = true ∧
    busyReading.eve.station = .active ∧ (composeFragment [] ⟨0x1001, 0, 1, none, .unanchored⟩ 0).entries = [] ∧
    (composeFragment [gapEntry] ⟨0x1001, 0, 1, none, .unanchored⟩ 0).entries ≠ [] := by decide
theorem witness_FragmentMore : (composeFragment [gapEntry] ⟨0x1001, 0, 1, none,
        .unanchored⟩ 0).more = false := by decide
def rising : List Entry := [gapEntry, .leg legEntry, .epoch { epochEntry with epoch := 9 }]
theorem witness_ReadOnContinues : (rising.filterMap Entry.coverage).Pairwise (fun a b => a.2 < b.2) ∧
    2 < rising.length := by
  decide

theorem witness_Checkpoint : Machine.free req env active = true ∧ quiet active = true ∧ active.jst.access = .none ∧
    active.rqs.checkpoints < 32 ∧ active.jst.condition = .normal ∧ active.jst.job = .initial ∧
    nextProtect active [] = some 0 ∧ active.jst.frozen = false ∧ active.jst.queue.length < 6 ∧
    (numbered 0 .short).jst.condition ≠ .normal := by decide
theorem witness_Conclude : Machine.free req env dormant = true ∧ quiet dormant = true ∧
    parseConclude [0x01, 0x41, 0x01, 0x99] = some (dormant.cmr.reference, [0x99]) ∧ dormant.eve.station = .dormant ∧
    parseConclude [0x01, 0x41, 0x00] = some (active.cmr.reference, []) ∧ active.jst.job = .initial ∧
    Machine.free req env active = true ∧ quiet active = true ∧ active.eve.station = .active ∧
    active.jst.access = .none ∧
    active.jst.condition = .normal ∧ active.ret.schedule = .running ∧
    active.eve.inputs = [] ∧ active.eve.readingsEpoch = active.ret.epoch ∧ active.tch.busy = false ∧
    active.tch.quarters < 4 := by decide
def draining : State := withService (.conclude 0x1001 [] (.draining (some 5))) active
def figuring (i : Nat) : State :=
  withProgram (figureProgram figures i) (withService (.conclude 0x1001 [] (.figure figures i)) active)
theorem witness_Conclusion : draining.logic = .running ∧ quiet draining = true ∧ draining.rqs.discovers = [] ∧
    draining.eve.work = [] ∧ draining.jst.queue.any Entry.covers = false ∧ quiet concludingDormant = true ∧
    Memory.read (Memory.program (consignment 0) 49 0x00 0xFF) 49 = 0xFF ∧
    Memory.read (Memory.program (consignment 0) 49 0x00 0) 49 ≠ 0xFF ∧
    (figuring 0).logic = .running ∧ quiet (figuring 0) = true ∧ (figuring 0).rqs.discovers = [] ∧
    (figuring 0).rqs.service = some (.conclude 0x1001 [] (.figure figures 0)) ∧
    (figuring 0).cmr.program = .figure 0 50 (figures.bytes 0) ∧ quiet (figuring 4) = true ∧
    (figuring 4).cmr.program = .figure 4 61 (figures.bytes 4) := by decide
/-- A conclusion, with a verdict mark still due. -/
def concludingMark (step : ConcludeStep) (program : CrProgram) (marks : List Verdict) : State :=
  withProgram program (withService (.conclude 0x1001 [] step) (markWaiting marks))
theorem witness_Conclusion_marks :
    (concludingMark (.draining (some 5)) (.verdictMark .strained) [.strained]).eve.work = [] ∧
    (concludingMark (.draining (some 5)) (.verdictMark .strained) [.strained]).jst.queue.any Entry.covers = false ∧
    quiet (concludingMark (.draining (some 5)) (.verdictMark .strained) [.strained]) = true ∧
    quiet (concludingMark (.mark figures) .conclusionMark [.strained]) = true ∧
    quiet (concludingMark (.composing (some 5)) (.verdictMark .strained) [.strained]) = true ∧
    quiet (concludingMark (.figure figures 2) (figureProgram figures 2) [.strained]) = true ∧
    quiet (concludingMark (.figure figures 5) (.verdictMark .strained) [.strained, .unproven]) = true ∧
    quiet (withAccess (.entry 0 1) (concludingMark (.figure figures 5) (.verdictMark .strained) [.strained])) = true ∧
    (concludingMark (.mark figures) .conclusionMark [.strained]).eve.current = some ⟨.unproven, [.strained], .done⟩ ∧
    env.conclusionFirst = false ∧ { env with conclusionFirst := true }.conclusionFirst = true := by decide
/-- R157, R165: figures due while a mark is being programmed show that mark once it reads set. -/
theorem test_figures_wait_for_the_mark :
    (match exec (.conclusionFinalFigures env) (concludingMark (.draining (some 5)) (.verdictMark .strained) [.strained]) with
      | .next t => (t.cmr.program, t.rqs.service)
      | .fault _ => (.none, none)
      | .refused _ => (.none, none)) = (.verdictMark .strained, some (.conclude 0x1001 [] (.composing (some 5)))) ∧
    (match exec (.verdictMarkProgrammed 0 env)
        (concludingMark (.composing (some 5)) (.verdictMark .strained) [.strained, .unproven]) with
      | .next t => (t.cmr.program, match t.rqs.service with
        | some (.conclude _ _ (.mark f)) => some f.verdict
        | _ => none)
      | .fault _ => (.none, none)
      | .refused _ => (.none, none)) = (.verdictMark .unproven, some .strained) := by decide
/-- R158: a verdict mark and a program of a conclusion come in the order drawn. -/
theorem test_conclusion_beside_mark :
    (match exec (.verdictMarkProgrammed 0 { env with conclusionFirst := true })
        (concludingMark (.mark figures) (.verdictMark .strained) [.strained, .unproven]) with
      | .next t => t.cmr.program
      | .fault _ => .none
      | .refused _ => .none) = .conclusionMark ∧
    (match exec (.verdictMarkProgrammed 0 env)
        (concludingMark (.mark figures) (.verdictMark .strained) [.strained, .unproven]) with
      | .next t => t.cmr.program
      | .fault _ => .none
      | .refused _ => .none) = .verdictMark .unproven := by decide
theorem witness_ProgrammedFigure : Memory.wf (consignment 0) = true ∧ figures.epoch ≠ none ∧
    (∀ k, k < (figures.bytes 0).length → (Cmr.mk [] (consignment 0) .none).byte (figureAddress 0 + k) = 0xFF) ∧
    (∀ k, k < (figures.bytes 4).length → (Cmr.mk [] (consignment 0) .none).byte (figureAddress 4 + k) = 0xFF) := by decide
/-- Two live segments. -/
def twoLive : State :=
  { active with
    store := (active.store.set 1 ⟨{ Header.erased with alloc := .fields ⟨2, 9, none⟩ }, [.one gapEntry]⟩)
    jst := { active.jst with status := (active.jst.status.set 0 .full).set 1 .opened, nextSeq := 3 } }
def protecting (again : Bool) : State :=
  withAccess (.protectMark 0) (withService (.checkpoint 0x1001 1 5 (.marking [] again 0 0)) twoLive)
theorem witness_ProtectionMarks : (protecting true).logic = .running ∧ (protecting true).jst.wantOpen = none ∧
    (protecting true).jst.queue = [] ∧ (protecting true).jst.access = .protectMark 0 ∧
    (protecting true).rqs.service = some (.checkpoint 0x1001 1 5 (.marking [] true 0 0)) ∧
    nextProtect (protecting true) ([] ++ [0]) = some 1 ∧ nextProtect (protecting false) [] = some 0 := by decide
def locking (tried : List Nat) (i : Nat) : State :=
  withAccess (.lockMark i) (withService (.conclude 0x1001 [] (.locking figures true tried false 0 0))
    { twoLive with jst := { twoLive.jst with frozen := true } })
theorem witness_LockMarks : (locking [] 0).logic = .running ∧ (locking [] 0).jst.wantOpen = none ∧
    (locking [] 0).jst.queue = [] ∧ (locking [] 0).jst.access = .lockMark 0 ∧
    (locking [] 0).rqs.service = some (.conclude 0x1001 [] (.locking figures true [] false 0 0)) ∧
    (locking [] 0).jst.frozen = true ∧
    nextLock (locking [] 0) ([] ++ [0]) = some 1 ∧ nextLock (locking [] 0) [] = some 0 ∧
    nextLock (locking [0] 1) ([0] ++ [1]) = none ∧
    (withService (.conclude 0x1001 [] (.locking figures true [] true 0 0)) (locking [] 0)).rqs.service =
      some (.conclude 0x1001 [] (.locking figures true [] true 0 0)) := by decide
/-- R160: a lock mark that reads clear a second time is counted, and the next segment follows. -/
theorem test_lock_fails_twice :
    (match exec (.lockMarkProgrammed false env)
        (withService (.conclude 0x1001 [] (.locking figures true [] true 0 0)) (locking [] 0)) with
      | .next t => (t.jst.access, t.rqs.service)
      | .fault _ => (.none, none)
      | .refused _ => (.none, none)) =
    (.lockMark 1, some (.conclude 0x1001 [] (.locking figures true [0] false 0 1))) := by decide

def appending (e : Entry) (again : Bool) : State :=
  withAccess (.entry 0 1) { active with
    ptb := { active.ptb with turnover := some ⟨legEntry.leg, legEntry.start, legEntry.founders⟩ }
    jst := { active.jst with queue := [e], secondTry := again } }
theorem witness_EntryProgram : (appending gapEntry false).logic = .running ∧
    serviceLight (appending gapEntry false) = true ∧ (appending gapEntry false).jst.access = .entry 0 1 ∧
    (appending (.leg legEntry) false).ptb.turnover = some ⟨legEntry.leg, legEntry.start, legEntry.founders⟩ ∧
    (appending (.epoch epochEntry) true).jst.secondTry = true ∧ (appending gapEntry false).jst.frozen = false ∧
    (appending (.door doorEntry) false).jst.queue = [.door doorEntry] := by decide
def allocating (why : AllocWhy) : State :=
  withAccess (.alloc why 5 ⟨2, 5, none⟩) { active with jst := { active.jst with
    status := active.jst.status.set 0 .full } }
theorem witness_Allocation : (allocating .rollover).logic = .running ∧
    (allocating .startUp).jst.access = .alloc .startUp 5 ⟨2, 5, none⟩ ∧ serviceLight (allocating .rollover) = true ∧
    jobAwaited (allocating .rollover) = false ∧ (allocating .startUp).jst.queue = [] ∧
    (allocating .startUp).rqs.service = none ∧ (allocating .startUp).jst.job = .initial ∧
    openSeg (allocating .startUp) = none := by decide
theorem witness_MergedOutput : ∀ r, Entry.run r ∈ [gapEntry, .run ⟨5, 1, 0, 0, 0, 0, 0, .intact⟩] → 1 ≤ r.count := by
  intro r h
  simp only [gapEntry, List.mem_cons, reduceCtorEq, Entry.run.injEq, List.not_mem_nil, or_false, false_or] at h
  subst h
  decide
def working (a : Access) (j : Job) : State := withAccess a { active with jst := { active.jst with job := j } }
def copying (pages : Nat) : Job :=
  { Job.initial with
    phase := .copy, first := some (1, 2), second := some (2, 3), planned := some 16, target := some (3, 4),
        pages := pages }
/-- Nothing but the job asks for the array. -/
def jobAlone (s : State) : Bool :=
  s.logic == .running && s.jst.wantOpen.isNone && s.jst.queue.isEmpty && s.rqs.service.isNone && !s.jst.frozen &&
    !s.jst.job.stopped && s.jst.job.suspended.isNone
theorem witness_Pages : jobAlone (working .pageRead { Job.initial with phase := .planning, reading := true }) = true ∧
    jobAlone (working .pageProgram (copying 0)) = true ∧ jobAlone (working .commitMark (copying 2)) = true ∧
    (copying 0).target = some (3, 4) ∧ (copying 0).second = some (2, 3) ∧
    (working .pageRead { Job.initial with phase := .planning, reading := true }).logic = .running ∧
    ({ Job.initial with pagesRead := 30 } : Job).pagesRead < 31 ∧
    (working .pageProgram (copying 0)).jst.job.suspended = none ∧ (copying 0).pages + 1 < pagesFor 16 ∧
    pagesFor 16 = (copying 1).pages + 1 ∧ (working .pageRead (copying 0)).jst.job.phase = .copy ∧
    (working .commitMark (copying 2)).jst.job.first = some (1, 2) ∧
    (segAt (working .commitMark (copying 2)) 1).header.marked = false ∧ (1 : Nat) ≠ 3 := by decide
theorem witness_Erases : jobAlone (working (.sourceErase 1) { copying 2 with phase := .erase1 }) = true ∧
    jobAlone (working (.cleanupErase 3) { Job.initial with cleanup := some 3 }) = true ∧
    (working (.sourceErase 1) { copying 2 with phase := .erase1 }).jst.condition = .normal ∧
    1 < (working (.sourceErase 1) { copying 2 with phase := .erase1 }).store.length ∧
    4 ≤ blankCount (working (.sourceErase 1) { copying 2 with phase := .erase2 }) ∧
    (segAt (working (.sourceErase 1) (copying 2)) 2).header.marked = false ∧ (2 : Nat) ≠ 1 ∧
    (working (.cleanupErase 3) { Job.initial with cleanup := some 3 }).jst.job.phase = .none := by decide

/-! ### Witnesses for the further clauses of a statement -/

def at_ (schedule : NoteSchedule) (stall : Nat) (s : State) : State :=
  { s with chc := { s.chc with schedule := schedule }, tmb := { s.tmb with stall := some stall } }
def atPosition (n : Nat) (s : State) : State := { s with ret := { s.ret with position := n } }
theorem witness_IdleStep_ends : (at_ .none 1 active).tmb.stall = some 1 ∧
    (at_ (.waiting 4 2 false) 2 active).tmb.stall = some 2 ∧
    (at_ (.waiting 4 2 false) 2 active).chc.schedule = .waiting 4 2 false ∧ active.cmr.epochLength = 60 ∧
    active.cmr.epochLength ≤ (atPosition 59 active).ret.position + 1 ∧ dormant.cmr.epochLength = 60 ∧
    dormant.ret.schedule = .listening ∧ dormant.ret.position + 1 < dormant.cmr.epochLength ∧
    dormant.ret.countdown = .counting 2 0 ∧ concluding dormant = false ∧ dormant.chc.schedule = .none ∧
    dormant.tmb.stall = some 480 ∧ dormant.pending = [] ∧ dormant.retValid = true ∧
    dormant.logic = .running := by decide

theorem witness_Invariants : verdictsBacked active = true ∧ oneOpen active = true ∧ erasesSafe active = true ∧
    erasesSafe concluded = true ∧ memoryOk active = true ∧ statusAt active 0 = .opened := by decide

def withQueue (es : List Entry) (s : State) : State := { s with jst := { s.jst with queue := es } }
def withJob (j : Job) (s : State) : State := { s with jst := { s.jst with job := j } }
def withCondition (c : StoreCondition) (s : State) : State := { s with jst := { s.jst with condition := c } }
/-- The OPEN segment has `n` of its 126 slots filled. -/
def fullTo (n : Nat) : State :=
  { active with store := active.store.set 0 ⟨{ Header.erased with alloc := .fields ⟨1, 0, none⟩ },
      List.replicate n .void⟩ }
/-- No segment is BLANK. -/
def noBlank (s : State) : State := { s with jst := { s.jst with status := SegStatus.opened :: List.replicate 31 .full } }
theorem witness_EndOfCommand_head : (withQueue [gapEntry] active).jst.access = .none ∧
    (withQueue [gapEntry] active).jst.wantOpen = none ∧
    (withQueue [gapEntry] active).rqs.service = none ∧ openSeg (fullTo 125) = some 0 ∧
    (segAt (fullTo 125) 0).slots.length + 1 + gapEntry.size ≤ 127 ∧
    127 < (segAt (fullTo 126) 0).slots.length + 1 + gapEntry.size ∧ openSeg (fullTo 126) = some 0 ∧
    planOpen (fullTo 126) = some (1, ⟨2, 5, none⟩) := by decide
theorem witness_EndOfCommand_room : openSeg (noBlank (fullTo 126)) = some 0 ∧ planOpen (noBlank (fullTo 126)) = none ∧
    canFree (noBlank (fullTo 126)) = false ∧
    canFree (withJob { Job.initial with phase := .copy } (noBlank (fullTo 126))) = true ∧
    planOpen (withJob { Job.initial with phase := .copy } (noBlank (fullTo 126))) = none ∧
    (∀ r, Entry.run r ∉ (withQueue [gapEntry] (noBlank (fullTo 126))).jst.queue) := by
  refine ⟨by decide, by decide, by decide, by decide, by decide, ?_⟩
  intro r h
  simp [withQueue, gapEntry] at h
theorem witness_EndOfCommand_offer : (withCondition .short active).jst.condition ≠ .normal ∧
    (withQueue (List.replicate 6 gapEntry) active).jst.queue.length = 6 ∧
    (withQueue (List.replicate 5 gapEntry) active).jst.queue.length < 6 ∧
    (withAccess .pageProgram active).jst.access = .pageProgram ∧
    (withAccess (.sourceErase 3) active).jst.access = .sourceErase 3 ∧
    (withAccess (.cleanupErase 3) active).jst.access = .cleanupErase 3 ∧ active.jst.access ≠ .pageProgram ∧
    active.jst.condition = .normal ∧ active.jst.frozen = false := by decide
def suspendedAt (k : Suspended) : State := withJob { Job.initial with suspended := some k } active
theorem witness_EndOfCommand_resume : (suspendedAt .page).jst.job.suspended = some .page ∧
    (suspendedAt (.sourceErase 3)).jst.job.suspended = some (.sourceErase 3) ∧
    (suspendedAt (.cleanupErase 3)).jst.job.suspended = some (.cleanupErase 3) ∧
    (suspendedAt .page).jst.queue = [] ∧ (suspendedAt .page).jst.access = .none ∧
    (suspendedAt .page).jst.wantOpen = none ∧ (suspendedAt .page).rqs.service = none ∧
    (suspendedAt .page).jst.frozen = false ∧ (suspendedAt .page).jst.job.stopped = false ∧
    (suspendedAt .page).logic = .running := by decide

theorem witness_Frames_unsound : (0x0F : Byte).toNat < 0x10 ∧ 0x16 < (0x17 : Byte).toNat ∧
    ([0x03] : List Byte) ≠ [0x01] ∧
    ([0x03] : List Byte) ≠ [0x02] ∧ 208 < (0xD1 : Byte).toNat ∧
    ([0x01] : List Byte).length ≠ (0x00 : Byte).toNat + 11 ∧
    (0x04 : Byte) ≠ 0x01 ∧ (0x04 : Byte) ≠ 0x02 ∧ (0x04 : Byte) ≠ 0x03 ∧
    ([0x00, 0x00] : List Byte) ≠ crcBytes (0x02 :: (idBytes 1 ++ idBytes 2 ++ [])) := by decide

/-- Only the fourth AIR conversion is in progress. -/
def lastAir : State :=
  { active with tch := { active.tch with
      probe := quadOf (.valid (-300) false) .lost .lost (.valid (-299) false)
      air := quadOf (.valid (-300) false) .lost .lost .converting } }
theorem witness_LastConversion_air : lastAir.logic = .running ∧ quiet lastAir = true ∧
    lastAir.tch.air.converting = some 4 ∧ lastAir.tch.probe.q4.converted = true ∧ lastAir.eve.readingsEpoch = 5 ∧
    lastAir.eve.inputs = [] ∧ lastAir.ptb.viewTaken = false ∧ lastAir.tch.partialWaiting = false := by decide

def near (i : PartyId) : Peer :=
  { peer i with state := .coLocated, history := List.replicate 8 true, heard := true }
/-- At an epoch end with the array busy: peers, and an episode. -/
def epochEnd (peers : List Peer) (e : Option Episode) : State :=
  withAccess (.entry 0 1) (withQueue [gapEntry] { atQuarter4 5 active with
    ptb := { active.ptb with peers := peers }
    dmn := { active.dmn with episode := e } })
theorem witness_EpochEnd_turnover : (epochEnd [near 7, near 9] none).jst.access = .entry 0 1 ∧
    (epochEnd [near 7, near 9] none).rqs.service = none ∧ (epochEnd [near 7, near 9] none).dmn.closing = none ∧
    (epochEnd [near 7, near 9] none).ptb.turnover = none ∧ (epochEnd [near 7, near 9] none).ptb.founders = [] ∧
    2 ≤ ((([near 7, near 9].map Peer.shift).filterMap Peer.evaluate).filter fun p => p.state == .coLocated).length ∧
    (epochEnd [near 7, near 9] none).jst.queue.length < 6 ∧
    ¬ 2 ≤ ((([near 7].map Peer.shift).filterMap Peer.evaluate).filter fun p => p.state == .coLocated).length ∧
    (epochEnd [] none).ret.quarter = 4 ∧ (epochEnd [] none).ret.epoch < Config.maxEpoch ∧
    (epochEnd [] none).tch.taking = true ∧ (epochEnd [] none).dmn.taking = true ∧
    (epochEnd [] none).eve.inputs = [] := by decide
theorem witness_EpochEnd_episode :
    (epochEnd [] (some { Episode.begin .own 4 with ownMark := false, quiet := 1 })).dmn.episode =
      some { Episode.begin .own 4 with ownMark := false, quiet := 1 } ∧
    (epochEnd [] (some { Episode.begin .own 4 with age := 30 })).dmn.episode = some { Episode.begin .own 4 with age := 30 } ∧
    (epochEnd [] (some { Episode.begin .own 4 with age := 29 })).dmn.episode = some { Episode.begin .own 4 with age := 29 } ∧
    (epochEnd [] none).ret.schedule = .running := by decide

def blockedAt (n : Nat) : State := atQuarter4 n (stopped active)
theorem witness_RetainedTime_ends : (stopped lastMinute).ret.countdown = .counting 1 0 ∧
    (stopped lastMinute).retValid = true ∧ (blockedAt 16777215).ret.epoch = Config.maxEpoch ∧
    (blockedAt 16777214).ret.epoch < Config.maxEpoch ∧ (stopped dormant).ret.schedule = .listening ∧
    (stopped dormant).ret.quarter < 4 ∧ (atQuarter4 0 (stopped dormant)).ret.quarter = 4 ∧
    (stopped concluded).ret.schedule = .stopped ∧ (stopped State.reset).ret.schedule = .idle := by decide

theorem witness_Stops_access : (at_ .none 0 active).tmb.stall = some 0 ∧ (at_ .none 0 active).logic = .running ∧
    active.tmb.stall ≠ some 0 ∧ (withAccess (.entry 0 1) (withQueue [gapEntry] active)).jst.queue = gapEntry :: [] ∧
    (withAccess (.alloc .rollover 5 ⟨2, 5, none⟩) active).jst.access = .alloc .rollover 5 ⟨2, 5, none⟩ ∧
    (withAccess .pageProgram (withJob { Job.initial with target := some (3, 4) } active)).jst.job.target = some (3,
        4) ∧
    (withAccess (.scanErase 3) active).jst.access = .scanErase 3 ∧
    (withAccess (.protectMark 0) active).jst.job.suspended = none ∧
    (withJob { Job.initial with target := some (3, 4), suspended := some .page } active).jst.access = .none ∧
    (suspendedAt (.cleanupErase 3)).jst.access = .none := by decide
theorem witness_Stops_program : (withProgram (.verdictMark .strained) active).cmr.program = .verdictMark .strained ∧
    (withProgram (.commissionByte 45 0) active).cmr.program = .commissionByte 45 0 ∧
    (withProgram .conclusionMark active).cmr.program = .conclusionMark ∧
    (withProgram (.figure 4 61 [3]) active).cmr.program = .figure 4 61 [3] ∧ active.cmr.program = .none := by decide

/-- A start without retained state; the journal, the record and the countdown as given. -/
def start (store : List Segment) (m : Memory) (kept : Bool) (countdown : Countdown) (expired : Bool) : State :=
  stopped { active with
    store := store
    retValid := kept
    ret := { active.ret with countdown := countdown, expiredStopped := expired }
    cmr := ⟨factoryIdentity, m, .none⟩ }
def factsAt (s : State) : Facts := factsOf (liveSegments { s with jst := scanned s })
def blankStore : List Segment := List.replicate 32 .erased
def lastRunStore (n : Nat) : List Segment :=
  blankStore.set 0 ⟨{ Header.erased with alloc := .fields ⟨1, 0, none⟩ }, [.one (.gap ⟨n, none, .brownout, 2,
        .intact⟩)]⟩
def concludedRecord (delay : Nat) : Memory := Memory.program (consignment delay) 49 0x00 0
theorem witness_Start_lost : (start (lastRunStore 4) (consignment 0) false .expired false).cmr.commissioned = true ∧
    (factsAt (start (lastRunStore 4) (consignment 0) false .expired false)).entryPresent = true ∧
    (scanned (start (lastRunStore 4) (consignment 0) false .expired false)).scan = [] ∧
    (factsAt (start (lastRunStore 16777214) (consignment 0) false .expired false)).lastCovered = some 16777214 ∧
    (factsAt (start (lastRunStore 16777215) (consignment 0) false .expired false)).lastCovered = some 16777215 ∧
    (factsAt (start blankStore (consignment 0) false .expired false)).entryPresent = false ∧
    (start blankStore (consignment 0) false .expired false).cmr.startDelay = 0 ∧
    0 < (start blankStore (consignment 1) false .expired false).cmr.startDelay ∧
    (scanned (start blankStore (consignment 1) false .expired false)).scan = [] ∧
    (start blankStore (concludedRecord 0) false .expired false).cmr.concluded = true ∧
    (start blankStore (consignment 0) false .expired false).cmr.concluded = false := by decide
theorem witness_Start_kept : (start blankStore (consignment 1) true (.counting 1 3) false).ret.countdown = .counting 1 3 ∧
    (factsAt (start blankStore (consignment 1) true (.counting 1 3) false)).entryPresent = false ∧
    (scanned (start blankStore (consignment 1) true (.counting 1 3) false)).scan = [] ∧
    ({ start blankStore (concludedRecord 0) true .expired false with
      ret := { active.ret with schedule := .stopped } } : State).cmr.concluded = true ∧
    (start blankStore (consignment 1) true .expired true).ret.expiredStopped = true ∧
    (factsAt (start blankStore (consignment 1) true .expired true)).lastCovered = none ∧
    (factsAt (start (lastRunStore 4) (consignment 1) true .expired true)).lastCovered = some 4 ∧
    4 + 1 ≤ (start (lastRunStore 4) (consignment 1) true .expired true).ret.epoch ∧
    (start blankStore (consignment 1) true .expired true).ret.schedule = .running := by decide
def legStore : List Segment :=
  blankStore.set 0 ⟨{ Header.erased with alloc := .fields ⟨1, 0, none⟩ }, [.one (.leg legEntry)]⟩
/-- The station and what its start settles. -/
def startsIn (s : State) : Option (Station × Option Nat × Bool × SegStatus) :=
  match execRestart false env s with
  | .next t => some (t.eve.station, t.ptb.leg, t.jst.frozen, statusAt t 0)
  | .fault _ => none
  | .refused _ => none
theorem witness_Start_settles : (factsAt (start legStore (consignment 0) true .expired false)).lastLeg = some legEntry ∧
    startsIn (start legStore (consignment 0) true .expired false) = some (.active, some 1, false, .opened) ∧
    openableSeg { start legStore (consignment 0) true .expired false with
      jst := scanned (start legStore (consignment 0) true .expired false) } = some 0 ∧
    startsIn (start blankStore (consignment 0) true .expired false) = some (.active, some 0, false, .blank) ∧
    (scanned (start blankStore (concludedRecord 0) false .expired false)).scan = [] ∧
    startsIn (start legStore (concludedRecord 0) false .expired false) = some (.concluded, some 1, true,
        .full) := by decide
/-- R99, R102, R163: a station that starts again reports its account before any piece is taken. -/
def reportsAfter (m : Memory) : Option (Station × Nat × Nat × Verdict × Nat) :=
  match execRestart false env (start (blankStore.set 0
      ⟨{ Header.erased with alloc := .fields ⟨1, 0, none⟩ }, [.one (.epoch epochEntry)]⟩) m false .expired false) with
  | .next t => some (t.eve.station, t.eve.committedExposure, t.eve.committedDrawn, t.eve.verdict, t.eve.work.length)
  | .fault _ => none
  | .refused _ => none
theorem test_start_reports_the_account :
    reportsAfter (consignment 0) = some (.active, epochEntry.exposure, epochEntry.drawn, .strained, 1) ∧
    reportsAfter (concludedRecord 0) = some (.concluded, epochEntry.exposure, epochEntry.drawn, .strained, 1) := by decide

theorem witness_Corroboration_middle : 1 ≤ 1 ∧ [reading 1 4, reading 2 5, reading 3 9].length = 2 * 1 + 1 ∧
    [reading 1 4, reading 2 5, reading 3 9][1]? = some (reading 2 5) ∧ [reading 1 4, reading 2 9].length = 2 * 0 + 2 ∧
    [reading 1 4, reading 2 9][0]? = some (reading 1 4) ∧ [reading 1 4, reading 2 9][1]? = some (reading 2 9) ∧
    ([] : List Item).length < 2 := by decide
theorem witness_Close_grades : (joined 4).readings.probe = some ⟨-300, false⟩ ∧ blind.readings.probe = none ∧
    blind.readings.air = none ∧ blind.view.items.length < 2 ∧ blind.view.leg = some 0 ∧
    ({ blind with readings := ⟨4, none, some ⟨-300, false⟩⟩ } : Joined).readings.air = some ⟨-300, false⟩ ∧
    (computeClose active.cmr active.eve
      { blind with readings := ⟨4, none, some ⟨-300, false⟩⟩ }).entry.flags.suspect = false ∧
    (computeClose active.cmr { active.eve with suspect := true }
      { blind with readings := ⟨4, none, some ⟨-300, false⟩⟩ }).entry.flags.suspect = true ∧
    median [reading 1 4, reading 2 5, reading 3 9] = some (5, false) := by decide

/-- A close waits inside an episode, beside what the door monitor holds. -/
def inEpisode (episode closed : Option Episode) : State :=
  { closing { joined 4 with door := ⟨5, true, false⟩ } with dmn := ⟨false, episode, closed, true⟩ }
theorem witness_OrdinaryClose_episode : (inEpisode none none).eve.work = [.ordinary { joined 4 with door := ⟨5,
        true, false⟩ }] ∧
    (inEpisode (some (.begin .own 5)) none).dmn.episode = some (.begin .own 5) ∧ (Episode.begin .own 5).start ≤ 5 ∧
    ({ Episode.begin .own 4 with stop := some 5 } : Episode).stop = some (joined 4).epoch ∧
    ({ Episode.begin .own 5 with stop := some 6 } : Episode).stop = some 6 ∧ (5 : Nat) < 6 ∧
    (inEpisode none (some (.begin .own 5))).jst.queue.length < 5 ∧
    (computeClose (inEpisode none none).cmr (inEpisode none none).eve
      { joined 4 with door := ⟨5, true, false⟩ }).entry.verdict = (inEpisode none none).eve.verdict := by decide
theorem witness_OrdinaryClose_note : (at_ (.waiting 5 9 false) 9 (closing (joined 4))).chc.schedule = .waiting 5 9 false ∧
    (at_ (.due 4) 9 (closing (joined 4))).chc.schedule = .due 4 ∧ 4 ≠ (joined 4).epoch ∧
    (at_ (.due 5) 9 (closing (joined 4))).chc.schedule = .due (joined 4).epoch ∧
    checkpointRests (closing (joined 4)) = true := by decide
def refusing (v : Verdict) (m : Memory) : State :=
  { withCondition .short (closing (joined 4)) with
    eve := { (closing (joined 4)).eve with verdict := v }
    cmr := ⟨factoryIdentity, m, .none⟩ }
def strainedRecord : Memory := Memory.program (consignment 0) 46 0x00 0
def unprovenRecord : Memory := Memory.program strainedRecord 47 0x00 0
theorem witness_OrdinaryClose_refused : (refusing .intact (consignment 0)).jst.condition ≠ .normal ∧
    (refusing .intact (consignment 0)).cmr.highestMark = .intact ∧
    (refusing .strained strainedRecord).cmr.highestMark = .strained ∧
    (computeClose (refusing .intact (consignment 0)).cmr (refusing .intact (consignment 0)).eve (joined 4)).entry.verdict =
      .intact ∧
    (computeClose (refusing .strained strainedRecord).cmr (refusing .strained strainedRecord).eve
      (joined 4)).entry.verdict = .strained ∧
    (computeClose (refusing .unproven unprovenRecord).cmr (refusing .unproven unprovenRecord).eve
      (joined 4)).entry.verdict = .unproven ∧ 2 ≤ (refusing .unproven unprovenRecord).eve.verdict.rank := by decide
/-- A close that raises the verdict from a level above INTACT. -/
def raising (v : Verdict) (m : Memory) (j : Joined) (run : Nat) : State :=
  { closing j with
    eve := { (closing j).eve with verdict := v, run := run }
    cmr := ⟨factoryIdentity, m, .none⟩ }
theorem witness_Raises_higher : quiet (raising .strained strainedRecord hot 0) = true ∧
    (raising .strained strainedRecord hot 0).cmr.highestMark = .strained ∧
    (computeClose (raising .strained strainedRecord hot 0).cmr (raising .strained strainedRecord hot 0).eve
      hot).entry.verdict = .broken ∧
    (computeClose (raising .strained strainedRecord blind 8).cmr (raising .strained strainedRecord blind 8).eve
      blind).entry.verdict = .unproven ∧
    (raising .unproven unprovenRecord hot 0).cmr.highestMark = .unproven ∧
    (raising .unproven unprovenRecord hot 0).cmr.markSet 46 = true ∧
    (computeClose (raising .unproven unprovenRecord hot 0).cmr (raising .unproven unprovenRecord hot 0).eve
      hot).entry.verdict = .broken := by decide

def restores (r : Report) (f : Facts) (m : Memory) (es : List Entry) : State :=
  { withAccess (.entry 0 1) (withQueue es (withWork [.restoration r f] active)) with cmr := ⟨factoryIdentity, m,
        .none⟩ }
def account (e : Option Entry) : Facts := ⟨true, some 4, e, some (7, 0), none, 0, 0⟩
def strainedEpoch : EpochEntry := { epochEntry with verdict := .intact, run := 5 }
theorem witness_Restoration_known :
    (restores ⟨.active, .stall, .count 3⟩ (account (some (.epoch strainedEpoch))) (consignment 0) [gapEntry]).eve.work =
      [.restoration ⟨.active, .stall, .count 3⟩ (account (some (.epoch strainedEpoch)))] ∧
    min 65535 (5 + 3) ≤ (restores ⟨.active, .stall, .count 3⟩ (account none) (consignment 0) []).cmr.gapAllowance ∧
    (restores ⟨.active, .stall, .count 3⟩ (account none) (consignment 0) []).cmr.gapAllowance < min 65535 (5 + 4) ∧
    checkpointRests (restores ⟨.active, .stall, .count 3⟩ (account none) (consignment 0) [gapEntry]) = true ∧
    (restores ⟨.active, .stall, .count 3⟩ (account none) (consignment 0) [gapEntry]).jst.access = .entry 0 1 ∧
    (restores ⟨.active, .stall, .count 65535⟩ (account none) strainedRecord [gapEntry]).cmr.highestMark = .strained ∧
    (1 ≤ 1 ∧ (65535 : Nat) ≤ 65535) ∧ 2 ≤ (Verdict.intact.higher .unproven).rank := by decide
theorem witness_Restoration_others :
    (account (some (.run ⟨3, 2, 0, 0, 7, 0, 0, .intact⟩))).lastCoverage = some (.run ⟨3, 2, 0, 0, 7, 0, 0, .intact⟩) ∧
    (account (some gapEntry)).lastCoverage = some gapEntry ∧ (account none).lastCoverage = none ∧
    quiet (restores ⟨.concluded, .brownout, .none⟩ (account none) (concludedRecord 0) [gapEntry]) = true ∧
    (restores ⟨.active, .retentionLost, .unknown⟩ (account none) (consignment 0) [gapEntry]).eve.work =
      [.restoration ⟨.active, .retentionLost, .unknown⟩ (account none)] ∧
    (restores ⟨.active, .retentionLost, .unknown⟩ (account none) unprovenRecord [gapEntry]).cmr.highestMark = .unproven := by
  decide

def noteThird : Chc :=
  { (queued [] 0).chc with queue := [.reply 9 (.status 0x12 .busy)] ++ .note note :: [.reply 9 (.status 0x13 .busy)] }
theorem witness_OfferNote : noteThird.queue = [.reply 9 (.status 0x12 .busy)] ++ .note note :: [.reply 9 (.status 0x13 .busy)] ∧
    [Frame.reply 9 (.status 0x12 .busy)].any Frame.isNote = false ∧ replies.any Frame.isNote = false ∧
    4 ≤ replies.length ∧
    replies.tail.length < 4 := by decide
def relayed : State := { active with dmn := { active.dmn with episode := some { Episode.begin .heard 4 with relay := true } } }
theorem witness_DoorFlag : dormant.eve.station ≠ .active ∧ lit.dmn.latch = true ∧ relayed.dmn.latch = false ∧
    relayed.dmn.episode.isSome = true ∧ active.dmn.latch = false ∧ active.dmn.episode = none := by decide

def lightNote : Note := { note with door := .light }
def friends : State := { active with ptb := { active.ptb with peers := [peer 7, near 9] } }
theorem witness_ChillNote_light : { env with clipped := true }.clipped = true ∧
    parseNote lightNote.payload = some lightNote ∧
    friends.ptb.peers = [peer 7] ++ near 9 :: [] ∧ (near 9).state = .coLocated ∧ (peer 7).state ≠ .coLocated ∧
    friends.dmn.taking = true ∧ delivered env friends = true ∧ friends.ptb.viewTaken = false ∧
    dormant.eve.station = .dormant ∧ delivered env dormant = true := by decide
def crowdWith (st : PeerState) : List Peer := (crowd.take 5) ++ { peer 99 with state := st } :: (crowd.drop 6)
theorem witness_ChillNote_replaces : (crowdWith .lapsing).length = 12 ∧ (crowdWith .heard).length = 12 ∧
    (∀ x ∈ crowdWith .lapsing, x.id ≠ 7) ∧ (∀ x ∈ crowd.take 5 ++ crowd.drop 6, x.id ≠ 99) ∧
    (∀ x ∈ crowd.take 5 ++ crowd.drop 6, x.state ≠ .lapsing ∧ x.state ≠ .heard) ∧
    (∀ x ∈ crowdWith .heard, x.state ≠ .lapsing) := by decide

def dark (episode closed : Option Episode) : State := { active with dmn := ⟨false, episode, closed, true⟩ }
def quietOne : Episode := { Episode.begin .own 4 with ownMark := false, quiet := 1 }
def ended (stop : Nat) : Episode := { Episode.begin .own 2 with stop := some stop }
theorem witness_Light_more : (dark none none).dmn.latch = false ∧ (dark none none).dmn.taking = true ∧
    ({ dark none none with logic := .startUp } : State).logic = .startUp ∧
    ({ dark none none with dmn := ⟨false, none, none, false⟩ } : State).dmn.taking = false ∧
    (dark (some quietOne) (some (ended 4))).dmn.closing = some (ended 4) ∧ (ended 4).stop = some 4 ∧
    quietOne.ownMark = false ∧ quietOne.heardMark = false ∧ 1 ≤ quietOne.quiet ∧ (ended 4).start ≤ 3 ∧ 3 < 4 ∧ 4 < 5 ∧
    (dark (some quietOne) none).dmn.closing = none := by decide

theorem witness_FormatCases : ([0x03] : List Byte) ≠ [0x01] ∧ ([0x03] : List Byte) ≠ [0x02] ∧
    ([0x03] : List Byte) ≠ [] ∧
    parseCommission [0x03] = none ∧ parseRead [0x03] = none ∧ parseConclude [0x03] = none ∧
    (withProgram (.verdictMark .strained) active).cmr.program ≠ .none ∧
    quiet (withProgram (.verdictMark .strained) active) = true ∧
    reaches req env (withProgram (.verdictMark .strained) active) = true := by decide

def suspends (a : Access) : State := withAccess a active
theorem witness_Reads_suspend : (suspends .pageProgram).jst.access = .pageProgram ∧
    (suspends (.sourceErase 3)).jst.access = .sourceErase 3 ∧
    (suspends (.cleanupErase 3)).jst.access = .cleanupErase 3 ∧
    Machine.free req env (suspends .pageProgram) = true ∧ (suspends .pageProgram).jst.queue = [] ∧
    (suspends .pageProgram).jst.wantOpen = none ∧ (suspends .pageProgram).eve.station ≠ .blank ∧
    startEpoch (journal (suspends .pageProgram)) ⟨.absolute, 0, 1, none⟩ = some 0 ∧
    { cursored with jst := { cursored.jst with access := .pageProgram } }.rqs.cursor =
      some ⟨0x1001, 0, 1, none, .anchored 3 0⟩ := by decide

def aCursor : Cursor := ⟨0x1001, 0, 1, none, .unanchored⟩
/-- A fragment in service, its reads done (`seen`) or not. -/
def walking (asked : Asked) (start : Option Nat) (seen : Option Nat) (s : State) : State :=
  withService (.fragment aCursor asked start seen) s
theorem witness_Fragment_waits : (walking (.read .active) (some 0) none active).cmr.program = .none ∧
    (walking (.read .active) (some 0) (some 1) (withAccess (.entry 0 1) (withQueue [gapEntry] active))).jst.access ≠ .none ∧
    quiet { walking (.read .active) (some 0) (some 1) (withAccess (.entry 0 1) (withQueue [gapEntry] active)) with
      rqs := { active.rqs with service := none } } = true ∧
    (walking (.read .active) (some 0) none (withAccess (.entry 0 1) (withQueue [gapEntry] active))).jst.access ≠ .none ∧
    (walking (.read .active) (some 0) none (withProgram (.verdictMark .strained) active)).cmr.program ≠ .none ∧
    quiet { walking (.read .active) (some 0) none dormant with rqs := { dormant.rqs with service := none } } = true ∧
    (composeFragment (journal dormant) aCursor 0).entries = [] ∧
    (walking (.read .dormant) (some 0) none dormant).rqs.service = some (.fragment aCursor (.read .dormant) (some 0) none) ∧
    (walking (.read .active) none none (withQueue [gapEntry] active)).jst.queue = [gapEntry] ∧
    openSeg (walking (.read .active) none none (withQueue [gapEntry] active)) = some 0 ∧
    (segAt (walking (.read .active) none none (withQueue [gapEntry] active)) 0).slots.length + 1 + gapEntry.size ≤ 127 ∧
    { env with readFirst := true }.readFirst = true ∧ env.readFirst = false := by decide
/-- R166, R173: a READ taken in DORMANT that finds nothing is RANGE, though the station is ACTIVE by then. -/
theorem test_read_judged_when_taken :
    (match exec (.fragmentComposed env) (walking (.read .dormant) (some 0) none active) with
      | .next t => (t.chc.transmitter, t.rqs.service)
      | .fault _ => (.idle, none)
      | .refused _ => (.idle, none)) = (.onAir (.reply 0x1001 (.status 0x13 .range)), none) := by decide
def seven : List Entry := List.replicate 7 gapEntry
theorem witness_Fragment_six : (composeFragment seven aCursor 0).more = true ∧
    (composeFragment seven aCursor 0).entries.length = 6 ∧
    ((composeFragment seven aCursor 0).entries.map Prod.fst).getLast? = some gapEntry ∧
    (composeFragment [] aCursor 0).entries = [] ∧ aCursor.position = .unanchored ∧
    anchorAfter [gapEntry] = .anchored 5 0 ∧ gapEntry.coverage = some (3, 4) ∧
    (Entry.leg legEntry).coverage = none := by
  decide

/-- A live segment, and a job. -/
def jobbed (a : Access) (j : Job) : State := withAccess a (withJob j { twoLive with
  jst := { twoLive.jst with status := twoLive.jst.status.set 3 .targetPending } })
def copyOf (phase : Phase) : Job := { copying 0 with phase := phase }
theorem witness_Checkpoint_job : Machine.free req env (jobbed (.alloc .target 4 ⟨3, 0, some (1,
        2)⟩) (copyOf .allocate)) = true ∧
    (jobbed .commitMark (copyOf .commit)).jst.access = .commitMark ∧
    (jobbed .pageRead { Job.initial with phase := .planning }).jst.job.phase = .planning ∧
    nextProtect (jobbed .pageRead { Job.initial with phase := .planning }) [] = some 0 ∧
    (jobbed .pageRead (copyOf .copy)).jst.job.target = some (3, 4) ∧
    nextProtect (jobbed .pageRead (copyOf .copy)) [] = some 0 ∧
    (jobbed .pageProgram (copyOf .copy)).jst.access = .pageProgram ∧
    nextProtect (putPage (leftSlots (jobPage (jobbed .pageProgram (copyOf .copy))) left.page)
      (jobbed .pageProgram (copyOf .copy))) [] = some 0 ∧
    (jobbed (.sourceErase 3) (copyOf .erase1)).jst.job.phase = .erase1 ∧
    nextProtect (jobbed (.sourceErase 3) (copyOf .erase2)) [] = some 0 ∧
    nextProtect (jobbed (.cleanupErase 3) .initial) [] = some 0 ∧ (jobbed .pageRead (copyOf .copy)).jst.queue = [] ∧
    (jobbed .pageRead (copyOf .copy)).rqs.checkpoints < 32 ∧ (jobbed .pageRead (copyOf .copy)).jst.wantOpen = none ∧
    (jobbed .pageRead (copyOf .copy)).jst.condition = .normal ∧
    (jobbed .pageRead (copyOf .copy)).eve.station = .active := by
  decide
theorem witness_Checkpoint_offer : (numbered 0 .short).jst.condition ≠ .normal ∧ active.jst.access = .none ∧
    active.jst.queue.length < 6 ∧ 6 ≤ (withQueue (List.replicate 6 gapEntry) active).jst.queue.length := by decide
theorem witness_Conclude_job : parseConclude [0x01, 0x41, 0x00] = some ((jobbed .pageRead (copyOf .copy)).cmr.reference, []) ∧
    quiet (jobbed .commitMark (copyOf .commit)) = true ∧ quiet (jobbed .pageRead (copyOf .copy)) = true ∧
    quiet (jobbed (.alloc .target 4 ⟨3, 0, some (1, 2)⟩) (copyOf .allocate)) = true ∧
    quiet (jobbed .pageProgram (copyOf .copy)) = true ∧ quiet (jobbed (.sourceErase 3) (copyOf .erase1)) = true ∧
    quiet (jobbed (.cleanupErase 3) .initial) = true ∧ 3 < (jobbed (.cleanupErase 3) .initial).store.length ∧
    (jobbed .pageRead (copyOf .copy)).ret.schedule = .running ∧
    (jobbed .pageRead (copyOf .copy)).eve.readingsEpoch = 5 ∧
    (jobbed .pageRead (copyOf .copy)).ret.epoch = 5 ∧ (jobbed .pageRead (copyOf .copy)).tch.busy = false ∧
    (jobbed .pageRead (copyOf .copy)).tch.quarters < 4 ∧ (jobbed .pageRead (copyOf .copy)).eve.inputs = [] ∧
    (jobbed .pageRead (copyOf .copy)).jst.job.suspended = none ∧
    Machine.free req env (jobbed .pageRead (copyOf .copy)) = true := by decide

theorem witness_Conclusion_entry : (withAccess (.entry 0 1) (withQueue [gapEntry] (figuring 4))).jst.queue = [gapEntry] ∧
    quiet (withAccess (.entry 0 1) (withQueue [gapEntry] (figuring 4))) = true ∧
    (withAccess (.entry 0 1) (figuring 4)).cmr.program = .figure 4 61 (figures.bytes 4) ∧
    (withAccess (.entry 0 1) (figuring 4)).rqs.service = some (.conclude 0x1001 [] (.figure figures 4)) ∧
    (withCondition .short (withAccess (.entry 0 1) (withQueue [gapEntry] (figuring 4)))).jst.condition ≠ .normal ∧
    (figuring 4).jst.frozen = false ∧ (figuring 4).jst.queue.length < 6 := by decide

def lastMark (again : Bool) : State :=
  withAccess (.protectMark 1) (withService (.checkpoint 0x1001 1 5 (.marking [0] again 1 0)) twoLive)
def markedTwo (p : Protection) (s : State) : State :=
  { s with store := s.store.set 1 ⟨{ (segAt s 1).header with protection := p }, (segAt s 1).slots⟩ }
theorem witness_ProtectionMarks_last : nextProtect (markedTwo .part (lastMark false)) ([0] ++ [1]) = none ∧
    nextProtect (markedTwo .clear (lastMark true)) ([0] ++ [1]) = none ∧
    (lastMark false).jst.access = .protectMark 1 ∧
    (lastMark true).rqs.service = some (.checkpoint 0x1001 1 5 (.marking [0] true 1 0)) ∧
    openSeg (lastMark false) = some 1 ∧
    (segAt (lastMark false) 1).slots.length + 2 ≤ 127 ∧ (lastMark false).cmr.program = .none ∧
    (lastMark false).jst.condition = .normal ∧ (lastMark false).jst.queue = [] ∧
    (withCondition .short (lastMark false)).jst.condition ≠ .normal ∧ (lastMark false).jst.job = .initial ∧
    (withProgram (.verdictMark .strained) (lastMark false)).cmr.program ≠ .none ∧
    (withQueue (List.replicate 6 gapEntry) (lastMark false)).jst.queue = gapEntry :: List.replicate 5 gapEntry ∧
    (segAt (lastMark false) 1).slots.length + 1 + gapEntry.size ≤ 127 ∧
    (List.replicate 5 gapEntry).length = 5 ∧ MarkRead.part ≠ .clear := by decide

def checkpointEntry1 : CheckpointEntry := ⟨1, 5, 0x1001, .intact, 0⟩
def concludeEntry1 : ConcludeEntry := ⟨figures, 0x1001, [], 5⟩
def entering (x : Service) (e : Entry) : State := withService x (appending e true)
def stored (e : Entry) : State :=
  let s := appending e true
  { s with store := s.store.set 0 ((segAt s 0).put 1 e.slots) }
theorem witness_EntryProgram_fate :
    (entering (.checkpoint 0x1001 1 5 (.entry .intact 0 1 0)) (.checkpoint checkpointEntry1)).jst.queue =
      [.checkpoint checkpointEntry1] ∧
    (entering (.conclude 0x1001 [] (.entry figures)) (.conclude concludeEntry1)).jst.job = .initial ∧
    nextLock (entering (.conclude 0x1001 [] (.entry figures)) (.conclude concludeEntry1)) [] = some 0 ∧
    (withQueue [gapEntry, .door doorEntry] (appending gapEntry true)).jst.queue = gapEntry :: [.door doorEntry] ∧
    openSeg (appending gapEntry true) = some 0 ∧ (appending gapEntry true).jst.secondTry = true ∧
    (segAt (stored gapEntry) 0).slots.length + 1 + (Entry.door doorEntry).size ≤ 127 ∧
    (appending gapEntry true).jst.wantOpen = none ∧ (appending gapEntry true).rqs.service = none ∧
    ({ appending (.leg legEntry) true with ptb := { active.ptb with turnover := none } } : State).ptb.turnover = none := by
  decide
theorem witness_Freeze : programmingEntry active = false ∧ programmingEntry (appending gapEntry false) = true ∧
    (∀ r, Entry.run r ∉ (appending gapEntry false).jst.queue) := by
  refine ⟨by decide, by decide, ?_⟩
  intro r h
  have hq : (appending gapEntry false).jst.queue = [gapEntry] := rfl
  rw [hq] at h
  simp [gapEntry] at h

def lowBlanks (s : State) : State :=
  { s with jst := { s.jst with status := (List.replicate 29 SegStatus.full) ++ List.replicate 3 .blank } }
theorem witness_Trigger : blankCount (lowBlanks active) ≤ 3 ∧ (lowBlanks active).eve.station = .active ∧
    (lowBlanks active).jst.condition ≠ .journalFull ∧ (lowBlanks active).jst.job.phase = .none ∧
    (lowBlanks active).jst.job.cleanup = none ∧ concluding (lowBlanks active) = false ∧
    3 < blankCount active := by decide
def opening : State :=
  withService (.opening 0x1001 []) (withAccess (.alloc .commissioning 0 ⟨1, 0, none⟩) { active with
    jst := { Jst.initial with wantOpen := some .commissioning }, store := blankStore })
theorem witness_Allocation_opens : oneOpen opening = true ∧
    opening.jst.access = .alloc .commissioning 0 ⟨1, 0, none⟩ ∧
    opening.store.length = 32 ∧ opening.jst.status.length = 32 ∧
    opening.rqs.service = some (.opening 0x1001 []) ∧ opening.jst.queue = [] ∧ opening.jst.condition = .normal ∧
    (segAt opening 0).slots.length + 3 ≤ 127 ∧ opening.eve.station = .active ∧ opening.jst.frozen = false ∧
    oneOpen (withQueue [gapEntry] (allocating .rollover)) = true ∧
    (withQueue [gapEntry] (allocating .rollover)).jst.access = .alloc .rollover 5 ⟨2, 5, none⟩ ∧
    (segAt (allocating .rollover) 5).slots.length + 1 + gapEntry.size ≤ 127 ∧ (5 : Nat) < 32 ∧
    (allocating .rollover).store.length = 32 ∧ (allocating .rollover).jst.status.length = 32 := by decide
/-- A target's allocation ends: nothing else waits. -/
def targeting (blanks : List SegStatus) : State :=
  working (.alloc .target 5 ⟨4, 0, some (2, 3)⟩) (copyOf .allocate) |> fun s => { s with jst := { s.jst with status := blanks } }
theorem witness_Allocation_target : jobAlone (targeting active.jst.status) = true ∧
    (targeting active.jst.status).jst.job.phase = .allocate ∧
    (targeting active.jst.status).jst.job.planned = some 16 ∧
    1 ≤ 16 ∧ planTarget { targeting active.jst.status with jst := { (targeting active.jst.status).jst with
      status := active.jst.status.set 5 .outOfService, nextSeq := 3 } } = some (1, ⟨3, 0, some (2, 3)⟩) ∧
    planTarget (targeting (List.replicate 32 .full)) = none ∧
    (targeting active.jst.status).jst.condition = .normal := by
  decide

/-- The last page read of a pair: two mergeable segments, then perhaps another pair. -/
def journalAt (seq : Nat) (n : Nat) : Segment :=
  ⟨{ Header.erased with alloc := .fields ⟨seq, seq, none⟩ }, List.replicate n (.one gapEntry)⟩
def planningState (n : Nat) (pairs : Nat) (blanks : Bool) : State :=
  working .pageRead { Job.initial with phase := .planning, reading := true, pagesRead := 31 } |> fun s => { s with
    store := (List.range 32).map fun i => if i < pairs then journalAt (i + 1) n else .erased
    jst := { s.jst with status := (List.range 32).map fun i =>
      if i < pairs then SegStatus.full else if blanks then .blank else .outOfService } }
theorem witness_Planning_end : jobAlone (planningState 2 2 true) = true ∧
    pairAt (planningState 2 2 true) 0 = some (0, 1) ∧
    (mergedSlots (segAt (planningState 2 2 true) 0) (segAt (planningState 2 2 true) 1)).length = 4 ∧
    planTarget { planningState 2 2 true with jst := { (planningState 2 2 true).jst with
      job := { Job.initial with first := some (0, 1), second := some (1, 2) } } } = some (2, ⟨2, 1, some (1, 2)⟩) ∧
    planTarget (planningState 2 2 false) = none ∧ nextPair (planningState 2 3 true) 1 = some 1 ∧
    nextPair (planningState 2 2 true) 1 = none ∧ (planningState 2 2 true).jst.condition = .normal ∧
    (planningState 2 2 true).jst.job.cleanup = none := by decide
theorem witness_Planning_tooBig : 126 <
    (mergedSlots (segAt (planningState 64 2 true) 0) (segAt (planningState 64 2 true) 1)).length := by decide
theorem witness_Abandon : (segAt (working .pageProgram (copying 0)) 3).header.marked = false ∧
    (working .commitMark { copying 2 with phase := .commit }).jst.job.commitRetry = false ∧
    (working .commitMark { copying 2 with commitRetry := true }).jst.job.commitRetry = true ∧
    (working .commitMark (copying 2)).jst.access = .commitMark := by decide

/-- The second source's erase ends, the store SHORT, with `n` segments BLANK besides. -/
def shortErase (n : Nat) (broken : Bool) : State :=
  working (.sourceErase 1) { copying 2 with phase := .erase2 } |> fun s => { s with
    store := s.store.set 1 (if broken then journalAt 2 1 else .erased)
    jst := { s.jst with
      condition := .short
      status := (List.replicate 1 SegStatus.opened) ++ .erasing :: List.replicate n .blank ++ List.replicate (30 - n) .outOfService } }
def leftBroken : EraseLeft := ⟨.asIs, false, false, [.asIs]⟩
def erasedShort (n : Nat) (broken : Bool) : State :=
  let s := shortErase n broken
  { s with
    store := s.store.set 1 ((segAt s 1).erasedTo leftBroken)
    jst := { s.jst with
      status := s.jst.status.set 1 (if (segAt s 1).erasedTo leftBroken = .erased then .blank else .outOfService)
      access := .none
      job := .initial } }
theorem witness_Erases_short : jobAlone (shortErase 4 false) = true ∧ (shortErase 4 false).jst.job.phase = .erase2 ∧
    (shortErase 4 false).jst.condition = .short ∧ 3 < blankCount (erasedShort 4 false) ∧
    (planOpen (erasedShort 4 false)).isSome = true ∧ planOpen (erasedShort 0 true) = none ∧
    canFree (erasedShort 0 true) = false ∧ 1 < (shortErase 0 true).store.length := by decide
def lowErase (pairs : Nat) : State :=
  working (.cleanupErase 9) { Job.initial with cleanup := some 9 } |> fun s => { s with
    store := (List.range 32).map fun i => if i < pairs then journalAt (i + 1) 1 else .erased
    jst := { s.jst with status := ((List.range 32).map fun i =>
      if i < pairs then SegStatus.full else .outOfService).set 9 .erasing } }
def erasedLow (pairs : Nat) : State :=
  { lowErase pairs with jst := { (lowErase pairs).jst with
      status := (lowErase pairs).jst.status.set 9 .blank, access := .none, job := .initial } }
theorem witness_Erases_trigger : jobAlone (lowErase 2) = true ∧ (lowErase 2).jst.job.phase = .none ∧
    blankCount (erasedLow 2) ≤ 3 ∧ (erasedLow 2).eve.station = .active ∧ nextPair (erasedLow 2) 0 = some 0 ∧
    nextPair (erasedLow 1) 0 = none ∧ (lowErase 2).jst.condition = .normal := by decide

def quietEpoch : EpochEntry := { epochEntry with verdict := .intact }
theorem witness_QuietEpoch : quietEpoch.value = some (-300) ∧ quietEpoch.grade = .probe ∧
    quietEpoch.flags.anySet = false ∧
    quietEpoch.contribution = 0 ∧ quietEpoch.draw = 0 ∧ quietEpoch.run = 0 ∧
    ({ quietEpoch with run := 1 } : EpochEntry).run ≠ 0 ∧
    ({ quietEpoch with grade := .air } : EpochEntry).grade ≠ .probe ∧
    mergeFrom none [.epoch quietEpoch, .epoch { quietEpoch with epoch := 5 }] =
      [.run ⟨4, 2, -300, -300, 7, 0, 0, .intact⟩] := by decide

theorem witness_Answered : (markWaiting [.strained]).rqs.discovers = [] ∧
    (answered env { active with rqs := { active.rqs with discovers := [7] } }).chc.hold.isSome = true ∧
    (answered env { active with rqs := { active.rqs with discovers := [7] } }).rqs.discovers = [] := by decide

/-! ### What the later statements ask for -/

/-- A conclusion waits for what converts, its views handed; the inputs as given. -/
def partialWaits (inputs : List CloseInputs) (probe air : Quad) : State :=
  { active with
    tch := { active.tch with probe := probe, air := air, taking := false, partialWaiting := true }
    ptb := { active.ptb with viewTaken := true }
    dmn := { active.dmn with taking := false }
    eve := { active.eve with inputs := inputs } }
def viewsOf (e : Nat) : CloseInputs := ⟨e, none, some ⟨e, some 0, []⟩, some ⟨e, false, false⟩⟩
def convertingTwo : Quad := quadOf (.valid (-300) false) .converting .pending .pending
def convertedTwo : Quad := quadOf (.valid (-300) false) (.valid (-299) false) .pending .pending
def convertingFour : Quad := quadOf (.valid (-300) false) .lost .lost .converting
def convertedFour : Quad := quadOf (.valid (-300) false) .lost .lost (.valid (-299) false)
theorem witness_Conversion_partial : quiet (partialWaits [viewsOf 5] convertingTwo convertingTwo) = true ∧
    emptyEpochWaits (partialWaits [viewsOf 5] convertingTwo convertingTwo) = false ∧
    (partialWaits [viewsOf 5] convertingTwo convertingTwo).ptb.viewTaken = true ∧ convertingTwo.converting = some 2 ∧
    convertingTwo.converting.isSome = true ∧ convertingTwo.q4.converted = false := by decide
theorem witness_LastConversion_partial :
    quiet (partialWaits [viewsOf 5] convertingTwo convertedTwo) = true ∧
    (partialWaits [viewsOf 5] convertingTwo convertedTwo).eve.readingsEpoch = 5 ∧
    (partialWaits [viewsOf 5] convertingTwo convertedTwo).tch.partialWaiting = true ∧
    (convertingTwo.set 2 (.valid (-320) false)).converting = none ∧
    (partialWaits [⟨5, none, some ⟨5, some 0, []⟩, none⟩] convertingTwo convertedTwo).eve.inputs =
      [⟨5, none, some ⟨5, some 0, []⟩, none⟩] ∧
    (partialWaits [viewsOf 16777215, viewsOf 16777216] convertingFour convertedFour).eve.inputs =
      [viewsOf 16777215, viewsOf 16777216] ∧
    (convertingTwo.set 2 (.invalid .opened)).converting = none ∧ convertedTwo.converting = none ∧
    (convertingTwo.set 2 (.invalid .opened)).q4.converted = false ∧
    1 ≤ (partialWaits [viewsOf 5] (convertingTwo.set 2 (.invalid .opened)) convertedTwo).tch.quarters ∧
    (partialWaits [viewsOf 5] (convertingTwo.set 2 (.invalid .opened)) convertedTwo).tch.quarters < 4 ∧
    (partialWaits [viewsOf 5, viewsOf 6] convertingFour convertedFour).eve.inputs = [viewsOf 5, viewsOf 6] ∧
    (convertingFour.set 4 (.invalid .opened)).q4.converted = true ∧ convertedFour.q4.converted = true ∧
    convertingFour.converting = some 4 := by decide
theorem witness_EpochEnd_last : (atQuarter4 16777215 active).ret.epoch ≤ Config.maxEpoch ∧
    (atQuarter4 16777215 active).dmn.taking = true ∧ (atQuarter4 16777215 active).tch.taking = true ∧
    (atQuarter4 16777215 active).eve.inputs = [] ∧ (atQuarter4 16777215 active).eve.station = .active := by decide
theorem witness_Activation : lastMinute.rqs.service = none ∧ lastMinute.jst.access = .none ∧ lastMinute.jst.queue = [] ∧
    lastMinute.jst.condition = .normal ∧ lastMinute.jst.frozen = false ∧ openSeg lastMinute = none ∧
    planOpen lastMinute = some (0, ⟨1, 0, none⟩) := by decide
theorem witness_OpeningEmpty : openingEmpty State.reset = true ∧ openingEmpty opening = true ∧
    opening.ptb.peers = [] ∧ openingEmpty { opening with ptb := { opening.ptb with peers := [peer 7] } } = false := by
  decide

/-- A kept ACTIVE station whose schedule has stopped, and one whose counter lies below its journal. -/
def overrun : State :=
  let s := start (lastRunStore 16777213) (consignment 0) true .expired false
  { s with ret := { s.ret with schedule := .stopped, epoch := 16777215 } }
theorem witness_Start_stopped : overrun.retValid = true ∧ overrun.cmr.concluded = false ∧
    overrun.ret.countdown = .expired ∧ overrun.ret.expiredStopped = false ∧ overrun.ret.schedule = .stopped ∧
    (scanned overrun).scan = [] ∧ (factsAt overrun).lastCovered = some 16777213 ∧
    overrun.ret.epoch = Config.maxEpoch := by decide
theorem witness_Start_disagrees :
    (start (lastRunStore 9) (consignment 0) true .expired false).retValid = true ∧
    (start (lastRunStore 9) (consignment 0) true .expired false).ret.epoch < 9 + 1 ∧
    (start (lastRunStore 9) (consignment 0) true .expired false).ret.schedule = .running ∧
    (factsAt (start (lastRunStore 9) (consignment 0) true .expired false)).lastCovered = some 9 ∧
    (start blankStore (consignment 1) true .halted false).ret.countdown = .halted ∧
    (start blankStore (consignment 0) true .idle false).ret.countdown = .idle := by decide

def headerOf (alloc : AllocRead) (commit lock : Bool) (p : Protection) (stray : Bool) : Segment :=
  ⟨{ alloc := alloc, commit := commit, protection := p, lock := lock, stray := stray }, []⟩
def targetFields : AllocFields := ⟨7, 5, some (3, 4)⟩
theorem witness_Readings : Segment.erased.reading = .blank ∧
    (headerOf (.failing []) false false .clear false).reading = .invalid ∧
    (headerOf (.fields ⟨7, 5, none⟩) false true .clear false).reading = .journal ⟨7, 5, none⟩ ∧
    (headerOf (.fields ⟨7, 5, none⟩) true false .clear false).reading = .invalid ∧
    (headerOf (.fields targetFields) true true .clear false).reading = .committedTarget targetFields ∧
    (headerOf (.fields targetFields) false false .clear false).reading = .pendingTarget targetFields ∧
    (headerOf (.fields targetFields) false false .part false).reading = .invalid ∧
    (headerOf (.fields ⟨7, 5, some (7, 4)⟩) true false .clear false).reading = .invalid := by decide
theorem witness_ScanVerdict :
    scanVerdict true false [] (headerOf (.failing []) false true .clear false) = (.outOfService, false) ∧
    (scanVerdict true false [] (headerOf (.failing []) false false .clear false)).2 = true ∧
    scanVerdict true true [] (headerOf (.failing []) false false .clear false) = (.invalidKept, false) ∧
    scanVerdict true false [7] (headerOf (.fields ⟨7, 5, none⟩) false true .clear false) = (.retiring, false) ∧
    scanVerdict true false [] (headerOf (.fields ⟨7, 5, none⟩) false false .clear false) = (.full, false) ∧
    scanVerdict false false [] (headerOf (.fields ⟨7, 5, none⟩) false true .clear false) = (.outOfService, false) ∧
    nextSeqOf [headerOf (.fields targetFields) true false .clear false] = 8 ∧ nextSeqOf [.erased] = 1 ∧
    namedSources [headerOf (.fields targetFields) true false .clear false] = [3, 4] := by decide
/-- What an erase left of the allocation fields, the slots erased. -/
def fieldsLeft (alloc : FieldLeft) (slots : List SlotLeft) : EraseLeft := ⟨alloc, false, false, slots⟩
/-- R144: in a concluded part a source that an erase left in part stays RETIRING. -/
theorem test_part_erased_source_retires :
    (let source : Segment := ⟨(headerOf (.fields ⟨7, 5, none⟩) false false .clear false).header, [.one gapEntry]⟩
     ([fieldsLeft .asIs [], fieldsLeft (.broken [8]) [.asIs], fieldsLeft (.broken []) [], fieldsLeft .gone [.asIs]].all
       fun left => source.erasedTo left != .erased &&
         scanVerdict true true [3, 7] (source.erasedTo left) == (.retiring, false)) = true) ∧
    scanVerdict true true [7] (headerOf (.fields targetFields) false false .clear false) = (.retiring, false) ∧
    scanVerdict true true [3] (headerOf (.failing [4]) false false .clear false) = (.invalidKept, false) := by decide
/-- R109: a number in a header that does not pass counts too; the bytes are written from R185's table. -/
theorem test_failing_header_numbers :
    readAlloc [0x00, 0x09, 0x3C, 0x00, 0x00, 0x05, 0x00, 0x0B, 0xFF, 0xFF, 0xFF, 0xFF] = .failing [9, 11, 65535] ∧
    readAlloc [0x00, 0x09, 0x0F, 0x00, 0x00, 0x05, 0x00, 0x0B, 0xFF, 0xFF, 0xFF, 0xFF] = .failing [9] ∧
    nextSeqOf [headerOf (.failing [9, 11, 65535]) false false .clear false,
      headerOf (.fields targetFields) true false .clear false] = 12 ∧
    (scanned { journalled with
      store := journalled.store.set 1 (headerOf (.failing [9]) false false .clear false) }).nextSeq = 10 := by decide
/-- R109, R123: an allocation cut off by a stop leaves the numbers it shows. -/
theorem test_interrupted_allocation_shows :
    (segAt (interruptAccess { left with header := .part [2] } (withAccess (.alloc .rollover 5 ⟨2, 6, none⟩) active)) 5).header.alloc =
      .failing [2] := by decide
def scanRestart : State := { journalled with store := journalled.store.set 1 ⟨.erased, [.void]⟩ }
theorem witness_RestartScans : scanRestart.logic = .stopped ∧ (scanned scanRestart).scan = [1] := by decide

theorem witness_LateRefusal_unproven : (refused .strained strainedRecord).eve.verdict.rank < 2 ∧
    (refused .strained strainedRecord).cmr.markSet 46 = true ∧ (refused .strained strainedRecord).cmr.markSet 47 = false ∧
    (refused .strained strainedRecord).ptb.viewTaken = false := by decide
/-- The close of a conclusion, the array busy. -/
def closingFor (p : Piece) (c : StoreCondition) (m : Memory) (v : Verdict) : State :=
  let s := withService (.conclude 0x1001 [0x99] (.closing ⟨false, false, false⟩))
    (withCondition c (withAccess (.entry 0 1) (withQueue [gapEntry] (withWork [p] active))))
  { s with eve := { s.eve with verdict := v }, cmr := ⟨factoryIdentity, m, .none⟩ }
def afterClose (j : Joined) (m : Memory) (v : Verdict) : Verdict :=
  (computeClose (closingFor (.partialClose j) .normal m v).cmr (closingFor (.partialClose j) .normal m v).eve j).entry.verdict
def hotPart : Joined := { hot with readings := { hot.readings with quarters := 2 } }
theorem witness_PartialClose_concluding :
    (closingFor (.partialClose (joined 0)) .normal (consignment 0) .intact).eve.work = [.partialClose (joined 0)] ∧
    (closingFor (.partialClose (joined 2)) .normal (consignment 0) .intact).rqs.service =
      some (.conclude 0x1001 [0x99] (.closing ⟨false, false, false⟩)) ∧
    (closingFor (.partialClose (joined 2)) .short (consignment 0) .intact).jst.condition = .short ∧
    afterClose (joined 2) (consignment 0) .intact = .intact ∧
    afterClose (joined 2) unprovenRecord .unproven = .unproven ∧
    afterClose hotPart (consignment 0) .intact = .broken ∧
    (closingFor (.partialClose hotPart) .normal (consignment 0) .intact).cmr.highestMark = .intact := by decide
/-- Third row of R156: the figures of an empty epoch wait, and the views will not come. -/
def rowThree : State :=
  let s := closingFor (.ordinary (joined 4)) .normal (consignment 0) .intact
  { s with
    ptb := { s.ptb with viewTaken := true }
    dmn := { s.dmn with taking := false }
    eve := { s.eve with inputs := [⟨6, some ⟨0, none, none⟩, some ⟨6, some 0, []⟩, none⟩] } }
theorem witness_PartialClose_rowThree : rowThree.eve.work = [.ordinary (joined 4)] ∧ rowThree.chc.schedule = .none ∧
    rowThree.ret.schedule = .running ∧ rowThree.ptb.viewTaken = true ∧ rowThree.dmn.taking = false ∧
    (computeClose rowThree.cmr rowThree.eve (joined 4)).entry.verdict = rowThree.eve.verdict ∧
    rowThree.jst.queue.length < 6 := by decide
/-- R156, third row: the final epoch is the one before. -/
theorem test_row_three : (match exec (.ordinaryClose env) rowThree with
    | .next t => t.rqs.service
    | .fault _ => none
    | .refused _ => none) = some (.conclude 0x1001 [0x99] (.draining (some 5))) := by decide

/-- A mark's program ends, what follows being the given continuation. -/
def continuing (target : Verdict) (mark : Verdict) (next : Continuation) : State :=
  withAccess (.entry 0 1) (withQueue [gapEntry] (withProgram (.verdictMark mark)
    { active with eve := { active.eve with current := some ⟨target, [mark], next⟩ } }))
def closeEnd (q : Nat) : CloseEnd := ⟨5, q, false, 0, none, false⟩
def gapOf (n : Nat) : GapEntry := ⟨n, some 2, .stall, 0, .intact⟩
theorem witness_VerdictMark_continues :
    quiet (continuing .strained .strained (.offerEpoch epochEntry (closeEnd 4))) = true ∧
    (continuing .strained .strained (.offerEpoch epochEntry (closeEnd 4))).eve.inputs = [] ∧
    (continuing .strained .strained (.offerEpoch epochEntry (closeEnd 4))).chc.schedule = .none ∧
    (continuing .strained .strained (.offerEpoch epochEntry (closeEnd 4))).jst.queue.length + 1 ≤ 6 ∧
    (withCondition .short (continuing .strained .strained (.offerEpoch epochEntry (closeEnd 4)))).jst.condition ≠ .normal ∧
    Memory.read (Memory.program (consignment 0) (verdictMarkAddress .strained) 0x00 0) 46 ≠ 0xFF ∧
    Memory.read (Memory.program (consignment 0) (verdictMarkAddress .strained) 0x00 0) 47 = 0xFF ∧
    (continuing .unproven .unproven (.offerGap (gapOf 3) [gapOf 5])).eve.current =
      some ⟨.unproven, [.unproven], .offerGap (gapOf 3) [gapOf 5]⟩ ∧
    (continuing .unproven .unproven (.gaps [])).jst.queue.length + 2 ≤ 6 ∧ 2 ≤ Verdict.unproven.rank ∧
    (withService (.conclude 0x1001 [] (.closing ⟨false, false, false⟩))
      (continuing .strained .strained (.endClose (closeEnd 2)))).eve.current =
        some ⟨.strained, [.strained], .endClose (closeEnd 2)⟩ := by decide

theorem witness_ChillNote_opening : Machine.opening opening = true ∧ delivered env opening = true ∧
    opening.eve.station = .active ∧ Machine.opening friends = false := by decide

/-- A composed fragment waits for a mark's program to end. -/
def lineWaits (asked : Asked) (marks : List Verdict) : State :=
  withService (.statusLine aCursor asked 0 0) (markWaiting marks)
theorem witness_Fragment_line : (lineWaits (.read .active) [.strained]).eve.station = .active ∧
    (lineWaits (.read .active) [.strained, .unproven]).cmr.program = .verdictMark .strained ∧
    quiet { lineWaits (.read .active) [.strained] with rqs := { active.rqs with service := none } } = true ∧
    (walking (.read .active) (some 0) (some 1) (withProgram (.verdictMark .strained) active)).cmr.program ≠ .none ∧
    (withQueue [gapEntry] { active with jst := { active.jst with secondTry := true } }).jst.access = .none := by decide
/-- R165: the status line is read between two byte programs, before the second mark counts. -/
theorem test_line_between_programs :
    (match exec (.verdictMarkProgrammed 0 env) (lineWaits .readOn [.strained, .unproven]) with
      | .next t => (t.cmr.program, t.rqs.service, t.rqs.cursor)
      | .fault _ => (.none, none, none)
      | .refused _ => (.none, none, none)) = (.verdictMark .unproven, none, some aCursor) := by decide

/-- ACTIVE, the array busy with an entry: what a conclusion finds. -/
def found (quarter : Nat) (schedule : Schedule) (q : Quad) : State :=
  let s := withAccess (.entry 0 1) (withQueue [gapEntry] active)
  { s with ret := { s.ret with quarter := quarter, schedule := schedule }, tch := { s.tch with probe := q, air := q } }
def overtaking (r v d : Bool) : Env := { env with overtaken := ⟨r, v, d⟩ }
theorem witness_Conclude_more : quiet (found 2 .running convertingTwo) = true ∧
    (found 2 .running convertingTwo).tch.busy = true ∧ (found 2 .running convertingTwo).ret.quarter ≠ 4 ∧
    Machine.free req (overtaking true false false) (found 4 .running convertedTwo) = true ∧
    (found 4 .running convertedTwo).tch.busy = false ∧ (found 4 .running convertedTwo).eve.readingsEpoch = 5 ∧
    (found 4 .stopped .pending).tch.busy = false ∧ (found 4 .stopped .pending).tch.quarters = 0 ∧
    (found 4 .stopped convertingFour).tch.busy = true ∧ (found 4 .stopped .pending).jst.job = .initial ∧
    (found 4 .running convertedTwo).jst.condition = .normal ∧ (found 4 .running convertedTwo).eve.inputs = [] ∧
    parseConclude [0x01, 0x41, 0x00] = some ((found 2 .running convertingTwo).cmr.reference, []) := by decide
/-- The epoch end comes before some of the requests. -/
def overtakes (late : Overtaken) (inputs : List CloseInputs) : State :=
  let s := withService (.conclude 0x1001 [] (.closing late)) (epochEnd [near 7] none)
  { s with
    tch := { s.tch with taking := late.readings }
    ptb := { s.ptb with viewTaken := !late.view, turnover := some ⟨1, 4, [7]⟩ }
    dmn := { s.dmn with taking := late.door }
    eve := { s.eve with inputs := inputs } }
theorem witness_Conclude_overtaken :
    (overtakes ⟨true, true, true⟩ []).ret.quarter = 4 ∧ (overtakes ⟨true, true, true⟩ []).ret.epoch < 16777215 ∧
    (overtakes ⟨true, true, true⟩ []).jst.access = .entry 0 1 ∧ (overtakes ⟨true, true, true⟩ []).logic = .running ∧
    (overtakes ⟨true, true, true⟩ []).ptb.turnover ≠ none ∧ (overtakes ⟨true, true, true⟩ []).dmn.episode = none ∧
    (overtakes ⟨true, false, false⟩ [viewsOf 5]).eve.inputs =
      [⟨5, none, some ⟨5, some 0, []⟩, some ⟨5, false, false⟩⟩] ∧
    (overtakes ⟨true, true, false⟩ [⟨5, none, none, some ⟨5, false, false⟩⟩]).ptb.viewTaken = false ∧
    (overtakes ⟨false, true, true⟩ [⟨5, some (readings 2), none, none⟩]).tch.taking = false ∧
    (overtakes ⟨true, false, true⟩ [⟨5, none, some ⟨5, none, []⟩, none⟩]).ptb.viewTaken = true ∧
    (overtakes ⟨true, false, true⟩ [⟨5, none, some ⟨5, none, []⟩, none⟩]).dmn.taking = true ∧
    (overtakes ⟨false, true, false⟩ [⟨5, some (readings 2), none, some ⟨5, false, false⟩⟩]).dmn.taking = false ∧
    (overtakes ⟨false, false, true⟩ [⟨5, some (readings 2), some ⟨5, none, []⟩, none⟩]).ptb.viewTaken = true ∧
    (readings 2).quarters ≠ 4 := by decide
/-- R10, R155: readings asked for after the epoch end wait for its last conversion. -/
theorem test_late_request : (match exec (.quarterEnd env) (overtakes ⟨true, false, false⟩ [viewsOf 5]) with
    | .next t => (t.tch.partialWaiting, t.tch.taking, t.eve.inputs.length, t.ret.epoch)
    | .fault _ => (false, true, 0, 0)
    | .refused _ => (false, true, 0, 0)) = (true, false, 1, 6) := by decide
/-- A SHORT store without a BLANK segment, at a step of its job. -/
def shortJob (a : Access) (j : Job) : State :=
  withCondition .short (working a j) |> fun s => { s with
    jst := { s.jst with status := (List.replicate 31 SegStatus.full).set 0 .opened ++ [.full] } }
def shortDropped : State := shortJob .pageRead { Job.initial with phase := .none }
theorem witness_Conclude_short : quiet (shortJob .pageRead (copyOf .copy)) = true ∧
    planOpen (shortJob .pageRead (copyOf .copy)) = none ∧ canFree shortDropped = false ∧
    canFree (shortJob .pageRead { Job.initial with cleanup := some 3 }) = true ∧
    (shortJob (.sourceErase 1) (copyOf .erase1)).jst.access = .sourceErase 1 ∧
    1 < (shortJob (.sourceErase 1) (copyOf .erase1)).store.length ∧
    (planOpen { shortDropped with jst := { shortDropped.jst with status := shortDropped.jst.status.set 1 .blank } }).isSome =
      true ∧ Machine.free req env (shortJob .pageRead (copyOf .copy)) = true := by decide
theorem witness_ProgrammedFigure_absent : ({ figures with epoch := none } : FinalFigures).epoch = none ∧
    (∀ k, k < (({ figures with epoch := none } : FinalFigures).bytes 0).length →
      (Cmr.mk [] (consignment 0) .none).byte (figureAddress 0 + k) = 0xFF) := by decide
theorem witness_EntryProgram_again : (appending gapEntry false).jst.secondTry = false ∧
    openSeg (appending gapEntry false) = some 0 ∧ (appending gapEntry false).jst.frozen = false ∧
    (withService (.fragment aCursor (.read .active) none none) (appending gapEntry false)).rqs.service =
      some (.fragment aCursor (.read .active) none none) ∧
    (segAt (stored (.door doorEntry)) 0).slots.length + 1 + gapEntry.size ≤ 127 ∧
    openSeg (fullTo 126) = some 0 ∧ 127 < (segAt (fullTo 126) 0).slots.length + 1 + gapEntry.size ∧
    (planOpen (fullTo 126)).isSome = true := by decide
/-- R115, R117: the second program comes before a fragment's reads. -/
theorem test_second_try_first : (match exec (.entryProgramEnd false true true { env with readFirst := true })
      (withService (.fragment aCursor (.read .active) none none) (appending gapEntry false)) with
    | .next t => (t.jst.access, t.jst.secondTry, t.rqs.service)
    | .fault _ => (.none, false, none)
    | .refused _ => (.none, false, none)) =
    (.entry 0 2, true, some (.fragment aCursor (.read .active) none none)) := by decide
theorem witness_Allocation_activation :
    (withQueue [.leg legEntry] (allocating .activation)).jst.access = .alloc .activation 5 ⟨2, 5, none⟩ ∧
    (segAt (allocating .activation) 5).slots.length + 1 + (Entry.leg legEntry).size ≤ 127 ∧
    (withQueue [.leg legEntry] (allocating .activation)).rqs.service = none := by decide
/-- A SHORT store at the end of an erase that returns a segment, and one where it does not. -/
def shortErase1 (blanks : List SegStatus) : State :=
  shortJob (.sourceErase 1) (copyOf .erase1) |> fun s => { s with
    jst := { s.jst with status := [.full, .erasing, .retiring] ++ blanks } }
theorem witness_Erases_ordinary : jobAlone (shortErase1 []) = true ∧ (shortErase1 []).jst.condition = .short ∧
    (shortErase1 []).jst.job.second = some (2, 3) ∧ (segAt (shortErase1 []) 2).header.marked = false ∧
    (planOpen { shortErase1 [] with jst := { (shortErase1 []).jst with
      status := (shortErase1 []).jst.status.set 1 .blank } }).isSome = true ∧
    planOpen { shortErase1 [] with jst := { (shortErase1 []).jst with
      status := (shortErase1 []).jst.status.set 1 .outOfService } } = none ∧
    jobAlone (withCondition .short (lowErase 2)) = true ∧ (planOpen (erasedLow 2)).isSome = true ∧
    jobAlone (withCondition .short (planningState 2 2 false)) = true ∧
    planOpen (withCondition .short (planningState 2 2 false)) = none ∧ nextBlank (planningState 2 2 false) = none ∧
    canFree (withJob .initial (planningState 2 2 false)) = false ∧
    jobAlone (withCondition .short (targeting (List.replicate 32 .full))) = true ∧
    planOpen (withCondition .short (targeting (List.replicate 32 .full))) = none ∧
    canFree (withJob .initial (targeting (List.replicate 32 .full))) = false := by decide
/-- R138, R139: the first erase that leaves a BLANK segment ends SHORT, and the second begins. -/
theorem test_short_ends_at_erase1 : (match exec (.sourceEraseEnd left.erase env) (shortErase1 []) with
    | .next t => (t.jst.condition, t.jst.access)
    | .fault _ => (.short, .none)
    | .refused _ => (.short, .none)) = (.normal, .sourceErase 2) := by decide
theorem witness_Queries_phases : (working .pageRead { Job.initial with phase := .planning }).jst.job.stopped = false ∧
    reportedPhase (working .none { Job.initial with cleanup := some 3 }) = .cleanup ∧
    reportedPhase (working .none { Job.initial with stopped := true }) = .stopped ∧
    reportedState spoilt = .blankSpoilt ∧ reportedFull concluded = false := by decide
/-- The worked reading of chapter 10: LEG 6 stands ahead of EPOCH 4,200. -/
def dock : List Entry := [.epoch { epochEntry with epoch := 4199 }, .leg ⟨6, 4201, [1, 2, 3]⟩,
  .epoch { epochEntry with epoch := 4200 }, .epoch { epochEntry with epoch := 4201 }]
theorem witness_ReadBases : baseEpoch dock (.leg 6) = some 4201 ∧ baseEpoch dock (.leg 7) = none ∧
    startEpoch dock ⟨.leg 6, 0, 1, none⟩ = some 4201 ∧ startEpoch dock ⟨.leg 6, 0, 1, some 4200⟩ = none ∧
    startEpoch dock ⟨.absolute, 16777216, 1, none⟩ = none ∧
    baseEpoch (.checkpoint checkpointEntry1 :: dock) (.checkpoint 1) = some 5 ∧
    walkStart dock ⟨0x1001, 4201, 1, none, .unanchored⟩ = 1 ∧
    walkStart dock ⟨0x1001, 4201, 1, none, .anchored 4200 1⟩ = 2 := by decide
theorem witness_VerdictMark_unawaited : recordAwaited (markWaiting [.strained]) = false ∧
    recordAwaited (lineWaits (.read .active) [.strained]) = true := by decide
theorem witness_Close_clamped :
    (computeClose active.cmr active.eve { joined 4 with readings := ⟨4, some ⟨-300, true⟩, none⟩ }).entry.flags.clamped =
      true ∧
    (computeClose active.cmr active.eve { joined 4 with readings := ⟨4, some ⟨-300, false⟩, none⟩ }).entry.flags.clamped =
      false := by decide
theorem witness_Refused_readOn : Machine.free req env State.reset = true ∧ quiet State.reset = true ∧
    State.reset.eve.station = .blank := by decide

/-- A checkpoint in a SHORT store. -/
def shortTwo (a : Access) (j : Job) : State :=
  withCondition .short (jobbed a j) |> fun s => { s with
    jst := { s.jst with status := .full :: .opened :: .outOfService :: .targetPending :: List.replicate 28 .outOfService } }
theorem witness_Checkpoint_short : (shortTwo .none .initial).jst.condition ≠ .journalFull ∧
    Machine.free req env (shortTwo .pageRead (copyOf .copy)) = true ∧ quiet (shortTwo .none .initial) = true ∧
    (shortTwo .pageRead (copyOf .copy)).jst.condition = .short ∧
    nextProtect (shortTwo .pageRead (copyOf .copy)) [] = some 0 ∧
    planOpen (shortTwo .pageRead (copyOf .copy)) = none ∧ canFree (shortTwo .pageRead (copyOf .copy)) = true ∧
    canFree (shortTwo .none .initial) = false := by decide
/-- R120, R143, R149: a SHORT store takes a checkpoint, and stays SHORT while a cleanup target is left to erase. -/
theorem test_checkpoint_short :
    let after (s : State) := match exec (.checkpoint req [] left env) s with
      | .next t => (t.jst.condition, t.jst.job.cleanup, t.rqs.checkpoints)
      | .fault _ => (.normal, none, 0)
      | .refused _ => (.normal, none, 0)
    after (shortTwo .pageProgram (copyOf .copy)) = (.short, some 3, 1) ∧
      after (shortTwo .pageRead { Job.initial with phase := .planning }) = (.journalFull, none, 1) := by decide

/-- A conclusion waits for a page read. -/
def stopping (s : State) : State := withService (.conclude 0x1001 [] .stopping) s
theorem witness_Conclude_pageRead :
    (stopping (jobbed .pageRead (copyOf .copy))).rqs.service = some (.conclude 0x1001 [] .stopping) ∧
    (stopping (jobbed .pageRead .initial)).jst.job.phase = .none ∧
    (stopping (jobbed .pageRead { Job.initial with phase := .planning })).jst.job.suspended = none ∧
    (stopping (jobbed .pageRead (copyOf .copy))).eve.inputs = [] ∧
    (stopping (jobbed .pageRead (copyOf .copy))).tch.quarters < 4 ∧
    (stopping (jobbed .pageRead (copyOf .copy))).ret.quarter ≠ 4 ∧
    (stopping (jobbed .pageRead (copyOf .copy))).jst.condition ≠ .short ∧
    (stopping (shortJob .pageRead (copyOf .copy))).jst.condition = .short ∧
    planOpen (stopping (shortJob .pageRead (copyOf .copy))) = none ∧
    canFree (stopping (shortJob .pageRead .initial)) = false ∧
    canFree (stopping (shortJob .pageRead { Job.initial with cleanup := some 3 })) = true := by decide
/-- R144, R155: the conclusion waits for the page read, whose pair is not chosen; the readings are asked for then. -/
theorem test_conclude_waits_for_read :
    let planning := withJob { Job.initial with phase := .planning, reading := true, pagesRead := 31 } twoLive
    (match exec (.conclude req [0x01, 0x41, 0x00] left env) (withAccess .pageRead planning) with
      | .next t => (t.rqs.service, t.tch.taking, t.jst.access)
      | .fault _ => (none, false, .none)
      | .refused _ => (none, false, .none)) = (some (.conclude 0x1001 [] .stopping), true, .pageRead) ∧
    (match exec (.pageReadEnd true env) (stopping (withAccess .pageRead planning)) with
      | .next t => (t.rqs.service, t.tch.taking, t.jst.access, t.jst.job)
      | .fault _ => (none, true, .pageRead, planning.jst.job)
      | .refused _ => (none, true, .pageRead, planning.jst.job)) =
      (some (.conclude 0x1001 [] (.closing ⟨false, false, false⟩)), false, .none, .initial) := by decide

/-- A checkpoint whose marks are done waits for a mark of the evidence engine. -/
def composing (a : Access) (marks : List Verdict) (queue : List Entry) : State :=
  withAccess a (withService (.checkpoint 0x1001 1 5 (.composing 2 0)) (withQueue queue (markWaiting marks)))
theorem witness_ProtectionMarks_composing :
    (composing (.alloc .rollover 5 ⟨2, 6, none⟩) [.strained] [gapEntry]).jst.access = .alloc .rollover 5 ⟨2, 6, none⟩ ∧
    (composing (.alloc .rollover 5 ⟨2, 6, none⟩) [.strained] [gapEntry]).cmr.program ≠ .none ∧
    (composing (.alloc .rollover 5 ⟨2, 6, none⟩) [.strained] [gapEntry]).rqs.service =
      some (.checkpoint 0x1001 1 5 (.composing 2 0)) ∧
    5 < (composing (.alloc .rollover 5 ⟨2, 6, none⟩) [.strained] [gapEntry]).jst.status.length ∧
    openSeg (composing (.alloc .rollover 5 ⟨2, 6, none⟩) [.strained] [gapEntry]) = some 0 ∧
    (∀ q < 32, statusAt (composing .none [.strained] []) q = .opened → q = 0) ∧
    (segAt (composing (.alloc .rollover 5 ⟨2, 6, none⟩) [.strained] [gapEntry]) 5).slots.length + 1 + gapEntry.size ≤ 127 ∧
    (composing (.entry 0 1) [.strained, .unproven] [gapEntry]).eve.current =
      some ⟨.unproven, [.strained, .unproven], .done⟩ ∧
    (composing (.entry 0 1) [.strained] [gapEntry]).jst.queue.length < 6 ∧
    (withCondition .short (composing (.entry 0 1) [.strained] [gapEntry])).jst.condition ≠ .normal := by decide
/-- R150, R151: a segment that a rollover makes OPEN in step 4 gets no protection mark. -/
theorem test_step4_marks_nothing :
    (match exec (.allocationProgramEnd .whole env) (composing (.alloc .rollover 5 ⟨2, 6, none⟩) [.strained] [gapEntry]) with
      | .next t => (t.rqs.service, t.jst.access, (segAt t 5).header.protection)
      | .fault _ => (none, .none, .part)
      | .refused _ => (none, .none, .part)) =
    (some (.checkpoint 0x1001 1 5 (.composing 2 0)), .entry 5 1, .clear) := by decide
/-- R152, R165: the entry is composed between two byte programs, with the mark that has just been set. -/
theorem test_step4_between_programs :
    (match exec (.verdictMarkProgrammed 0 env) (composing (.entry 0 1) [.strained, .unproven] [gapEntry]) with
      | .next t => (t.cmr.program, t.rqs.service, t.jst.queue.length)
      | .fault _ => (.none, none, 0)
      | .refused _ => (.none, none, 0)) =
    (.verdictMark .unproven, some (.checkpoint 0x1001 1 5 (.entry .strained 0 2 0)), 2) := by decide
theorem witness_Frames_lost : (stopped active).logic ≠ .running ∧ (onAir active).chc.transmitter = .onAir (.note note) ∧
    { env with clipped := true }.clipped = true ∧ delivered env (onAir active) = false ∧
    State.reset.eve.station = .blank ∧ delivered env State.reset = true ∧ parseNote [] = none := by decide
/-- R34, R35: a sound note changes nothing in BLANK, nor does a request that arrives while the station is on air. -/
theorem test_frames_lost :
    let same (s : State) (o : Host.Outcome State Fault Refusal) : Bool := match o with
      | .next t => t = s
      | .fault _ => false
      | .refused _ => false
    same State.reset (exec (.chillNote 7 (-50) [0x03, 0x00, 0x00, 0x00, 0x00, 0x00] env) State.reset) = true ∧
      same (onAir State.reset) (exec (.queryStatus req [0x01] env) (onAir State.reset)) = true := by decide
theorem witness_Conclude_earlier : (∀ c ∈ [viewsOf 4], c.epoch < (found 2 .running convertingTwo).ret.epoch) ∧
    (found 2 .running convertingTwo).ret.epoch ≤ Config.maxEpoch := by decide

end Sys2Proof.Tests
end

/-! The epoch reading of a channel (R8). The rounded-up quotient is the least integer whose product with the divisor
reaches the dividend; each arithmetic clause about a reading follows from that one equivalence. -/

namespace Sys2Proof.Machine

/-! ### The quotient rounded up -/

theorem ceilDiv_le_iff {n : Nat} (hn : 0 < n) (a k : Int) : ceilDiv a n ≤ k ↔ a ≤ k * n := by
  have hn' : (0 : Int) < n := by exact_mod_cast hn
  calc ceilDiv a n ≤ k ↔ -k ≤ -a / n := neg_le
    _ ↔ -k * n ≤ -a := Int.le_ediv_iff_mul_le hn'
    _ ↔ a ≤ k * n := by rw [neg_mul, neg_le_neg_iff]

theorem lt_ceilDiv_iff {n : Nat} (hn : 0 < n) (a k : Int) : k < ceilDiv a n ↔ k * n < a := by
  rw [← not_le, ceilDiv_le_iff hn, not_le]

theorem le_ceilDiv_mul {n : Nat} (hn : 0 < n) (a : Int) : a ≤ ceilDiv a n * n :=
  (ceilDiv_le_iff hn a _).mp le_rfl

theorem pred_ceilDiv_mul_lt {n : Nat} (hn : 0 < n) (a : Int) : (ceilDiv a n - 1) * n < a :=
  (lt_ceilDiv_iff hn a _).mp (sub_one_lt _)

theorem le_ceilDiv_of_mul_le {n : Nat} (hn : 0 < n) {a k : Int} (h : k * n ≤ a) : k ≤ ceilDiv a n :=
  le_of_mul_le_mul_right (h.trans (le_ceilDiv_mul hn a)) (by exact_mod_cast hn)

/-- The mean of values in a range, rounded up, lies in that range. -/
theorem ceilDiv_sum_mem_range {xs : List Int} {lo hi : Int} (hne : 0 < xs.length)
    (hxs : ∀ x ∈ xs, lo ≤ x ∧ x ≤ hi) :
    lo ≤ ceilDiv xs.sum xs.length ∧ ceilDiv xs.sum xs.length ≤ hi := by
  have hlo : lo * xs.length ≤ xs.sum := by
    simpa [mul_comm] using List.card_nsmul_le_sum xs lo fun x hx => (hxs x hx).1
  have hhi : xs.sum ≤ hi * xs.length := by
    simpa [mul_comm] using List.sum_le_card_nsmul xs hi fun x hx => (hxs x hx).2
  exact ⟨le_ceilDiv_of_mul_le hne hlo, (ceilDiv_le_iff hne _ _).mpr hhi⟩

/-! ### The reading of a channel -/

theorem Quad.reading_eq_none {q : Quad} (h : q.valids.length < 2) : q.reading = none :=
  if_neg (by omega)

theorem Quad.reading_eq_some {q : Quad} (h : 2 ≤ q.valids.length) :
    q.reading = some ⟨ceilDiv (q.valids.map Prod.fst).sum q.valids.length, q.valids.any Prod.snd⟩ := by
  rw [List.sum_eq_foldl]
  exact if_pos h

/-- Settles O14: the reading is the rounded-up quotient of `Quad.reading_eq_some`, and the laws of `ceilDiv` bound it. -/
theorem epochReadingIsTheMeanRoundedUp : Obligations.EpochReadingIsTheMeanRoundedUp := by
  intro q
  refine ⟨Quad.reading_eq_none, fun two => ⟨_, Quad.reading_eq_some two, ?_⟩⟩
  have hn : 0 < q.valids.length := by omega
  refine ⟨pred_ceilDiv_mul_lt hn _, le_ceilDiv_mul hn _, ?clamped, fun inRange => ?range⟩
  case clamped => simp [List.any_eq_true]
  case range =>
    have hvalues : ∀ x ∈ q.valids.map Prod.fst, -640 ≤ x ∧ x ≤ 960 := List.forall_mem_map.mpr inRange
    simpa using ceilDiv_sum_mem_range (by simpa using hn) hvalues

end Sys2Proof.Machine


/-! The queue of commands: what one step does when a command waits. -/

namespace Sys2Proof.Machine

theorem step_of_pending_cons {c : Instr} {rest : List Instr} {s : State} (front : s.pending = c :: rest) :
    step s = exec c (s.setPending rest) := by
  simp only [step, front]

/-- Settles O1: the nonempty case of `step`, with `State.setPending` written out as the record update it is. -/
theorem stepRunsFrontCommand : Obligations.StepRunsFrontCommand := by
  intro c rest s front
  calc step s = exec c (s.setPending rest) := step_of_pending_cons front
    _ = exec c { s with pending := rest } := by rw [State.setPending]

end Sys2Proof.Machine


/-! The AIR byte of a chill note (R44, R36). -/

namespace Sys2Proof.Machine

/-! ### A value brought into a range -/

theorem clampInt_of_lt {lo hi x : Int} (h : x < lo) : clampInt lo hi x = lo := if_pos h

theorem clampInt_of_gt {lo hi x : Int} (range : lo ≤ hi) (h : hi < x) : clampInt lo hi x = hi :=
  (if_neg (range.trans h.le).not_gt).trans (if_pos h)

theorem clampInt_of_mem {lo hi x : Int} (hlo : lo ≤ x) (hhi : x ≤ hi) : clampInt lo hi x = x :=
  (if_neg hlo.not_gt).trans (if_neg hhi.not_gt)

/-! ### The byte and the reading it goes back to -/

theorem airByte_eq_clampInt {r q : Int} (hlo : 4 * q ≤ r + 2) (hhi : r + 2 < 4 * q + 4) :
    airByte r = clampInt (-128) 127 q := by
  have quotient : (r + 2) / 4 = q := by omega
  rw [airByte, quotient]

theorem Note.reading_of_air {n : Note} {b : Int} (h : n.air = some b) :
    n.reading = some ⟨b * 4, b == -128 || b == 127⟩ := by
  rw [Note.reading, h, Option.map_some]

/-- Settles O38: R44's byte is the quotient clamped (`airByte_eq_clampInt`), so each clause is a law of `clampInt`; the
way back is `Note.reading_of_air`. -/
theorem airByteRounding : Obligations.AirByteRounding := by
  refine ⟨fun r q hlo hhi => ?byte, fun n b air => ⟨_, Note.reading_of_air air, rfl⟩⟩
  case byte =>
    rw [airByte_eq_clampInt hlo hhi]
    exact ⟨clampInt_of_lt, clampInt_of_gt (by decide), clampInt_of_mem⟩

end Sys2Proof.Machine


/-! A listening epoch end (R18, R58). -/

namespace Sys2Proof.Machine

/-! ### What the end of a command asks of a state

`running` reads the logic, and `quiet` the array, the journal, the request service and the commission record: neither
reads the retention domain or the peer table. -/

@[simp] theorem quiet_setRet (s : State) (x : Retention) : quiet (s.setRet x) = quiet s := rfl

@[simp] theorem quiet_setPtb (s : State) (x : Ptb) : quiet (s.setPtb x) = quiet s := rfl

@[simp] theorem quiet_listeningClose (s : State) : quiet (listeningClose s) = quiet s := quiet_setPtb s _

@[simp] theorem running_setRet (s : State) (x : Retention) : running (s.setRet x) = running s := rfl

@[simp] theorem running_listeningClose (s : State) : running (listeningClose s) = running s := rfl

/-! ### The quarter end -/

theorem Retention.quarterEnd_listening_last {r : Retention} (listening : r.schedule = .listening)
    (last : r.quarter = 4) : r.quarterEnd = { r with position := 0, quarter := 1 } := by
  simp [Retention.quarterEnd, listening, last]

theorem stopStall_of_ne_stopped {s : State} (h : s.ret.schedule ≠ .stopped) : stopStall s = s := if_neg h

theorem runningQuarterEnd_listening_last (env : Env) {s : State} (listening : s.ret.schedule = .listening)
    (last : s.ret.quarter = 4) (dormant : s.eve.station = .dormant) :
    runningQuarterEnd env s = listeningClose (s.setRet { s.ret with position := 0, quarter := 1 }) := by
  have stall : stopStall (s.setRet s.ret.quarterEnd) = s.setRet { s.ret with position := 0, quarter := 1 } := by
    rw [Retention.quarterEnd_listening_last listening last]
    exact stopStall_of_ne_stopped (by simp [listening])
  simp [runningQuarterEnd, stall, listening, last, dormant]

theorem exec_quarterEnd (env : Env) (s : State) : exec (.quarterEnd env) s = execQuarterEnd env s := rfl

theorem exec_quarterEnd_listening (env : Env) {s : State} (hr : running s = true)
    (listening : s.ret.schedule = .listening) :
    exec (.quarterEnd env) s = .next (settle env (runningQuarterEnd env s)) := by
  simp [exec_quarterEnd, execQuarterEnd, done, hr, listening]

/-- Settles O19: the quarter end is `listeningClose` over the new quarter (`runningQuarterEnd_listening_last`); the state
stays quiet through both, so the end of the command is the transmitter's alone (`settle_quiet`). -/
theorem listeningEpochEndOnlyShifts : Obligations.ListeningEpochEndOnlyShifts := by
  intro env s logic rests listening last dormant
  have hr : running s = true := by simp [running, logic]
  calc exec (.quarterEnd env) s
      = .next (settle env (runningQuarterEnd env s)) := exec_quarterEnd_listening env hr listening
    _ = .next (settle env (listeningClose (s.setRet { s.ret with position := 0, quarter := 1 }))) := by
      rw [runningQuarterEnd_listening_last env listening last dormant]
    _ = .next (kick env (listeningClose (s.setRet { s.ret with position := 0, quarter := 1 }))) := by
      rw [settle_quiet env (by simpa using hr) (by simpa using rests)]

end Sys2Proof.Machine


/-! The grade of an epoch and its CLAMPED flag (R89, R90). -/

namespace Sys2Proof.Machine

/-! ### The evidence by the source it rests on -/

section
variable {r : EpochReadings} {suspect : Bool} {items : List Item}

theorem evidence_of_probe {p : Reading} (probe : r.probe = some p) :
    evidence r suspect items = ⟨.probe, some p.value, p.clamped⟩ := by
  simp only [evidence, probe]

theorem evidence_of_air {a : Reading} (noProbe : r.probe = none) (sound : suspect = false) (air : r.air = some a) :
    evidence r suspect items = ⟨.air, some a.value, a.clamped⟩ := by
  simp [evidence, noProbe, sound, air]

theorem evidence_of_peer {m : Int × Bool} (noProbe : r.probe = none) (noAir : suspect = true ∨ r.air = none)
    (peer : median items = some m) : evidence r suspect items = ⟨.peer, some m.1, m.2⟩ := by
  obtain unsound | absent := noAir
  · simp [evidence, noProbe, unsound, peer]
  · simp [evidence, noProbe, absent, peer]

theorem evidence_of_none (noProbe : r.probe = none) (noAir : suspect = true ∨ r.air = none)
    (noPeer : median items = none) : evidence r suspect items = ⟨.none, none, false⟩ := by
  obtain unsound | absent := noAir
  · simp [evidence, noProbe, unsound, noPeer]
  · simp [evidence, noProbe, absent, noPeer]

end

/-- Every evidence is one of R89's four grades, each with the guard that makes it the first case that holds. -/
theorem evidence_cases (r : EpochReadings) (suspect : Bool) (items : List Item) :
    (∃ p, r.probe = some p ∧ evidence r suspect items = ⟨.probe, some p.value, p.clamped⟩) ∨
    (∃ a, r.probe = none ∧ suspect = false ∧ r.air = some a ∧
      evidence r suspect items = ⟨.air, some a.value, a.clamped⟩) ∨
    (∃ m, r.probe = none ∧ (suspect = true ∨ r.air = none) ∧ median items = some m ∧
      evidence r suspect items = ⟨.peer, some m.1, m.2⟩) ∨
    (r.probe = none ∧ (suspect = true ∨ r.air = none) ∧ median items = none ∧
      evidence r suspect items = ⟨.none, none, false⟩) := by
  obtain noProbe | ⟨p, probe⟩ := r.probe.eq_none_or_eq_some
  · by_cases noAir : suspect = true ∨ r.air = none
    · obtain noPeer | ⟨m, peer⟩ := (median items).eq_none_or_eq_some
      · exact .inr (.inr (.inr ⟨noProbe, noAir, noPeer, evidence_of_none noProbe noAir noPeer⟩))
      · exact .inr (.inr (.inl ⟨m, noProbe, noAir, peer, evidence_of_peer noProbe noAir peer⟩))
    · obtain ⟨notSuspect, usable⟩ := not_or.mp noAir
      have sound : suspect = false := Bool.eq_false_iff.mpr notSuspect
      obtain ⟨a, air⟩ := Option.ne_none_iff_exists'.mp usable
      exact .inr (.inl ⟨a, noProbe, sound, air, evidence_of_air noProbe sound air⟩)
  · exact .inl ⟨p, probe, evidence_of_probe probe⟩

/-! ### The CLAMPED flag -/

/-- Settles O26: in each case of `evidence_cases` the grade leaves one of R90's three clauses, and that clause reads the
flag of the source itself; with grade NONE it leaves none of them. -/
theorem clampedFlagRule : Obligations.ClampedFlagRule := by
  intro r suspect items
  obtain ⟨p, probe, graded⟩ | ⟨a, -, -, air, graded⟩ | ⟨⟨v, sat⟩, -, -, peer, graded⟩ | ⟨-, -, -, graded⟩ :=
    evidence_cases r suspect items
  · simp [graded, probe]
  · simp [graded, air]
  · simp [graded, peer]
  · simp [graded]

end Sys2Proof.Machine


/-! A concluded station, and erases of marked segments (R122). -/

namespace Sys2Proof.Machine

/-- A running station whose journal store has a page program suspended while its next OPEN segment is wanted as a TARGET.
`erasesSafe` does not read `wantOpen`, so it does not exclude the state. -/
def suspendedTargetWanted : State :=
  { State.reset with
    store := []
    ret := { Retention.initial with schedule := .listening }
    jst := { Jst.initial with
      status := [.blank]
      wantOpen := some .target
      job := { Job.initial with suspended := some .page } }
    pending := [.quarterEnd default] }

theorem erasesSafe_suspendedTargetWanted : erasesSafe suspendedTargetWanted = true := by decide

/-- At the end of the quarter end `openStage` begins the wanted allocation: a TARGET's, beside a suspended step. -/
theorem step_suspendedTargetWanted : ∃ t, step suspendedTargetWanted = .next t ∧ erasesSafe t = false :=
  ⟨_, rfl, by decide⟩

/-- Refutes O7: its second clause quantifies over every state that meets `erasesSafe`, `suspendedTargetWanted` among them,
where a step begins the allocation of a TARGET while a page program is suspended, which `accessSafe` forbids. -/
theorem not_concludedStationIsFinal : ¬ Obligations.ConcludedStationIsFinal := by
  rintro ⟨-, everyStepKeeps⟩
  obtain ⟨t, next, unsafeNow⟩ := step_suspendedTargetWanted
  have safeStill := everyStepKeeps _ t erasesSafe_suspendedTargetWanted next
  simp [unsafeNow] at safeStill

end Sys2Proof.Machine


/-! What every operation below a command follows: it keeps the logic, the waiting commands and the commission record's
bytes, and each invariant of Safety.lean that one operation can speak of alone. A command is then a chain of operations,
each cited by its `Follows` lemma. -/

namespace Sys2Proof.Machine

/-! ### The verdicts a state carries, without the piece under way (R95, R96) -/

/-- `verdictsBacked` but for `waitingBacked`, which holds between commands alone. -/
def AccountsBacked (s : State) : Prop :=
  backed s s.eve.verdict = true ∧ backed s s.eve.lastVerdict = true ∧
  (∀ p ∈ s.eve.work, pieceBacked s p = true) ∧ (∀ e ∈ s.jst.queue, entryBacked s e = true) ∧
  (∀ g ∈ s.store, ∀ x ∈ g.slots, slotBacked s x = true) ∧
  (s.cmr.figureWhole 1 = true → backed s (Verdict.ofCode (s.cmr.number 54 1)) = true) ∧
  serviceBacked s = true ∧ programBacked s = true

theorem verdictsBacked_iff (s : State) :
    verdictsBacked s = true ↔ AccountsBacked s ∧ (s.logic = .running → waitingBacked s = true) := by
  simp only [verdictsBacked, AccountsBacked, Bool.and_eq_true, Bool.or_eq_true, List.all_eq_true, bne_iff_ne, ne_eq,
    Bool.not_eq_true', ← Bool.not_eq_true (s.cmr.figureWhole 1), ← imp_iff_not_or]
  tauto

@[simp] theorem backed_intact (s : State) : backed s .intact = true := by simp [backed, Verdict.rank]

theorem backed_of_rank_le {s : State} {v w : Verdict} (h : v.rank ≤ w.rank) (hw : backed s w = true) :
    backed s v = true := by
  simp only [backed, decide_eq_true_eq] at *
  omega

theorem backed_highestMark (s : State) : backed s s.cmr.highestMark = true := by simp [backed]

theorem Verdict.rank_higher (a b : Verdict) : (a.higher b).rank = max a.rank b.rank := by
  unfold Verdict.higher
  split <;> omega

theorem backed_higher {s : State} {v w : Verdict} (hv : backed s v = true) (hw : backed s w = true) :
    backed s (v.higher w) = true := by
  simp only [backed, decide_eq_true_eq, Verdict.rank_higher] at *
  omega

theorem AccountsBacked.committed {s : State} (h : AccountsBacked s) : backed s (committedVerdict s) = true :=
  backed_higher h.2.1 (backed_highestMark s)

/-! Entries other than coverage entries carry none of the account. -/

@[simp] theorem entryBacked_leg (s : State) (e : LegEntry) : entryBacked s (.leg e) = true := backed_intact s
@[simp] theorem entryBacked_door (s : State) (e : DoorEntry) : entryBacked s (.door e) = true := backed_intact s
@[simp] theorem entryBacked_checkpoint (s : State) (e : CheckpointEntry) : entryBacked s (.checkpoint e) = true :=
  backed_intact s
@[simp] theorem entryBacked_conclude (s : State) (e : ConcludeEntry) : entryBacked s (.conclude e) = true :=
  backed_intact s
@[simp] theorem entryBacked_epoch (s : State) (e : EpochEntry) : entryBacked s (.epoch e) = backed s e.verdict := rfl
@[simp] theorem entryBacked_gap (s : State) (e : GapEntry) : entryBacked s (.gap e) = backed s e.verdict := rfl
@[simp] theorem entryBacked_run (s : State) (e : RunEntry) : entryBacked s (.run e) = backed s e.verdict := rfl

/-- A conclusion programs its figures. -/
def programmingFigures (s : State) : Bool :=
  match s.rqs.service with
  | some (.conclude _ _ (.figure _ _)) => true
  | _ => false

/-- A program of another field than a figure asks nothing of the service. -/
theorem programBacked_setService {s : State} (x : Option Service)
    (h : programmingFigures s = false ∨ s.cmr.program = .none)
    (hp : programBacked s = true) : programBacked (setService x s) = true := by
  have notFigure : ∀ i a bs, s.cmr.program ≠ .figure i a bs := by
    intro i a bs hf
    simp only [programBacked, hf] at hp
    unfold programmingFigures at h
    split at hp <;> simp_all
  have hcmr : (setService x s).cmr = s.cmr := rfl
  unfold programBacked at hp ⊢
  rw [hcmr]
  split at hp <;> simp_all

/-! ### OPEN segments (R111) -/

/-- How many segments are OPEN. -/
def openCount (s : State) : Nat := ((List.range Config.segments).filter fun i => statusAt s i == .opened).length

theorem oneOpen_iff (s : State) : oneOpen s = true ↔ openCount s ≤ 1 ∧ (s.logic = .startUp → openCount s = 0) := by
  simp only [oneOpen, openCount, Bool.and_eq_true, Bool.or_eq_true, decide_eq_true_eq, bne_iff_ne, ne_eq, beq_iff_eq,
    ← imp_iff_not_or]

theorem openCount_le_of_imp {s t : State}
    (h : ∀ i < Config.segments, statusAt t i = .opened → statusAt s i = .opened) : openCount t ≤ openCount s := by
  unfold openCount
  rw [← List.countP_eq_length_filter, ← List.countP_eq_length_filter]
  exact List.countP_mono_left fun i hi => by simpa using h i (List.mem_range.mp hi)

theorem oneOpen_of_openCount_le {s t : State} (hl : t.logic = s.logic) (hc : openCount t ≤ openCount s)
    (h : oneOpen s = true) : oneOpen t = true := by
  rw [oneOpen_iff] at *
  rw [hl]
  exact ⟨by omega, fun hs => by have := h.2 hs; omega⟩

theorem statusAt_putStatus (i j : Nat) (x : SegStatus) (s : State) :
    statusAt (putStatus i x s) j = if i = j ∧ j < s.jst.status.length then x else statusAt s j := by
  simp only [statusAt, putStatus, State.setJst_jst, List.getD_eq_getElem?_getD, List.getElem?_set]
  by_cases same : i = j
  · subst same
    by_cases inside : i < s.jst.status.length <;> simp [inside]
  · simp [same]

theorem openCount_putStatus_le {i : Nat} {x : SegStatus} (s : State) (h : x ≠ .opened) :
    openCount (putStatus i x s) ≤ openCount s := by
  refine openCount_le_of_imp fun j _ hj => ?_
  rw [statusAt_putStatus] at hj
  split at hj
  · exact absurd hj h
  · exact hj

theorem length_le_one_of_forall_eq {α : Type} {l : List α} {a : α} (nodup : l.Nodup) (h : ∀ x ∈ l, x = a) :
    l.length ≤ 1 := by
  match l, nodup, h with
  | [], _, _ => simp
  | [_], _, _ => simp
  | x :: y :: _, nodup, h => simp_all

theorem openCount_le_one_of_forall_eq {s : State} {k : Nat}
    (h : ∀ i < Config.segments, statusAt s i = .opened → i = k) : openCount s ≤ 1 :=
  length_le_one_of_forall_eq (List.nodup_range.filter _) fun i hi => by
    simp only [List.mem_filter, List.mem_range, beq_iff_eq] at hi
    exact h i hi.1 hi.2

theorem opened_unique {s : State} (h : openCount s ≤ 1) {i j : Nat} (hi : i < Config.segments)
    (hj : j < Config.segments) (oi : statusAt s i = .opened) (oj : statusAt s j = .opened) : i = j := by
  have mi : i ∈ (List.range Config.segments).filter fun i => statusAt s i == .opened := by simp [hi, oi]
  have mj : j ∈ (List.range Config.segments).filter fun i => statusAt s i == .opened := by simp [hj, oj]
  unfold openCount at h
  match hl : (List.range Config.segments).filter fun i => statusAt s i == .opened with
  | [] => simp [hl] at mi
  | [_] => simp_all
  | _ :: _ :: _ => simp [hl] at h

theorem openSeg_some {s : State} {i : Nat} (h : openSeg s = some i) :
    i < Config.segments ∧ statusAt s i = .opened := by
  have hm := List.mem_of_find?_eq_some h
  have hp := List.find?_some h
  exact ⟨List.mem_range.mp hm, by simpa using hp⟩

theorem openSeg_none {s : State} (h : openSeg s = none) {i : Nat} (hi : i < Config.segments) :
    statusAt s i ≠ .opened := by
  have := List.find?_eq_none.mp h i (List.mem_range.mpr hi)
  simpa using this

/-! ### The relation -/

/-- What an operation below a command keeps. -/
structure Follows (s t : State) : Prop where
  logic : t.logic = s.logic
  pending : t.pending = s.pending
  identity : t.cmr.identity = s.cmr.identity
  consignment : t.cmr.consignment = s.cmr.consignment
  bounded : bounded s = true → bounded t = true
  clock : clockOk s = true → clockOk t = true
  oneOpen : oneOpen s = true → oneOpen t = true
  opening : openingEmpty s = true → openingEmpty t = true
  accounts : AccountsBacked s → AccountsBacked t
  waiting : waitingBacked s = true → waitingBacked t = true

theorem Follows.refl (s : State) : Follows s s := ⟨rfl, rfl, rfl, rfl, id, id, id, id, id, id⟩

theorem Follows.trans {s t u : State} (a : Follows s t) (b : Follows t u) : Follows s u where
  logic := b.logic.trans a.logic
  pending := b.pending.trans a.pending
  identity := b.identity.trans a.identity
  consignment := b.consignment.trans a.consignment
  bounded := b.bounded ∘ a.bounded
  clock := b.clock ∘ a.clock
  oneOpen := b.oneOpen ∘ a.oneOpen
  opening := b.opening ∘ a.opening
  accounts := b.accounts ∘ a.accounts
  waiting := b.waiting ∘ a.waiting

theorem Follows.ite {s t u : State} {p : Prop} [Decidable p] (a : Follows s t) (b : Follows s u) :
    Follows s (if p then t else u) := by
  split
  · exact a
  · exact b

theorem Follows.foldl {α : Type} {f : State → α → State} (h : ∀ s a, Follows s (f s a)) (as : List α) :
    ∀ s, Follows s (as.foldl f s) := by
  induction as with
  | nil => exact .refl
  | cons a as ih => exact fun s => (h s a).trans (ih _)

/-! ### Updates of one block -/

theorem Follows.setTmb (s : State) (x : Tmb) : Follows s (s.setTmb x) := ⟨rfl, rfl, rfl, rfl, id, id, id, id, id, id⟩
theorem Follows.setTch (s : State) (x : Tch) : Follows s (s.setTch x) := ⟨rfl, rfl, rfl, rfl, id, id, id, id, id, id⟩
theorem Follows.setDmn (s : State) (x : Dmn) : Follows s (s.setDmn x) := ⟨rfl, rfl, rfl, rfl, id, id, id, id, id, id⟩

/-- The retention domain with quarter and epoch in their ranges. -/
theorem Follows.setRet (s : State) (r : Retention) (h : clockOk s = true → clockOk (s.setRet r) = true) :
    Follows s (s.setRet r) := ⟨rfl, rfl, rfl, rfl, id, h, id, id, id, id⟩

theorem Follows.setRet_sameTime {s : State} {r : Retention} (hq : r.quarter = s.ret.quarter)
    (he : r.epoch = s.ret.epoch) : Follows s (s.setRet r) :=
  .setRet s r fun h => by simpa only [clockOk, State.setRet_retValid, State.setRet_ret, hq, he] using h

theorem bounded_iff (s : State) : bounded s = true ↔
    s.chc.queue.length ≤ Config.transmitRoom ∧ s.jst.queue.length ≤ Config.appendRoom ∧
      s.ptb.peers.length ≤ Config.peerRoom := by
  simp [bounded, and_assoc]

theorem Follows.setChc (s : State) (c : Chc)
    (h : s.chc.queue.length ≤ Config.transmitRoom → c.queue.length ≤ Config.transmitRoom) : Follows s (s.setChc c) :=
  ⟨rfl, rfl, rfl, rfl, by simpa only [bounded_iff] using fun hb => ⟨h hb.1, hb.2⟩, id, id, id, id, id⟩

/-- The peer table, no larger than it can be, and empty where it was. -/
theorem Follows.setPtb (s : State) (x : Ptb)
    (h : s.ptb.peers.length ≤ Config.peerRoom → x.peers.length ≤ Config.peerRoom)
    (he : Machine.opening s = true → s.ptb.peers = [] → x.peers = []) : Follows s (s.setPtb x) :=
  ⟨rfl, rfl, rfl, rfl, by simpa only [bounded_iff] using fun hb => ⟨hb.1, hb.2.1, h hb.2.2⟩, id, id, by
    have same : Machine.opening (s.setPtb x) = Machine.opening s := rfl
    simp only [openingEmpty, Bool.or_eq_true, Bool.not_eq_true', List.isEmpty_iff, same, State.setPtb_ptb]
    cases ho : Machine.opening s
    · simp
    · simpa using he ho, id, id⟩

theorem Follows.setPtb_samePeers {s : State} {x : Ptb} (h : x.peers = s.ptb.peers) : Follows s (s.setPtb x) :=
  .setPtb s x (h ▸ id) (h ▸ fun _ => id)

theorem Follows.setEve (s : State) (e : Eve)
    (h : AccountsBacked s → backed s e.verdict = true ∧ backed s e.lastVerdict = true ∧
      ∀ p ∈ e.work, pieceBacked s p = true)
    (hw : waitingBacked s = true → waitingBacked (s.setEve e) = true) : Follows s (s.setEve e) :=
  ⟨rfl, rfl, rfl, rfl, id, id, id, id, fun hb => ⟨(h hb).1, (h hb).2.1, (h hb).2.2, hb.2.2.2⟩, hw⟩

/-- An update of the evidence engine that leaves its verdicts, its work list and its piece under way. -/
theorem Follows.setEve_same {s : State} {e : Eve} (hv : e.verdict = s.eve.verdict)
    (hl : e.lastVerdict = s.eve.lastVerdict) (hw : e.work = s.eve.work)
    (hc : e.current = s.eve.current) :
    Follows s (s.setEve e) :=
  .setEve s e (fun h => by rw [hv, hl, hw]; exact ⟨h.1, h.2.1, h.2.2.1⟩)
    fun h => by simpa only [waitingBacked, State.setEve_eve, State.setEve_cmr, hc] using h

theorem Follows.setStore (s : State) (x : List Segment)
    (h : AccountsBacked s → ∀ g ∈ x, ∀ y ∈ g.slots, slotBacked s y = true) : Follows s (s.setStore x) :=
  ⟨rfl, rfl, rfl, rfl, id, id, id, id,
    fun hb => by obtain ⟨h1, h2, h3, h4, -, h6⟩ := id hb; exact ⟨h1, h2, h3, h4, h hb, h6⟩, id⟩

/-- The journal store with as many OPEN segments at most, and a queue no longer than it can be. -/
theorem Follows.setJst (s : State) (j : Jst) (hq : s.jst.queue.length ≤ Config.appendRoom → j.queue.length ≤ Config.appendRoom)
    (hb : AccountsBacked s → ∀ e ∈ j.queue, entryBacked s e = true)
    (ho : Machine.oneOpen s = true → Machine.oneOpen (s.setJst j) = true) : Follows s (s.setJst j) :=
  ⟨rfl, rfl, rfl, rfl, by simpa only [bounded_iff] using fun h => ⟨h.1, hq h.2.1, h.2.2⟩, id, ho, id,
    fun h => by obtain ⟨h1, h2, h3, -, h5⟩ := id h; exact ⟨h1, h2, h3, hb h, h5⟩, id⟩

/-- An update of the journal store that leaves its segment table and drops entries from its queue at most. -/
theorem Follows.setJst_sublist {s : State} {j : Jst} (hq : j.queue.Sublist s.jst.queue) (hs : j.status = s.jst.status) :
    Follows s (s.setJst j) :=
  .setJst s j hq.length_le.trans (fun h e he => h.2.2.2.1 e (hq.subset he))
    fun h => by
      have same : ∀ i, statusAt (s.setJst j) i = statusAt s i := fun i => by simp [statusAt, hs]
      exact oneOpen_of_openCount_le (s := s) rfl (openCount_le_of_imp fun i _ hi => (same i).symm.trans hi) h

theorem Follows.setJst_same {s : State} {j : Jst} (hq : j.queue = s.jst.queue)
    (hs : j.status = s.jst.status) : Follows s (s.setJst j) := .setJst_sublist (hq ▸ .refl _) hs

/-- The request service with another request in service. It opens nothing, or finds the peer table empty; and it programs
no figure, or no byte is being programmed. -/
theorem Follows.setService {s : State} (x : Option Service)
    (hb : AccountsBacked s → serviceBacked (Machine.setService x s) = true)
    (hf : programmingFigures s = false ∨ s.cmr.program = .none)
    (ho : Machine.opening (Machine.setService x s) = true → s.ptb.peers = [] := by
      intro h
      simp [Machine.opening, Machine.setService] at h) : Follows s (Machine.setService x s) :=
  ⟨rfl, rfl, rfl, rfl, id, id, id, by
    have same : (Machine.setService x s).ptb = s.ptb := rfl
    simp only [openingEmpty, Bool.or_eq_true, Bool.not_eq_true', same, List.isEmpty_iff]
    intro _
    cases h : Machine.opening (Machine.setService x s)
    · exact .inl rfl
    · exact .inr (ho h),
    fun h => by
      obtain ⟨h1, h2, h3, h4, h5, h6, -, h8⟩ := id h
      exact ⟨h1, h2, h3, h4, h5, h6, hb h, programBacked_setService x hf h8⟩, id⟩

/-- The request service with the same request in service. -/
theorem Follows.setRqs_same {s : State} {x : Rqs} (h : x.service = s.rqs.service) : Follows s (s.setRqs x) := by
  have service : (s.setRqs x).rqs.service = s.rqs.service := h
  refine ⟨rfl, rfl, rfl, rfl, id, id, id, ?_, fun hb => ?_, id⟩
  · simp only [openingEmpty, Machine.opening, service]
    exact id
  · obtain ⟨h1, h2, h3, h4, h5, h6, h7, h8⟩ := hb
    refine ⟨h1, h2, h3, h4, h5, h6, Eq.trans ?_ h7, Eq.trans ?_ h8⟩
    · simp only [serviceBacked, service]
      rfl
    · simp only [programBacked, service]
      rfl

/-- A program of the commission record begins. -/
theorem Follows.setProgram {s : State} (p : CrProgram)
    (hp : AccountsBacked s → programBacked (s.setCmr { s.cmr with program := p }) = true)
    (hw : waitingBacked s = true → waitingBacked (s.setCmr { s.cmr with program := p }) = true) : Follows s (s.setCmr { s.cmr with program := p }) :=
  ⟨rfl, rfl, rfl, rfl, id, id, id, id,
    fun h => by
      obtain ⟨h1, h2, h3, h4, h5, h6, h7, -⟩ := id h
      exact ⟨h1, h2, h3, h4, h5, h6, h7, hp h⟩, hw⟩

end Sys2Proof.Machine


/-! The operations below a command, block by block: each is `Follows`. -/

namespace Sys2Proof.Machine

/-! ### The channel (R37, R38) -/

theorem replaceNote_length (n : Note) (fs : List Frame) : (replaceNote n fs).length = fs.length := by
  induction fs with
  | nil => rfl
  | cons f fs ih =>
    unfold replaceNote
    split <;> simp [ih]

theorem Chc.offerNote_room {c : Chc} (n : Note) (h : c.queue.length ≤ Config.transmitRoom) :
    (c.offerNote n).queue.length ≤ Config.transmitRoom := by
  unfold Chc.offerNote
  split_ifs with h1 h2
  · simpa [replaceNote_length] using h
  · simpa using h2
  · exact h

theorem Chc.offerReply_room {c : Chc} (reader : PartyId) (r : Reply) (h : c.queue.length ≤ Config.transmitRoom) :
    (c.offerReply reader r).queue.length ≤ Config.transmitRoom := by
  unfold Chc.offerReply
  split_ifs with h1
  · simpa using h1
  · exact h

theorem Chc.beginSense_queue (c : Chc) : c.beginSense.queue = c.queue := by
  unfold Chc.beginSense
  split <;> rfl

theorem Chc.senseReport_queue (c : Chc) (busy : Bool) (slots : Nat) :
    (c.senseReport busy slots).queue.length ≤ c.queue.length := by
  unfold Chc.senseReport
  split
  · simp
  · split_ifs <;> simp_all

theorem Chc.endSense_queue (c : Chc) (busy : Bool) (slots : Nat) :
    (c.endSense busy slots).queue.length ≤ c.queue.length := by
  unfold Chc.endSense
  split
  · exact Chc.senseReport_queue ..
  all_goals exact le_rfl

theorem Chc.kick_queue (env : Env) (c : Chc) : (c.kick env).queue.length ≤ c.queue.length :=
  calc (c.kick env).queue.length
      ≤ ((c.beginSense.endSense env.busy (env.backoff.val + 1)).beginSense).queue.length := Chc.endSense_queue ..
    _ = (c.beginSense.endSense env.busy (env.backoff.val + 1)).queue.length := by rw [Chc.beginSense_queue]
    _ ≤ c.beginSense.queue.length := Chc.endSense_queue ..
    _ = c.queue.length := by rw [Chc.beginSense_queue]

theorem Chc.conclude_queue (c : Chc) : c.conclude.queue.length ≤ c.queue.length := by
  have filtered : (c.queue.filter fun f => !f.isNote).length ≤ c.queue.length := List.length_filter_le ..
  unfold Chc.conclude
  dsimp only
  split <;> exact filtered

theorem kick_follows (env : Env) (s : State) : Follows s (kick env s) :=
  .setChc s _ (Chc.kick_queue env s.chc).trans

theorem sendReply_follows (reader : PartyId) (r : Reply) (s : State) : Follows s (sendReply reader r s) :=
  .setChc s _ (Chc.offerReply_room reader r)

theorem refuse_follows (reader : PartyId) (code : Byte) (st : Status) (s : State) :
    Follows s (refuse reader code st s) := sendReply_follows ..

theorem offerRegularNote_follows (s : State) : Follows s (offerRegularNote s) :=
  .setChc s _ fun h => Chc.offerNote_room _ h

theorem offerDoorNote_follows (s : State) : Follows s (offerDoorNote s) := .setChc s _ fun h => Chc.offerNote_room _ h

theorem startSchedule_follows (env : Env) (epoch : Nat) (s : State) : Follows s (startSchedule env epoch s) :=
  .setChc s _ id

theorem takeContent_follows (c : NoteContent) (s : State) : Follows s (takeContent c s) := by
  have content : Follows s (s.setChc { s.chc with content := some c }) := .setChc s _ id
  unfold takeContent
  dsimp only
  split
  · exact content
  · exact content.trans (.setChc _ _ id)
  · split
    · exact content.trans (offerRegularNote_follows _)
    · exact content

theorem holdDiscover_follows (slots : Nat) (reader : PartyId) (s : State) : Follows s (holdDiscover slots reader s) :=
  .setChc s _ id

/-! ### The journal store -/

theorem setAccess_follows (a : Access) (s : State) : Follows s (setAccess a s) := .setJst_same (by rfl) (by rfl)
theorem setJob_follows (j : Job) (s : State) : Follows s (setJob j s) := .setJst_same (by rfl) (by rfl)
theorem endJob_follows (c : Option Nat) (s : State) : Follows s (endJob c s) := setJob_follows ..
theorem abandonJob_follows (s : State) : Follows s (abandonJob s) := endJob_follows ..

theorem putStatus_follows {i : Nat} {x : SegStatus} (s : State) (h : x ≠ .opened) : Follows s (putStatus i x s) :=
  .setJst s _ id (fun hb => hb.2.2.2.1) fun ho =>
    oneOpen_of_openCount_le (s := s) rfl (openCount_putStatus_le s h) ho

theorem suspend_follows (s : State) : Follows s (suspend s) := by
  unfold suspend
  split
  case h_1 | h_2 | h_3 => exact .setJst_same (by rfl) (by rfl)
  all_goals exact .refl s

theorem offer_follows {e : Entry} {s : State} (h : AccountsBacked s → entryBacked s e = true) :
    Follows s (offer e s).1 := by
  unfold offer
  split
  · rename_i accepted
    have room : s.jst.queue.length < Config.appendRoom := by
      simp only [offerAccepted, Bool.and_eq_true, decide_eq_true_eq] at accepted
      exact accepted.2
    have grown : (s.jst.queue ++ [e]).length ≤ Config.appendRoom := by
      rw [List.length_append, List.length_singleton]
      exact room
    dsimp only
    refine Follows.trans (.setJst s _ (fun _ => grown) (fun hb x hx => ?_) (by exact id)) (suspend_follows _)
    obtain old | rfl := by simpa using hx
    · exact hb.2.2.2.1 x old
    · exact h hb
  · exact .refl s

theorem fillStore_follows (s : State) : Follows s (fillStore s) := by
  unfold fillStore
  split
  · exact (putStatus_follows s (by decide)).trans (.setJst_same (by rfl) (by rfl))
  · exact .setJst_same (by rfl) (by rfl)

theorem settleShort_follows (s : State) : Follows s (settleShort s) := by
  unfold settleShort
  split_ifs
  · exact .setJst_same (by rfl) (by rfl)
  · exact .refl s
  · exact fillStore_follows s
  · exact .refl s

theorem evaluateTrigger_follows (s : State) : Follows s (evaluateTrigger s) := by
  unfold evaluateTrigger
  split
  · exact setJob_follows ..
  · exact .refl s

/-! What stands in the slots of a segment is backed. -/

def SlotsBacked (s : State) (xs : List Slot) : Prop := ∀ x ∈ xs, slotBacked s x = true

theorem SlotsBacked.append {s : State} {xs ys : List Slot} (hx : SlotsBacked s xs) (hy : SlotsBacked s ys) :
    SlotsBacked s (xs ++ ys) := fun z hz => (List.mem_append.mp hz).elim (hx z) (hy z)

theorem SlotsBacked.subset {s : State} {xs ys : List Slot} (hy : SlotsBacked s ys) (h : xs ⊆ ys) :
    SlotsBacked s xs := fun z hz => hy z (h hz)

theorem AccountsBacked.segAt {s : State} (h : AccountsBacked s) (i : Nat) : SlotsBacked s (segAt s i).slots := by
  obtain ⟨-, -, -, -, store, -⟩ := h
  rw [Machine.segAt, List.getD_eq_getElem?_getD]
  cases inside : s.store[i]? with
  | none => simp [SlotsBacked, Segment.erased]
  | some g => exact store g (List.mem_of_getElem? inside)

theorem putSeg_follows {i : Nat} {g : Segment} {s : State} (h : AccountsBacked s → SlotsBacked s g.slots) :
    Follows s (putSeg i g s) :=
  .setStore s _ fun hb k hk => by
    obtain old | rfl := List.mem_or_eq_of_mem_set hk
    · exact hb.2.2.2.2.1 k old
    · exact h hb

theorem setHeader_follows (i : Nat) (f : Header → Header) (s : State) : Follows s (setHeader i f s) :=
  putSeg_follows fun hb => hb.segAt i

theorem trimSlots_subset (xs : List Slot) : trimSlots xs ⊆ xs := fun _ hx =>
  List.mem_reverse.mp ((List.dropWhile_subset _) (List.mem_reverse.mp hx))

theorem SlotsBacked.put {s : State} {g : Segment} {new : List Slot} (at1 : Nat) (hg : SlotsBacked s g.slots)
    (hn : SlotsBacked s new) : SlotsBacked s (g.put at1 new).slots := by
  have skipped : SlotsBacked s (List.replicate (at1 - 1 - g.slots.length) .erased) := fun x hx => by
    rw [List.eq_of_mem_replicate hx]
    rfl
  exact (((hg.subset (List.take_subset ..)).append skipped).append hn |>.append
    (hg.subset (List.drop_subset ..))).subset (trimSlots_subset _)

theorem SlotsBacked.leftSlots {s : State} : ∀ {xs : List Slot} (left : List SlotLeft), SlotsBacked s xs →
    SlotsBacked s (leftSlots xs left)
  | [], _, _ => by simp [SlotsBacked, Machine.leftSlots]
  | x :: xs, left, h => by
    intro y hy
    simp only [Machine.leftSlots, List.mem_cons] at hy
    obtain rfl | hy := hy
    · split
      · exact h x (.head _)
      all_goals rfl
    · exact leftSlots left.tail (fun z hz => h z (.tail _ hz)) y hy

theorem SlotsBacked.erasedTo {s : State} {g : Segment} (left : EraseLeft) (h : SlotsBacked s g.slots) :
    SlotsBacked s (g.erasedTo left).slots := by
  refine SlotsBacked.subset ?_ (trimSlots_subset _)
  intro x hx
  obtain ⟨i, hi, rfl⟩ := List.mem_iff_getElem.mp hx
  rw [List.getElem_zipWith]
  split
  · rfl
  · exact SlotsBacked.leftSlots left.slots h _ (List.getElem_mem _)

theorem eraseSeg_follows (i : Nat) (left : EraseLeft) (s : State) : Follows s (eraseSeg i left s) :=
  putSeg_follows fun hb => (hb.segAt i).erasedTo left

theorem endErase_follows (i : Nat) (left : EraseLeft) (s : State) : Follows s (endErase i left s) :=
  (eraseSeg_follows i left s).trans (putStatus_follows _ (by split <;> decide))

/-! The merged output carries the verdicts of its sources (R131). -/

theorem entriesOf_backed {s : State} : ∀ {xs : List Slot}, SlotsBacked s xs →
    ∀ e ∈ entriesOf xs, entryBacked s e = true := by
  intro xs
  induction xs using entriesOf.induct with
  | case1 => simp [entriesOf]
  | case2 e rest ih =>
    intro h x hx
    obtain rfl | hx := by simpa [entriesOf] using hx
    · exact h (.one x) (.head _)
    · exact ih (fun y hy => h y (.tail _ hy)) x hx
  | case3 rest e ih =>
    intro h x hx
    obtain rfl | hx := by simpa [entriesOf] using hx
    · exact h (.first x) (.head _)
    · exact ih (fun y hy => h y (.tail _ (.tail _ hy))) x hx
  | case4 e rest e' ne ih =>
    intro h x hx
    rw [entriesOf, if_neg ne] at hx
    exact ih (fun y hy => h y (.tail _ hy)) x hx
  | case5 e rest _ ih | case6 e rest ih | case7 rest ih | case8 rest ih | case9 rest ih =>
    intro h x hx
    simp only [entriesOf] at hx
    exact ih (fun y hy => h y (.tail _ hy)) x hx

theorem quietRun_verdict {e : Entry} {r : RunEntry} (h : e.quietRun = some r) :
    r.verdict = (coverageStanding (some e)).2 := by
  cases e with
  | epoch x =>
    simp only [Entry.quietRun] at h
    split at h
    · cases h
      rfl
    · cases h
  | run x =>
    cases h
    rfl
  | gap | leg | door | checkpoint | conclude => cases h

theorem entryBacked_quietRun {s : State} {e : Entry} {r : RunEntry} (h : e.quietRun = some r) :
    entryBacked s (.run r) = entryBacked s e := by
  rw [entryBacked_run, quietRun_verdict h]
  rfl

/-- The run being formed and the entry it came from are backed. -/
def RunBacked (s : State) (acc : Option (RunEntry × Entry)) : Prop :=
  ∀ run single, acc = some (run, single) → entryBacked s (.run run) = true ∧ entryBacked s single = true

theorem RunBacked.none (s : State) : RunBacked s none := by
  intro run single h
  cases h

theorem endRun_backed {s : State} {acc : Option (RunEntry × Entry)} (h : RunBacked s acc) :
    ∀ e ∈ endRun acc, entryBacked s e = true := by
  intro e he
  match acc, h with
  | none, _ => simp [endRun] at he
  | some (run, single), h =>
    simp only [endRun] at he
    split at he <;> simp only [List.mem_singleton] at he <;> subst he
    · exact (h run single rfl).1
    · exact (h run e rfl).2

/-! The cases of the merge. -/

theorem mergeFrom_loud {e : Entry} (acc : Option (RunEntry × Entry)) (rest : List Entry) (h : e.quietRun = none) :
    mergeFrom acc (e :: rest) = endRun acc ++ e :: mergeFrom none rest := by
  rw [mergeFrom, h]

theorem mergeFrom_first {e : Entry} {r : RunEntry} (rest : List Entry) (h : e.quietRun = some r) :
    mergeFrom none (e :: rest) = mergeFrom (some (r, e)) rest := by
  rw [mergeFrom, h]

theorem mergeFrom_joined {e single : Entry} {run r : RunEntry} (rest : List Entry) (h : e.quietRun = some r)
    (hj : run.joins r = true) :
    mergeFrom (some (run, single)) (e :: rest) = mergeFrom (some (run.join r, single)) rest := by
  simp only [mergeFrom, h, hj, if_true]

theorem mergeFrom_apart {e single : Entry} {run r : RunEntry} (rest : List Entry) (h : e.quietRun = some r)
    (hj : run.joins r = false) : mergeFrom (some (run, single)) (e :: rest) =
      endRun (some (run, single)) ++ mergeFrom (some (r, e)) rest := by
  simp only [mergeFrom, h, hj, Bool.false_eq_true, if_false]

theorem mergeFrom_backed {s : State} : ∀ (es : List Entry) (acc : Option (RunEntry × Entry)), RunBacked s acc →
    (∀ e ∈ es, entryBacked s e = true) → ∀ e ∈ mergeFrom acc es, entryBacked s e = true := by
  intro es
  induction es with
  | nil => exact fun acc ha _ => endRun_backed ha
  | cons x es ih =>
    intro acc ha hes e he
    have hx := hes x (.head _)
    have rest : ∀ e ∈ es, entryBacked s e = true := fun e he => hes e (.tail _ he)
    cases hq : x.quietRun with
    | none =>
      rw [mergeFrom_loud _ _ hq, List.mem_append, List.mem_cons] at he
      obtain he | rfl | he := he
      · exact endRun_backed ha e he
      · exact hx
      · exact ih none (.none s) rest e he
    | some r =>
      have fresh : RunBacked s (some (r, x)) := by
        rintro _ _ ⟨⟩
        exact ⟨(entryBacked_quietRun hq).trans hx, hx⟩
      match acc, ha with
      | none, _ => exact ih _ fresh rest e (mergeFrom_first es hq ▸ he)
      | some (run, single), ha =>
        cases hj : run.joins r with
        | true =>
          refine ih _ ?_ rest e (mergeFrom_joined es hq hj ▸ he)
          rintro _ _ ⟨⟩
          exact ha run single rfl
        | false =>
          rw [mergeFrom_apart es hq hj, List.mem_append] at he
          exact he.elim (endRun_backed ha e) (ih _ fresh rest e)

theorem Entry.slots_backed {s : State} {e : Entry} (h : entryBacked s e = true) : SlotsBacked s e.slots := by
  unfold Entry.slots
  split <;> simp [SlotsBacked, slotBacked, h]

theorem mergedSlots_backed {s : State} {a b : Segment} (ha : SlotsBacked s a.slots) (hb : SlotsBacked s b.slots) :
    SlotsBacked s (mergedSlots a b) := by
  intro x hx
  obtain ⟨e, he, hx⟩ := List.mem_flatMap.mp hx
  refine Entry.slots_backed (mergeFrom_backed _ none (.none s) ?_ e he) x hx
  intro y hy
  exact (List.mem_append.mp hy).elim (entriesOf_backed ha y) (entriesOf_backed hb y)

theorem jobPage_backed {s : State} (h : AccountsBacked s) : SlotsBacked s (jobPage s) := by
  refine SlotsBacked.subset ?_ (List.Subset.trans (List.take_subset ..) (List.drop_subset ..))
  unfold jobOutput
  split
  · exact mergedSlots_backed (h.segAt _) (h.segAt _)
  · simp [SlotsBacked]

theorem putPage_follows {slots : List Slot} {s : State} (h : AccountsBacked s → SlotsBacked s slots) :
    Follows s (putPage slots s) := by
  unfold putPage
  split
  · exact putSeg_follows fun hb => (hb.segAt _).put _ (h hb)
  · exact .refl s

theorem dropSuspended_follows (left : Leftover) (s : State) : Follows s (dropSuspended left s) := by
  unfold dropSuspended
  dsimp only
  refine Follows.trans ?_ (setJob_follows ..)
  split
  · exact putPage_follows fun hb => (jobPage_backed hb).leftSlots _
  · exact eraseSeg_follows ..
  · exact eraseSeg_follows ..
  · exact .refl s

theorem dealForCheckpoint_follows (left : Leftover) (s : State) : Follows s (dealForCheckpoint left s) := by
  unfold dealForCheckpoint
  dsimp only
  refine (suspend_follows s).trans ?_
  split
  · exact .refl _
  · exact endJob_follows ..
  · exact abandonJob_follows _
  · exact (dropSuspended_follows ..).trans (abandonJob_follows _)
  · exact abandonJob_follows _
  · exact .refl _
  · exact .refl _

/-! A conclusion's stop of consolidation, in its parts (R144). -/

/-- The segment that the suspended step was erasing, and the state it goes back to. -/
def Suspended.segment : Suspended → Option (Nat × SegStatus)
  | .sourceErase i => some (i, .retiring)
  | .cleanupErase i => some (i, .targetPending)
  | .page => none

/-- The segment of a stopped erase is BLANK if it reads erased, and is what it was before the erase if not. -/
def restoreErased (x : Option (Nat × SegStatus)) (s : State) : State :=
  match x with
  | some (i, st) => putStatus i (if segAt s i = Segment.erased then .blank else st) s
  | none => s

/-- The job is stopped, but for a planning pass, which ends; with no job it is stopped where an erase was. -/
def stopPhase (erasing : Bool) (s : State) : State :=
  match s.jst.job.phase with
  | .none => if erasing then setJob { s.jst.job with stopped := true } s else s
  | .planning => endJob s.jst.job.cleanup s
  | .allocate => setJob { s.jst.job with stopped := true } s
  | .copy => setJob { s.jst.job with stopped := true } s
  | .commit => setJob { s.jst.job with stopped := true } s
  | .erase1 => setJob { s.jst.job with stopped := true } s
  | .erase2 => setJob { s.jst.job with stopped := true } s

theorem stopConsolidation_eq (left : Leftover) (s : State) : stopConsolidation left s =
    stopPhase ((suspend s).jst.job.suspended.bind Suspended.segment).isSome
      (restoreErased ((suspend s).jst.job.suspended.bind Suspended.segment) (dropSuspended left (suspend s))) := by
  unfold stopConsolidation stopPhase restoreErased
  dsimp only
  generalize (suspend s).jst.job.suspended = x
  cases x with
  | none => rfl
  | some x => cases x <;> rfl

theorem restoreErased_follows (x : Option Suspended) (s : State) :
    Follows s (restoreErased (x.bind Suspended.segment) s) := by
  match x with
  | none | some .page => exact .refl s
  | some (.sourceErase i) | some (.cleanupErase i) => exact putStatus_follows s (by split <;> decide)

theorem stopPhase_follows (erasing : Bool) (s : State) : Follows s (stopPhase erasing s) := by
  unfold stopPhase
  split
  · split
    · exact setJob_follows ..
    · exact .refl s
  · exact endJob_follows ..
  all_goals exact setJob_follows ..

theorem stopConsolidation_follows (left : Leftover) (s : State) : Follows s (stopConsolidation left s) := by
  rw [stopConsolidation_eq]
  exact ((suspend_follows s).trans (dropSuspended_follows left _)).trans
    ((restoreErased_follows ..).trans (stopPhase_follows ..))

end Sys2Proof.Machine


/-! The operations below a command, continued: the door, the peers, the evidence engine. -/

namespace Sys2Proof.Machine

/-! ### The door monitor -/

theorem setEpisode_follows (e : Option Episode) (s : State) : Follows s (setEpisode e s) := .setDmn ..

theorem markOwn_follows (s : State) : Follows s (markOwn s) := by
  unfold markOwn
  split <;> exact setEpisode_follows ..

theorem rise_follows (s : State) : Follows s (rise s) := (markOwn_follows s).trans (offerDoorNote_follows _)

theorem lightHeard_follows (s : State) : Follows s (lightHeard s) := by
  unfold lightHeard
  split
  · split <;> exact setEpisode_follows ..
  · exact .refl s

theorem openAtLight_follows (epoch : Nat) (s : State) : Follows s (openAtLight epoch s) := by
  unfold openAtLight
  split
  · exact setEpisode_follows ..
  · exact .refl s

theorem offerDoor_follows (e : Episode) (stop : Nat) (conclusion : Bool) (s : State) :
    Follows s (offerDoor e stop conclusion s) := offer_follows fun _ => entryBacked_door ..

theorem offerClosing_follows (s : State) : Follows s (offerClosing s) := by
  unfold offerClosing
  split
  · exact (offerDoor_follows ..).trans (.setDmn ..)
  · exact .refl s

theorem settleEpisode_follows (epoch : Nat) (s : State) : Follows s (settleEpisode epoch s) := by
  unfold settleEpisode
  split
  · exact .refl s
  · split
    · exact (offerClosing_follows s).trans (.setDmn ..)
    · exact setEpisode_follows ..

theorem drawReport_follows (epoch draw : Nat) (s : State) : Follows s (drawReport epoch draw s) := by
  have opened : Follows s (match s.dmn.episode with
      | some e => if e.start ≤ epoch then setEpisode (some { e with drawn := e.drawn + draw }) s else s
      | none => s) := by
    split
    · split
      · exact setEpisode_follows ..
      · exact .refl s
    · exact .refl s
  unfold drawReport
  dsimp only
  split
  · split
    · exact (Follows.setDmn s _).trans (offerClosing_follows _)
    · split
      · exact .setDmn ..
      · exact opened
  · exact opened

/-! What the offer of an entry leaves of the request service and of the commission record. -/

@[simp] theorem suspend_rqs (s : State) : (suspend s).rqs = s.rqs := by
  unfold suspend
  split <;> rfl

@[simp] theorem offer_rqs (e : Entry) (s : State) : (offer e s).1.rqs = s.rqs := by
  unfold offer
  split <;> simp

@[simp] theorem suspend_cmr (s : State) : (suspend s).cmr = s.cmr := by
  unfold suspend
  split <;> rfl

@[simp] theorem offer_cmr (e : Entry) (s : State) : (offer e s).1.cmr = s.cmr := by
  unfold offer
  split <;> simp

@[simp] theorem suspend_eve (s : State) : (suspend s).eve = s.eve := by
  unfold suspend
  split <;> rfl

@[simp] theorem offer_eve (e : Entry) (s : State) : (offer e s).1.eve = s.eve := by
  unfold offer
  split <;> simp

@[simp] theorem offerClosing_rqs (s : State) : (offerClosing s).rqs = s.rqs := by
  unfold offerClosing offerDoor
  split <;> simp

theorem closeForConclusion_follows (draw : Nat) (final : Option Nat) (s : State) :
    Follows s (closeForConclusion draw final s) := by
  unfold closeForConclusion
  dsimp only
  split
  · exact ((Follows.ite (.setDmn ..) (.refl s)).trans (offerClosing_follows _)).trans
      ((offerDoor_follows ..).trans (.setDmn ..))
  · exact (Follows.ite (.setDmn ..) (.refl s)).trans (offerClosing_follows _)

@[simp] theorem closeForConclusion_rqs (draw : Nat) (final : Option Nat) (s : State) :
    (closeForConclusion draw final s).rqs = s.rqs := by
  unfold closeForConclusion offerDoor
  dsimp only
  split <;> simp [apply_ite State.rqs]

/-! ### The peer table -/

theorem withoutPeer_length (i : PartyId) (ps : List Peer) : (withoutPeer i ps).length ≤ ps.length :=
  List.length_filter_le ..

theorem withoutPeer_length_lt {i : PartyId} {ps : List Peer} {p : Peer} (hp : p ∈ ps) (hi : p.id = i) :
    (withoutPeer i ps).length < ps.length :=
  List.length_filter_lt_length_iff_exists.mpr ⟨p, hp, by simp [hi]⟩

theorem lowestScore_mem : ∀ {ps : List Peer} {p : Peer}, lowestScore ps = some p → p ∈ ps
  | [], _, h => by cases h
  | q :: qs, p, h => by
    unfold lowestScore at h
    split at h
    · rename_i r hr
      split at h <;> cases h
      · exact .tail _ (lowestScore_mem hr)
      · exact .head _
    · cases h
      exact .head _

theorem replaceable_mem {ps : List Peer} {p : Peer} (h : replaceable ps = some p) : p ∈ ps := by
  unfold replaceable at h
  split at h
  · cases h
    rename_i hp
    exact List.mem_of_mem_filter (lowestScore_mem hp)
  · exact List.mem_of_mem_filter (lowestScore_mem h)

/-- An accepted note leaves the table no larger than it can be (R53, R54). -/
theorem peersAfter_room {ps : List Peer} (sender : PartyId) (level : Int) (n : Note)
    (h : ps.length ≤ Config.peerRoom) : (peersAfter ps sender level n).length ≤ Config.peerRoom := by
  unfold peersAfter
  split
  · rename_i p hp
    have := withoutPeer_length_lt (List.mem_of_find?_eq_some hp) (by simpa using List.find?_some hp)
    simp only [List.length_append, List.length_singleton]
    omega
  · split
    · rename_i room
      simpa using room
    · split
      · rename_i old ho
        have := withoutPeer_length_lt (replaceable_mem ho) rfl
        simp only [List.length_append, List.length_singleton]
        omega
      · exact h

theorem takeNote_follows (sender : PartyId) (level : Int) (n : Note) (s : State) :
    Follows s (takeNote sender level n s) := by
  unfold takeNote
  split
  · rename_i accepted
    have notOpening : opening s = false := by
      simp only [noteAccepted, Bool.and_eq_true, Bool.not_eq_true'] at accepted
      exact accepted.2
    have taken : Follows s (s.setPtb { s.ptb with peers := peersAfter s.ptb.peers sender level n }) :=
      .setPtb s _ (peersAfter_room sender level n) fun h => by simp [notOpening] at h
    dsimp only
    split
    · exact taken.trans (lightHeard_follows _)
    · exact taken
  · exact .refl s

theorem closePeers_length (ps : List Peer) : (closePeers ps).length ≤ ps.length :=
  (List.length_filterMap_le ..).trans (by simp)

theorem listeningClose_follows (s : State) : Follows s (listeningClose s) :=
  .setPtb s _ (closePeers_length _).trans fun _ h => by simp [h, closePeers]

theorem proposeTurnover_follows (epoch : Nat) (s : State) : Follows s (proposeTurnover epoch s) := by
  have offered : Follows s (offer (.leg ⟨satAdd 255 (s.ptb.leg.getD 0) 1, epoch + 1, foundersOf s.ptb.peers⟩) s).1 :=
    offer_follows fun _ => entryBacked_leg ..
  have peers : (offer (.leg ⟨satAdd 255 (s.ptb.leg.getD 0) 1, epoch + 1, foundersOf s.ptb.peers⟩) s).1.ptb = s.ptb := by
    unfold offer
    split
    · unfold suspend
      split <;> rfl
    · rfl
  unfold proposeTurnover
  dsimp only
  split
  · exact offered.trans (.setPtb_samePeers (by rw [peers]))
  · exact offered

theorem closeTable_follows (epoch : Nat) (s : State) : Follows s (closeTable epoch s) := by
  unfold closeTable
  dsimp only
  split
  · exact (listeningClose_follows s).trans (proposeTurnover_follows ..)
  · exact listeningClose_follows s

theorem activatePeers_follows (s : State) : Follows s (activatePeers s) := by
  unfold activatePeers
  refine Follows.trans ?_ (offer_follows fun _ => entryBacked_leg ..)
  exact .setPtb s _ (by simp) fun _ h => by simp [h]

theorem settleLeg_follows (e : LegEntry) (programmed : Bool) (s : State) : Follows s (settleLeg e programmed s) := by
  unfold settleLeg
  split
  · split_ifs
    · exact .setPtb_samePeers (by rfl)
    · exact .setPtb_samePeers (by rfl)
    · exact .refl s
  · exact .refl s

theorem restoreLeg_follows (activation : Bool) (f : Facts) (s : State) : Follows s (restoreLeg activation f s) := by
  unfold restoreLeg
  split
  case h_1 | h_2 => exact .refl s
  case h_3 =>
    split
    · exact activatePeers_follows s
    · split
      · exact .setPtb_samePeers (by rfl)
      · exact Follows.trans (t := s.setPtb { s.ptb with leg := some 0 }) (.setPtb_samePeers (by rfl))
          (offer_follows fun _ => entryBacked_leg ..)
  case h_4 =>
    split
    · exact .setPtb_samePeers (by rfl)
    · exact .refl s

/-! ### Gathering the inputs of a close -/

theorem pieceBacked_piece (s : State) (j : Joined) : pieceBacked s j.piece = true := by
  unfold Joined.piece
  split <;> rfl

/-- A piece that carries no verdict joins the work list. -/
theorem Follows.addWork {s : State} {e : Eve} {p : Piece} (hp : pieceBacked s p = true)
    (hv : e.verdict = s.eve.verdict) (hl : e.lastVerdict = s.eve.lastVerdict) (hw : e.work = s.eve.work ++ [p])
    (hc : e.current = s.eve.current) : Follows s (s.setEve e) :=
  .setEve s e (fun h => by
      rw [hv, hl, hw]
      refine ⟨h.1, h.2.1, fun q hq => ?_⟩
      obtain old | rfl := by simpa using hq
      · exact h.2.2.1 q old
      · exact hp)
    fun h => by simpa only [waitingBacked, State.setEve_eve, State.setEve_cmr, hc] using h

theorem handInput_follows (key : Nat) (f : CloseInputs → CloseInputs) (s : State) : Follows s (handInput key f s) := by
  unfold handInput
  dsimp only
  split
  · exact .addWork (pieceBacked_piece s _) rfl rfl rfl rfl
  · exact .setEve_same (by rfl) (by rfl) (by rfl) (by rfl)

theorem handReadings_follows (r : EpochReadings) (s : State) : Follows s (handReadings r s) :=
  (handInput_follows ..).trans (.setEve_same (by rfl) (by rfl) (by rfl) (by rfl))

theorem handView_follows (key : Nat) (v : CloseView) (s : State) : Follows s (handView key v s) := handInput_follows ..
theorem handDoor_follows (key : Nat) (d : DoorView) (s : State) : Follows s (handDoor key d s) := handInput_follows ..

/-! ### Verdict marks (R95) -/

theorem mem_marksFor {c : Cmr} {target v : Verdict} : v ∈ marksFor c target ↔
    v ∈ [Verdict.strained, .unproven, .broken] ∧ v.rank ≤ target.rank ∧ c.markSet (verdictMarkAddress v) = false := by
  simp [marksFor]

/-- The marks up to a level are all set. -/
theorem backed_of_marks {s : State} {target : Verdict} (h : ∀ v ∈ [Verdict.strained, .unproven, .broken],
    v.rank ≤ target.rank → s.cmr.markSet (verdictMarkAddress v) = true) : backed s target = true := by
  cases target with
  | intact => exact backed_intact s
  | strained =>
    have h1 := h .strained (by simp) le_rfl
    simp only [verdictMarkAddress] at h1
    simp only [backed, Cmr.highestMark, h1, if_true]
    split_ifs <;> rfl
  | unproven =>
    have h1 := h .unproven (by simp) le_rfl
    simp only [verdictMarkAddress] at h1
    simp only [backed, Cmr.highestMark, h1, if_true]
    split_ifs <;> rfl
  | broken =>
    have h1 := h .broken (by simp) le_rfl
    simp only [verdictMarkAddress] at h1
    simp [backed, Cmr.highestMark, h1]

theorem backed_of_marksFor {s : State} {target : Verdict} (h : marksFor s.cmr target = []) :
    backed s target = true :=
  backed_of_marks fun v hv hr => by
    by_contra unset
    have : v ∈ marksFor s.cmr target := mem_marksFor.mpr ⟨hv, hr, by simpa using unset⟩
    simp [h] at this

theorem waitingBacked_none {s : State} (h : s.eve.current = none) : waitingBacked s = true := by
  simp [waitingBacked, h]

/-- With no program in progress no piece waits for its marks. -/
theorem current_of_waitingBacked {s : State} (h : waitingBacked s = true) (hp : s.cmr.program = .none) :
    s.eve.current = none := by
  cases hc : s.eve.current with
  | none => rfl
  | some w => simp [waitingBacked, hc, hp] at h

/-- Where a raise has to wait, the piece waits for the marks up to its target. -/
theorem waitingBacked_marksFor {s : State} {target m : Verdict} {ms : List Verdict} (next : Continuation)
    (h : marksFor s.cmr target = m :: ms) :
    waitingBacked ((s.setEve { s.eve with current := some ⟨target, m :: ms, next⟩ }).setCmr
      { s.cmr with program := .verdictMark m }) = true := by
  simp only [waitingBacked, State.setCmr_eve, State.setEve_eve, State.setCmr_cmr, beq_self_eq_true, Bool.true_and,
    List.all_eq_true, Bool.or_eq_true, decide_eq_true_eq]
  intro v hv
  by_cases hr : v.rank ≤ target.rank
  · cases hm : s.cmr.markSet (verdictMarkAddress v) with
    | false =>
      refine .inl (.inr ?_)
      rw [← h]
      simpa using mem_marksFor.mpr ⟨hv, hr, hm⟩
    | true => exact .inr hm
  · exact .inl (.inl (by omega))

theorem raise_follows (v : Verdict) (next : Continuation) (s : State) : Follows s (raise v next s).1 := by
  unfold raise
  dsimp only
  split
  · exact .refl s
  · split
    · rename_i none
      exact .setEve s _ (fun h => ⟨backed_of_marksFor none, h.2.1, h.2.2.1⟩) id
    · rename_i m ms marks
      exact ⟨rfl, rfl, rfl, rfl, id, id, id, id,
        fun h => ⟨h.1, h.2.1, h.2.2.1, h.2.2.2.1, h.2.2.2.2.1, h.2.2.2.2.2.1, h.2.2.2.2.2.2.1, rfl⟩,
        fun _ => waitingBacked_marksFor next marks⟩

theorem endPiece_follows (s : State) : Follows s (endPiece s) :=
  .setEve s _ (fun h => ⟨h.1, h.2.1, h.2.2.1⟩) fun _ => rfl

/-! ### The end of a close -/

theorem startStall_follows (period : Nat) (s : State) : Follows s (startStall period s) := by
  unfold startStall
  split
  · exact .refl s
  · exact .setTmb ..

theorem concludingFigures_follows (epoch quarters draw : Nat) (s : State) :
    Follows s (concludingFigures epoch quarters draw s) := by
  unfold concludingFigures
  split
  · rename_i service
    exact (closeForConclusion_follows ..).trans (.setService _ (fun _ => rfl)
      (.inl (by simp [programmingFigures, service])))
  · exact .refl s

theorem finishOrdinary_follows (r : CloseEnd) (s : State) : Follows s (finishOrdinary r s) := by
  unfold finishOrdinary
  dsimp only
  refine Follows.trans ?_ ((takeContent_follows ..).trans ((startStall_follows ..).trans (endPiece_follows _)))
  split
  · exact drawReport_follows ..
  · exact .refl s

theorem finishClose_follows (r : CloseEnd) (s : State) : Follows s (finishClose r s) := by
  unfold finishClose
  split
  · exact finishOrdinary_follows ..
  · exact (concludingFigures_follows ..).trans (endPiece_follows _)

theorem lateConcluding_follows (s : State) : Follows s (lateConcluding s) := by
  unfold lateConcluding
  split
  · split
    · exact concludingFigures_follows ..
    · exact .refl s
  · exact .refl s

theorem offerEpoch_follows (e : EpochEntry) (r : CloseEnd) (s : State) : Follows s (offerEpoch e r s) := by
  have offered : Follows s (offer (.epoch { e with verdict := s.eve.verdict }) s).1 := offer_follows fun h => h.1
  unfold offerEpoch
  dsimp only
  split
  · exact offered.trans (finishClose_follows ..)
  · split
    · exact offered.trans ((raise_follows ..).trans (finishClose_follows ..))
    · exact offered.trans (raise_follows ..)

theorem offerGap_follows (g : GapEntry) (rest : List GapEntry) (s : State) : Follows s (offerGap g rest s).1 := by
  have offered : Follows s (offer (.gap { g with verdict := s.eve.verdict }) s).1 := offer_follows fun h => h.1
  unfold offerGap
  dsimp only
  split
  · exact offered
  · exact offered.trans (raise_follows ..)

theorem runGaps_follows (gs : List GapEntry) : ∀ s, Follows s (runGaps gs s) := by
  induction gs with
  | nil => exact endPiece_follows
  | cons g rest ih =>
    intro s
    have raised := (Follows.setEve_same (s := s) (e := { s.eve with run := gapRun s.eve.run g.count }) rfl rfl rfl rfl).trans
      (raise_follows (gapCandidate s.cmr.gapAllowance (gapRun s.eve.run g.count) g.count)
        (.offerGap { g with run := gapRun s.eve.run g.count } rest) _)
    unfold runGaps
    dsimp only
    split
    · split
      · exact raised.trans ((offerGap_follows ..).trans (ih _))
      · exact raised.trans (offerGap_follows ..)
    · exact raised

theorem runContinuation_follows (c : Continuation) (s : State) : Follows s (runContinuation c s) := by
  cases c with
  | offerEpoch e r => exact offerEpoch_follows ..
  | endClose r => exact finishClose_follows ..
  | offerGap g rest =>
    unfold runContinuation
    dsimp only
    split
    · exact (offerGap_follows ..).trans (runGaps_follows ..)
    · exact offerGap_follows ..
  | gaps rest => exact runGaps_follows ..
  | done => exact endPiece_follows s

/-! ### The pieces -/

theorem runClose_follows (j : Joined) (s : State) : Follows s (runClose j s) := by
  have raised := (Follows.setEve_same (s := s) (e := (computeClose s.cmr s.eve j).eve) rfl rfl rfl rfl).trans
    (raise_follows (computeClose s.cmr s.eve j).entry.verdict
      (.offerEpoch (computeClose s.cmr s.eve j).entry (computeClose s.cmr s.eve j).rest) _)
  unfold runClose
  dsimp only
  split
  · exact raised.trans (offerEpoch_follows ..)
  · exact raised

theorem runPartial_follows (j : Joined) (s : State) : Follows s (runPartial j s) := by
  unfold runPartial
  split
  · exact (concludingFigures_follows ..).trans (endPiece_follows _)
  · exact runClose_follows ..

theorem runLateRefusal_follows (s : State) : Follows s (runLateRefusal s) := by
  unfold runLateRefusal
  dsimp only
  split
  · exact (raise_follows ..).trans (endPiece_follows _)
  · exact raise_follows ..

/-- What the restoration gives the evidence engine is backed: it comes from entries and marks alone (R102). -/
theorem restoredEve_backed {s : State} (e : Eve) (station : Station) {f : Facts} (h : AccountsBacked s)
    (hf : backed s (coverageStanding f.lastCoverage).2 = true) :
    backed s (restoredEve s.cmr e station f).verdict = true ∧
      backed s (restoredEve s.cmr e station f).lastVerdict = true := by
  cases station with
  | blank | dormant => exact ⟨backed_intact s, backed_intact s⟩
  | active => exact ⟨backed_higher hf (backed_highestMark s), hf⟩
  | concluded =>
    have last : backed s (restoredEve s.cmr e .concluded f).lastVerdict = true := by
      simp only [restoredEve]
      split
      · rename_i whole
        exact backed_higher hf (h.2.2.2.2.2.1 whole)
      · exact hf
    exact ⟨backed_higher last (backed_highestMark s), last⟩

theorem restoredEve_work (c : Cmr) (e : Eve) (station : Station) (f : Facts) :
    (restoredEve c e station f).work = e.work ∧ (restoredEve c e station f).current = e.current := by
  cases station <;> exact ⟨rfl, rfl⟩

theorem runRestoration_follows {r : Report} {f : Facts} {s : State}
    (h : AccountsBacked s → pieceBacked s (.restoration r f) = true) : Follows s (runRestoration r f s) := by
  refine Follows.trans (.setEve s _ (fun hb => ?_) fun hw => ?_) (runGaps_follows ..)
  · obtain ⟨verdict, last⟩ := restoredEve_backed s.eve r.station hb (h hb)
    refine ⟨verdict, last, ?_⟩
    rw [(restoredEve_work ..).1]
    exact hb.2.2.1
  · simpa only [waitingBacked, State.setEve_eve, State.setEve_cmr, (restoredEve_work ..).2] using hw

theorem takePiece_follows (s : State) : Follows s (takePiece s) :=
  .setEve s _ (fun h => ⟨h.1, h.2.1, fun p hp => h.2.2.1 p (List.mem_of_mem_tail hp)⟩) id

theorem coverageFate_follows {programmed : Bool} {e : Entry} {s : State}
    (h : programmed = true → AccountsBacked s → entryBacked s e = true) : Follows s (coverageFate programmed e s) := by
  cases programmed with
  | true =>
    cases e with
    | epoch x | gap x => exact .setEve s _ (fun hb => ⟨hb.1, h rfl hb, hb.2.2.1⟩) id
    | run | leg | door | checkpoint | conclude => exact .refl s
  | false => exact .addWork (p := .lateRefusal) rfl rfl rfl rfl rfl

end Sys2Proof.Machine


/-! The operations below a command, continued: the request service, what takes the array, and what the commands share. -/

namespace Sys2Proof.Machine

/-! ### Replies and fragments -/

theorem complete_follows {s : State} (reader : PartyId) (r : Reply)
    (h : programmingFigures s = false ∨ s.cmr.program = .none) : Follows s (complete reader r s) :=
  (Follows.setService none (fun _ => rfl) h).trans (sendReply_follows ..)

theorem finishFragment_follows {s : State} (c : Cursor) (asked : Asked) (start : Nat) (seen : Option Nat)
    (h : programmingFigures s = false) : Follows s (finishFragment c asked start seen s) := by
  unfold finishFragment
  dsimp only
  split
  · exact complete_follows _ _ (.inl h)
  · exact (Follows.setRqs_same (s := s) (by rfl)).trans (complete_follows _ _ (.inl h))

theorem fragmentStage_follows (s : State) : Follows s (fragmentStage s) := by
  unfold fragmentStage
  split
  · rename_i service
    exact .ite (finishFragment_follows _ _ _ _ (by simp [programmingFigures, service])) (.refl s)
  · exact .refl s

/-! ### Activation -/

theorem activateBlocks_follows (s : State) : Follows s (activateBlocks s) :=
  (Follows.setTch s _).trans ((activatePeers_follows _).trans ((Follows.setDmn _ _).trans (openAtLight_follows ..)))

theorem askOpen_follows (why : AllocWhy) (s : State) : Follows s (askOpen why s) :=
  .ite (.refl s) (.setJst_same (by rfl) (by rfl))

@[simp] theorem openAtLight_rqs (n : Nat) (s : State) : (openAtLight n s).rqs = s.rqs := by
  unfold openAtLight
  split <;> rfl

@[simp] theorem activatePeers_rqs (s : State) : (activatePeers s).rqs = s.rqs := by
  unfold activatePeers
  simp

@[simp] theorem activateBlocks_rqs (s : State) : (activateBlocks s).rqs = s.rqs := by
  unfold activateBlocks
  simp

theorem finishOpening_follows (s : State) : Follows s (finishOpening s) := by
  unfold finishOpening
  split
  · rename_i service
    exact (activateBlocks_follows s).trans (complete_follows _ _ (.inl (by simp [programmingFigures, service])))
  · exact .refl s

/-! ### Checkpoints -/

/-- A checkpoint at any of its steps takes the service from one that programs no figure. -/
theorem setCheckpoint_follows {s : State} (reader : PartyId) (number epoch : Nat) (x : CheckpointStep)
    (h : programmingFigures s = false) : Follows s (setService (some (.checkpoint reader number epoch x)) s) :=
  .setService _ (fun _ => rfl) (.inl h)

theorem offerCheckpoint_follows {s : State} (reader : PartyId) (number epoch newly failed : Nat)
    (h : programmingFigures s = false) : Follows s (offerCheckpoint reader number epoch newly failed s) := by
  have same : programmingFigures (offer (.checkpoint (checkpointEntry number epoch reader s)) s).1 = false := by
    simpa [programmingFigures] using h
  have offered : Follows s (offer (.checkpoint (checkpointEntry number epoch reader s)) s).1 :=
    offer_follows fun _ => entryBacked_checkpoint ..
  unfold offerCheckpoint
  dsimp only
  split
  · exact offered.trans (setCheckpoint_follows _ _ _ _ same)
  · exact offered.trans (complete_follows _ _ (.inl same))

theorem checkpointFate_follows (recorded : Bool) (s : State) : Follows s (checkpointFate recorded s) := by
  unfold checkpointFate
  split
  · rename_i service
    exact complete_follows _ _ (.inl (by simp [programmingFigures, service]))
  · exact .refl s

theorem composeCheckpoint_follows {s : State} (reader : PartyId) (number epoch newly failed : Nat)
    (h : programmingFigures s = false) : Follows s (composeCheckpoint reader number epoch newly failed s) :=
  .ite (offerCheckpoint_follows _ _ _ _ _ h) (setCheckpoint_follows _ _ _ _ h)

theorem checkpointStage_follows (s : State) : Follows s (checkpointStage s) := by
  unfold checkpointStage
  split
  · rename_i service
    exact .ite (composeCheckpoint_follows _ _ _ _ _ (by simp [programmingFigures, service])) (.refl s)
  · rename_i service
    exact composeCheckpoint_follows _ _ _ _ _ (by simp [programmingFigures, service])
  · exact .refl s

/-! ### Conclusion -/

theorem requestReadings_follows (s : State) : Follows s (requestReadings s) :=
  .ite (.setTch ..) ((Follows.setTch s _).trans (handReadings_follows ..))

theorem requestView_follows (s : State) : Follows s (requestView s) :=
  (Follows.setPtb_samePeers (s := s) (by rfl)).trans (handView_follows ..)

theorem requestDoor_follows (s : State) : Follows s (requestDoor s) :=
  (Follows.setDmn s _).trans (handDoor_follows ..)

theorem takeRequests_follows (blocks : Overtaken) (s : State) : Follows s (takeRequests blocks s) := by
  unfold takeRequests
  dsimp only
  exact (Follows.ite (requestReadings_follows s) (.refl s)).trans
    ((Follows.ite (requestView_follows _) (.refl _)).trans (.ite (requestDoor_follows _) (.refl _)))

@[simp] theorem programmingFigures_setJst (s : State) (j : Jst) :
    programmingFigures (s.setJst j) = programmingFigures s := rfl
@[simp] theorem programmingFigures_setStore (s : State) (x : List Segment) :
    programmingFigures (s.setStore x) = programmingFigures s := rfl

/-! The journal store's operations leave the request service. -/

@[simp] theorem putStatus_rqs (i : Nat) (x : SegStatus) (s : State) : (putStatus i x s).rqs = s.rqs := rfl
@[simp] theorem setJob_rqs (j : Job) (s : State) : (setJob j s).rqs = s.rqs := rfl
@[simp] theorem setAccess_rqs (a : Access) (s : State) : (setAccess a s).rqs = s.rqs := rfl
@[simp] theorem endJob_rqs (c : Option Nat) (s : State) : (endJob c s).rqs = s.rqs := rfl
@[simp] theorem abandonJob_rqs (s : State) : (abandonJob s).rqs = s.rqs := rfl
@[simp] theorem putSeg_rqs (i : Nat) (g : Segment) (s : State) : (putSeg i g s).rqs = s.rqs := rfl
@[simp] theorem eraseSeg_rqs (i : Nat) (left : EraseLeft) (s : State) : (eraseSeg i left s).rqs = s.rqs := rfl

@[simp] theorem putPage_rqs (xs : List Slot) (s : State) : (putPage xs s).rqs = s.rqs := by
  unfold putPage
  split <;> rfl

@[simp] theorem dropSuspended_rqs (left : Leftover) (s : State) : (dropSuspended left s).rqs = s.rqs := by
  unfold dropSuspended
  dsimp only
  split <;> simp

@[simp] theorem restoreErased_rqs (x : Option (Nat × SegStatus)) (s : State) : (restoreErased x s).rqs = s.rqs := by
  unfold restoreErased
  split <;> rfl

@[simp] theorem stopPhase_rqs (b : Bool) (s : State) : (stopPhase b s).rqs = s.rqs := by
  unfold stopPhase
  split
  · split <;> rfl
  all_goals rfl

@[simp] theorem stopConsolidation_rqs (left : Leftover) (s : State) : (stopConsolidation left s).rqs = s.rqs := by
  simp [stopConsolidation_eq]

@[simp] theorem dealForCheckpoint_rqs (left : Leftover) (s : State) : (dealForCheckpoint left s).rqs = s.rqs := by
  unfold dealForCheckpoint
  dsimp only
  split <;> simp

@[simp] theorem fillStore_rqs (s : State) : (fillStore s).rqs = s.rqs := by
  unfold fillStore
  split <;> rfl

@[simp] theorem settleShort_rqs (s : State) : (settleShort s).rqs = s.rqs := by
  unfold settleShort
  split_ifs <;> simp

theorem beginClosing_follows {s : State} (env : Env) (left : Leftover) (reader : PartyId) (tag : List Byte)
    (h : programmingFigures s = false) : Follows s (beginClosing env left reader tag s) :=
  (stopConsolidation_follows left s).trans ((settleShort_follows _).trans
    ((Follows.setService _ (fun _ => rfl) (.inl (by simpa [programmingFigures] using h))).trans
      (takeRequests_follows ..)))

theorem lateRequests_follows (s : State) : Follows s (lateRequests s) := by
  unfold lateRequests
  split
  · rename_i service
    exact (Follows.setService _ (fun _ => rfl) (.inl (by simp [programmingFigures, service]))).trans
      (takeRequests_follows ..)
  · exact .refl s

theorem beginMark_follows {s : State} (reader : PartyId) (tag : List Byte) {f : FinalFigures}
    (hf : AccountsBacked s → backed s f.verdict = true) (hp : s.cmr.program = .none) :
    Follows s (beginMark reader tag f s) :=
  (Follows.setService _ hf (.inr hp)).trans
    (.setProgram .conclusionMark (fun _ => rfl) fun hw => waitingBacked_none
      (current_of_waitingBacked (s := setService (some (.conclude reader tag (.mark f))) s) hw hp))

theorem figuresStage_follows (s : State) : Follows s (figuresStage s) := by
  unfold figuresStage
  split
  · rename_i service
    exact .ite (.setService _ (fun h => h.committed) (.inl (by simp [programmingFigures, service]))) (.refl s)
  · exact .refl s

/-- The OPEN segment, where there is one, is FULL from here on (R111, R121). -/
def closeOpen (s : State) : State :=
  match openSeg s with
  | some i => putStatus i .full s
  | none => s

theorem closeOpen_follows (s : State) : Follows s (closeOpen s) := by
  unfold closeOpen
  split
  · exact putStatus_follows s (by decide)
  · exact .refl s

@[simp] theorem closeOpen_rqs (s : State) : (closeOpen s).rqs = s.rqs := by
  unfold closeOpen
  split <;> rfl

@[simp] theorem closeOpen_cmr (s : State) : (closeOpen s).cmr = s.cmr := by
  unfold closeOpen
  split <;> rfl

@[simp] theorem closeOpen_logic (s : State) : (closeOpen s).logic = s.logic := by
  unfold closeOpen
  split <;> rfl

/-- With one OPEN segment at most, none is left. -/
theorem openCount_closeOpen {s : State} (h : openCount s ≤ 1) {j : Nat} (hj : j < Config.segments) :
    statusAt (closeOpen s) j ≠ .opened := by
  unfold closeOpen
  split
  · rename_i i hi
    obtain ⟨inRange, opened⟩ := openSeg_some hi
    rw [statusAt_putStatus]
    split
    · decide
    · rename_i other
      intro oj
      have same := opened_unique h inRange hj opened oj
      refine other ⟨same, ?_⟩
      by_contra outside
      rw [statusAt, List.getD_eq_default _ _ (by omega)] at oj
      cases oj
  · rename_i none
    exact openSeg_none none hj

/-- The schedule stops and a countdown halts with a conclusion (R19, R160). -/
def Retention.concluded (r : Retention) : Retention :=
  { r with
    schedule := .stopped
    countdown := match r.countdown with
      | .counting _ _ => .halted
      | .idle => .idle
      | .expired => .expired
      | .halted => .halted }

/-- The evidence engine of a station that becomes CONCLUDED (R160). -/
def Eve.concluded (e : Eve) (c : Cmr) (f : FinalFigures) : Eve :=
  { e with
    station := .concluded
    committedExposure := figureOr c 2 e.committedExposure
    committedDrawn := figureOr c 3 e.committedDrawn
    lastVerdict := e.lastVerdict.higher f.verdict
    inputs := [] }

/-- Its blocks, before the reply. -/
def concludeBlocks (f : FinalFigures) (s : State) : State :=
  ((((s.setRet s.ret.concluded).setTmb { s.tmb with stall := none }).setChc s.chc.conclude).setEve
    (s.eve.concluded s.cmr f))

theorem becomeConcluded_eq (reader : PartyId) (f : FinalFigures) (recorded : Bool) (locked failed : Nat) (s : State) :
    becomeConcluded reader f recorded locked failed s =
      complete reader (.conclude f recorded locked failed) (concludeBlocks f (closeOpen s)) := rfl

theorem concludeBlocks_follows {s : State} {f : FinalFigures} (hf : AccountsBacked s → backed s f.verdict = true) :
    Follows s (concludeBlocks f s) :=
  ((Follows.setRet_sameTime (s := s) (by rfl) (by rfl)).trans ((Follows.setTmb _ _).trans (.setChc _ _ (Chc.conclude_queue _).trans))).trans
    (.setEve _ _ (fun hb => ⟨hb.1, backed_higher hb.2.1 (hf hb), hb.2.2.1⟩) (by exact id))

/-! ### Fates -/

theorem AccountsBacked.service {s : State} (h : AccountsBacked s) : serviceBacked s = true := h.2.2.2.2.2.2.1
theorem AccountsBacked.program {s : State} (h : AccountsBacked s) : programBacked s = true := h.2.2.2.2.2.2.2

/-! The verdict of the final figures that a conclusion holds. -/

section
variable {s : State} {reader : PartyId} {tag : List Byte} {f : FinalFigures}

theorem serviceBacked_mark (service : s.rqs.service = some (.conclude reader tag (.mark f)))
    (h : serviceBacked s = true) : backed s f.verdict = true := by
  simpa only [serviceBacked, service] using h

theorem serviceBacked_figure {i : Nat} (service : s.rqs.service = some (.conclude reader tag (.figure f i)))
    (h : serviceBacked s = true) : backed s f.verdict = true := by
  simpa only [serviceBacked, service] using h

theorem serviceBacked_entry (service : s.rqs.service = some (.conclude reader tag (.entry f)))
    (h : serviceBacked s = true) : backed s f.verdict = true := by
  simpa only [serviceBacked, service] using h

theorem serviceBacked_locking {recorded again : Bool} {tried : List Nat} {locked failed : Nat}
    (service : s.rqs.service = some (.conclude reader tag (.locking f recorded tried again locked failed)))
    (h : serviceBacked s = true) : backed s f.verdict = true := by
  simpa only [serviceBacked, service] using h

end

/-- The station becomes CONCLUDED after its lock marks. -/
theorem becomeConcluded_follows {s : State} {reader' reader : PartyId} {tag : List Byte} {f : FinalFigures}
    {recorded again : Bool} {tried : List Nat} {locked failed : Nat}
    (service : s.rqs.service = some (.conclude reader' tag (.locking f recorded tried again locked failed))) :
    Follows s (becomeConcluded reader f recorded locked failed s) := by
  rw [becomeConcluded_eq]
  have closed : (closeOpen s).rqs.service = some (.conclude reader' tag (.locking f recorded tried again locked failed)) := by
    rw [closeOpen_rqs, service]
  exact (closeOpen_follows s).trans ((concludeBlocks_follows fun h => serviceBacked_locking closed h.service).trans
    (complete_follows _ _ (.inl (by simp [programmingFigures, concludeBlocks, service]))))

theorem blockFate_follows {programmed : Bool} {e : Entry} {s : State}
    (h : programmed = true → AccountsBacked s → entryBacked s e = true) : Follows s (blockFate programmed e s) := by
  cases e with
  | epoch | gap => exact coverageFate_follows h
  | leg => exact settleLeg_follows ..
  | run | door | checkpoint | conclude => exact .refl s

theorem blockFate_refused (s : State) (e : Entry) : Follows s (blockFate false e s) :=
  blockFate_follows fun h => by cases h

theorem freeze_follows (s : State) : Follows s (freeze s) := by
  unfold freeze
  dsimp only
  refine Follows.trans (t := s.setJst _) (.setJst_sublist (j := { s.jst with
    queue := if programmingEntry s then s.jst.queue.take 1 else [], frozen := true }) ?_ rfl)
    (Follows.foldl blockFate_refused _ _)
  dsimp only
  split
  · exact List.take_sublist ..
  · exact List.nil_sublist _

theorem concludeFate_follows (recorded : Bool) (s : State) : Follows s (concludeFate recorded s) := by
  unfold concludeFate
  split
  · rename_i service
    exact Follows.trans (.setService _ (fun h => by
        have figures := serviceBacked_entry service h.service
        exact figures) (.inl (by simp [programmingFigures, service]))) (freeze_follows _)
  · exact .refl s

theorem offerConclude_follows {s : State} (reader : PartyId) (tag : List Byte) {f : FinalFigures}
    (hf : AccountsBacked s → backed s f.verdict = true) (hp : s.cmr.program = .none) :
    Follows s (offerConclude reader tag f s) := by
  have offered : Follows s (offer (.conclude ⟨f, reader, tag, f.epoch.getD s.ret.epoch⟩) s).1 :=
    offer_follows fun _ => entryBacked_conclude ..
  have backedFigures : AccountsBacked s →
      backed (offer (.conclude ⟨f, reader, tag, f.epoch.getD s.ret.epoch⟩) s).1 f.verdict = true := fun h => by
    simpa [backed] using hf h
  have entered : Follows s (setService (some (.conclude reader tag (.entry f)))
      (offer (.conclude ⟨f, reader, tag, f.epoch.getD s.ret.epoch⟩) s).1) :=
    ⟨offered.logic, offered.pending, offered.identity, offered.consignment, offered.bounded, offered.clock,
      offered.oneOpen, fun _ => rfl, fun h => by
        obtain ⟨h1, h2, h3, h4, h5, h6, -, h8⟩ := offered.accounts h
        exact ⟨h1, h2, h3, h4, h5, h6, backedFigures h, programBacked_setService _ (.inr (by simpa using hp)) h8⟩,
      offered.waiting⟩
  unfold offerConclude
  dsimp only
  exact .ite entered (entered.trans (concludeFate_follows ..))

theorem reportFate_follows {programmed : Bool} {e : Entry} {s : State}
    (h : programmed = true → AccountsBacked s → entryBacked s e = true) : Follows s (reportFate programmed e s) := by
  cases e with
  | epoch | run | gap | leg | door => exact blockFate_follows h
  | checkpoint => exact checkpointFate_follows ..
  | conclude => exact concludeFate_follows ..

theorem reportFate_refused (s : State) (e : Entry) : Follows s (reportFate false e s) :=
  reportFate_follows fun h => by cases h

theorem refuseQueue_follows (s : State) : Follows s (refuseQueue s) :=
  Follows.trans (t := s.setJst { s.jst with queue := [], secondTry := false })
    (.setJst_sublist (List.nil_sublist _) rfl) (Follows.foldl reportFate_refused _ _)

/-! ### The programs of the commission record -/

theorem conclusionDue_backed {s : State} {p : CrProgram} (h : conclusionDue s = some p) :
    programBacked (s.setCmr { s.cmr with program := p }) = true := by
  unfold conclusionDue at h
  split at h
  · cases h
    rfl
  · rename_i service
    split at h
    · rename_i small
      cases h
      simp only [programBacked, figureProgram, State.setCmr_cmr, State.setCmr_rqs, service]
      simpa using small
    · cases h
  · cases h

theorem recordDone_follows {s : State} (hp : s.cmr.program = .none) : Follows s (recordDone s) := by
  unfold recordDone
  split
  · rename_i service
    exact offerConclude_follows _ _ (fun h => serviceBacked_figure service h.service) hp
  · exact .refl s

/-- What `nextProgram` begins is a verdict mark's program or the one a conclusion has due. -/
theorem nextProgram_cases (env : Env) (mark : Option Verdict) {s : State} (hp : s.cmr.program = .none) :
    (∃ v, mark = some v ∧ nextProgram env mark s = s.setCmr { s.cmr with program := .verdictMark v }) ∨
    (∃ p, conclusionDue s = some p ∧ nextProgram env mark s = s.setCmr { s.cmr with program := p }) ∨
    (mark = none ∧ conclusionDue s = none ∧ nextProgram env mark s = recordDone s) := by
  cases mark with
  | none =>
    cases hd : conclusionDue s with
    | none => exact .inr (.inr ⟨rfl, rfl, nextProgram_done env hp hd⟩)
    | some p => exact .inr (.inl ⟨p, rfl, nextProgram_conclusion env hp hd⟩)
  | some v =>
    cases hd : conclusionDue s with
    | none => exact .inl ⟨v, rfl, nextProgram_mark env v hp hd⟩
    | some p =>
      rw [nextProgram_drawn env v hp hd]
      split
      · exact .inr (.inl ⟨p, rfl, rfl⟩)
      · exact .inl ⟨v, rfl, rfl⟩

theorem nextProgram_follows (env : Env) (mark : Option Verdict) (s : State) : Follows s (nextProgram env mark s) := by
  by_cases hp : s.cmr.program = .none
  · have noPiece : ∀ p, waitingBacked s = true → waitingBacked (s.setCmr { s.cmr with program := p }) = true :=
      fun p hw => waitingBacked_none (current_of_waitingBacked (s := s) hw hp)
    obtain ⟨v, -, next⟩ | ⟨p, due, next⟩ | ⟨-, -, next⟩ := nextProgram_cases env mark hp
    · rw [next]
      exact .setProgram _ (fun _ => rfl) (noPiece _)
    · rw [next]
      exact .setProgram p (fun _ => conclusionDue_backed due) (noPiece p)
    · rw [next]
      exact recordDone_follows hp
  · rw [nextProgram_programming env mark hp]
    exact .refl s

/-! ### The end of a command -/

theorem openFailed_follows (why : AllocWhy) (s : State) : Follows s (openFailed why s) := by
  refine Follows.trans (t := s.setJst { s.jst with wantOpen := none }) (.setJst_same (by rfl) (by rfl)) ?_
  cases why with
  | startUp => exact (fillStore_follows _).trans (refuseQueue_follows _)
  | commissioning => exact finishOpening_follows _
  | activation | rollover | target => exact .refl _

theorem openStage_follows (s : State) : Follows s (openStage s) := by
  unfold openStage
  split
  · split
    · split
      · exact setAccess_follows ..
      · exact openFailed_follows ..
    · exact .refl s
  · exact .refl s

theorem rollover_follows (s : State) : Follows s (rollover s) := by
  unfold rollover
  split
  · exact setAccess_follows ..
  · exact .ite (Follows.trans (.setJst_same (by rfl) (by rfl)) (refuseQueue_follows _))
      ((fillStore_follows s).trans (refuseQueue_follows _))

theorem headStage_follows (s : State) : Follows s (headStage s) := by
  unfold headStage
  split
  · split
    · split
      · exact setAccess_follows ..
      · exact rollover_follows s
    · exact .refl s
  · exact .refl s

theorem readStage_follows (first : Bool) (s : State) : Follows s (readStage first s) := by
  unfold readStage
  split
  · rename_i service
    exact .ite (.setService _ (fun _ => rfl) (.inl (by simp [programmingFigures, service]))) (.refl s)
  · exact .refl s

theorem markStage_follows (s : State) : Follows s (markStage s) := by
  unfold markStage
  split
  · split
    · split
      · exact setAccess_follows ..
      · exact .refl s
    · rename_i service
      split
      · exact setAccess_follows ..
      · exact becomeConcluded_follows service
    · exact .refl s
  · exact .refl s

theorem beginErase_follows (i : Nat) (a : Access) (s : State) : Follows s (beginErase i a s) :=
  .ite (.refl s) ((putStatus_follows s (by decide)).trans (setAccess_follows ..))

theorem eraseSource_follows (source : Option (Nat × Nat)) (s : State) : Follows s (eraseSource source s) := by
  unfold eraseSource
  split
  · exact beginErase_follows ..
  · exact .refl s

theorem jobStep_follows (s : State) : Follows s (jobStep s) := by
  unfold jobStep
  dsimp only
  split
  case h_1 =>
    split
    · exact beginErase_follows ..
    · exact .refl s
  case h_2 =>
    split
    · exact setAccess_follows ..
    · split
      · exact (setJob_follows ..).trans (setAccess_follows ..)
      · exact (endJob_follows ..).trans (settleShort_follows _)
  case h_3 =>
    split
    · exact setAccess_follows ..
    · exact (endJob_follows ..).trans (settleShort_follows _)
  case h_4 => exact .ite (setAccess_follows ..) (setAccess_follows ..)
  case h_5 => exact setAccess_follows ..
  case h_6 | h_7 => exact eraseSource_follows ..

theorem jobStage_follows (s : State) : Follows s (jobStage s) := by
  unfold jobStage
  split
  · split
    · exact .setJst_same (by rfl) (by rfl)
    · exact jobStep_follows s
  · exact .refl s

theorem turn_follows (env : Env) (s : State) : Follows s (turn env s) :=
  ((checkpointStage_follows s).trans (openStage_follows _)).trans
    ((Follows.ite (readStage_follows ..) (.refl _)).trans ((headStage_follows _).trans
      ((readStage_follows ..).trans ((markStage_follows _).trans (jobStage_follows _)))))

theorem settle_follows (env : Env) (s : State) : Follows s (settle env s) :=
  .ite ((turn_follows env s).trans ((turn_follows env _).trans (kick_follows env _))) (.refl s)

theorem answerDiscovers_follows (env : Env) (s : State) : Follows s (answerDiscovers env s) :=
  Follows.trans (.setRqs_same (by rfl)) (Follows.foldl (fun s _ => holdDiscover_follows _ _ s) _ _)

/-! ### Quarter ends, countdown and conversions -/

theorem startConversions_follows (quarter : Nat) (s : State) : Follows s (startConversions quarter s) :=
  .ite (.setTch ..) (.refl s)

theorem epochEndPeers_follows (epoch : Nat) (s : State) : Follows s (epochEndPeers epoch s) :=
  .ite (.refl s) ((handView_follows ..).trans (closeTable_follows ..))

theorem epochEndDoor_follows (epoch : Nat) (s : State) : Follows s (epochEndDoor epoch s) :=
  .ite ((Follows.setDmn s _).trans ((handDoor_follows ..).trans (settleEpisode_follows ..))) (.refl s)

theorem epochEnd_follows (env : Env) (epoch : Nat) (s : State) : Follows s (epochEnd env epoch s) :=
  .ite ((epochEndPeers_follows epoch s).trans ((epochEndDoor_follows epoch _).trans
    ((startSchedule_follows env epoch _).trans (lateRequests_follows _)))) (.refl s)

theorem stopStall_follows (s : State) : Follows s (stopStall s) := .ite (.setTmb ..) (.refl s)

theorem clockOk_iff (s : State) : clockOk s = true ↔
    (s.retValid = true → 1 ≤ s.ret.quarter ∧ s.ret.quarter ≤ 4 ∧ s.ret.epoch ≤ Config.maxEpoch) := by
  cases h : s.retValid <;> simp [clockOk, h]

theorem quarterEnd_follows (s : State) : Follows s (s.setRet s.ret.quarterEnd) :=
  .setRet s _ fun h => by
    rw [clockOk_iff] at *
    intro valid
    obtain ⟨low, high, epoch⟩ := h valid
    simp only [State.setRet_ret]
    unfold Retention.quarterEnd
    split
    · exact ⟨low, high, epoch⟩
    · dsimp only
      split <;> omega
    · split_ifs <;> dsimp only <;> omega
    · exact ⟨low, high, epoch⟩

theorem runningQuarterEnd_follows (env : Env) (s : State) : Follows s (runningQuarterEnd env s) := by
  have ended := (quarterEnd_follows s).trans (stopStall_follows _)
  unfold runningQuarterEnd
  dsimp only
  split
  · exact ended
  · exact ended
  · exact ended.trans (.ite (.refl _) (.ite (listeningClose_follows _) (.refl _)))
  · exact ended.trans ((startConversions_follows ..).trans (.ite (.refl _) (epochEnd_follows ..)))

theorem countdownStep_clock {r : Retention} (h : 1 ≤ r.quarter ∧ r.quarter ≤ 4 ∧ r.epoch ≤ Config.maxEpoch) :
    1 ≤ r.countdownStep.quarter ∧ r.countdownStep.quarter ≤ 4 ∧ r.countdownStep.epoch ≤ Config.maxEpoch := by
  unfold Retention.countdownStep
  split
  · split
    · dsimp only
      omega
    · exact h
  all_goals exact h

theorem countdownStep_follows (s : State) : Follows s (s.setRet s.ret.countdownStep) :=
  .setRet s _ fun h => by
    rw [clockOk_iff] at *
    exact fun valid => countdownStep_clock (h valid)

theorem startEve_follows (s : State) (station : Station) (n : Nat) : Follows s (s.setEve (.initial station n)) :=
  .setEve s _ (fun _ => ⟨backed_intact s, backed_intact s, fun _ h => by simp [Eve.initial] at h⟩)
    fun _ => waitingBacked_none rfl

theorem startDelayExpiry_follows (s : State) : Follows s (startDelayExpiry s) :=
  (startEve_follows s .active 0).trans ((Follows.setRet_sameTime (by rfl) (by rfl)).trans ((startStall_follows ..).trans
    ((askOpen_follows ..).trans (activateBlocks_follows _))))

theorem handOver_follows (s : State) : Follows s (handOver s) := by
  unfold handOver
  dsimp only
  exact (Follows.ite ((Follows.setTch s _).trans (handReadings_follows ..)) (.refl s)).trans
    (.ite ((Follows.setTch _ _).trans (handReadings_follows ..)) (.refl _))

/-! ### Requests -/

theorem serve_follows {s : State} (reader : PartyId) (code : Byte) (allowed : Bool) {go : State → State}
    (h : serviceBusy s = false → Follows s (go s)) : Follows s (serve reader code allowed go s) := by
  unfold serve
  split
  · exact refuse_follows ..
  · rename_i free
    exact .ite (h (by simpa using free)) (refuse_follows ..)

theorem free_of_serviceBusy {s : State} (h : serviceBusy s = false) :
    s.rqs.service = none ∧ s.cmr.program = .none := by
  simpa [serviceBusy] using h

theorem programByte_follows {s : State} (reader : PartyId) {todo : List (Nat × Byte)} (again : Bool)
    (adjusted : List (Nat × Int)) (hp : s.cmr.program = .none)
    (ht : AccountsBacked s → ∀ p ∈ todo, p.1 ≤ commitAddress) : Follows s (programByte reader todo again adjusted s) := by
  unfold programByte
  split
  · rename_i a v rest
    exact ⟨rfl, rfl, rfl, rfl, id, id, id, fun _ => rfl,
      fun h => by
        obtain ⟨h1, h2, h3, h4, h5, h6, -, -⟩ := id h
        exact ⟨h1, h2, h3, h4, h5, h6, by simpa [serviceBacked, setService] using ht h,
          by simpa [programBacked] using ht h (a, v) (.head _)⟩,
      fun hw => waitingBacked_none (current_of_waitingBacked (s := s) hw hp)⟩
  · exact .refl s

theorem completeCommission_follows {s : State} (reader : PartyId) (adjusted : List (Nat × Int))
    (hp : s.cmr.program = .none) : Follows s (completeCommission reader adjusted s) := by
  have clock : Follows s (s.setRet (s.ret.commissioned s.cmr.startDelay)) :=
    .setRet s _ fun _ => by simp [clockOk_iff, Retention.commissioned]
  unfold completeCommission
  dsimp only
  refine clock.trans ((Follows.setTmb _ _).trans ((startEve_follows _ _ _).trans
    ((Follows.setPtb _ _ (fun _ => Nat.zero_le _) fun _ _ => rfl).trans
      ((Follows.setRqs_same (by rfl)).trans (.ite ?_ (complete_follows _ _ (.inr hp)))))))
  exact Follows.trans (.setJst_same (by rfl) (by rfl)) (.setService _ (fun _ => rfl) (.inr hp) fun _ => rfl)

theorem beginFragment_follows {s : State} (c : Cursor) (asked : Asked) (h : programmingFigures s = false) :
    Follows s (beginFragment c asked s) :=
  (Follows.setService _ (fun _ => rfl) (.inl h)).trans (suspend_follows _)

theorem beginMarking_follows {s : State} (left : Leftover) (reader : PartyId) (number epoch : Nat)
    (h : programmingFigures s = false) : Follows s (beginMarking left reader number epoch s) :=
  (dealForCheckpoint_follows left s).trans
    ((setCheckpoint_follows _ _ _ _ (by simpa [programmingFigures] using h)).trans (settleShort_follows _))

theorem takeCheckpoint_follows {s : State} (reader : PartyId) (left : Leftover) (h : programmingFigures s = false) :
    Follows s (takeCheckpoint reader left s) := by
  unfold takeCheckpoint
  dsimp only
  exact Follows.trans (.setRqs_same (by rfl)) (.ite (setCheckpoint_follows _ _ _ _ h) (beginMarking_follows _ _ _ _ h))

theorem takeConclusion_follows {s : State} (env : Env) (reader : PartyId) (tag : List Byte) (left : Leftover)
    (h : serviceBusy s = false) : Follows s (takeConclusion env reader tag left s) := by
  obtain ⟨service, hp⟩ := free_of_serviceBusy h
  have rests : programmingFigures s = false := by simp [programmingFigures, service]
  exact .ite (beginMark_follows _ _ (fun _ => backed_intact s) hp)
    (.ite (.setService _ (fun _ => rfl) (.inl rests)) (beginClosing_follows _ _ _ _ rests))

/-! ### The commands of the journal array -/

/-- The head of the queue leaves it, and its block takes its verdict where it was programmed. -/
theorem settleHead_follows {programmed : Bool} {e : Entry} {s : State} (h : e ∈ s.jst.queue) :
    Follows s (settleHead programmed e s) := by
  have tailed : ∀ t : State, Follows t (t.setJst { t.jst with queue := t.jst.queue.tail, secondTry := false }) :=
    fun t => .setJst_sublist (List.tail_sublist _) rfl
  cases programmed with
  | false => exact (tailed s).trans (reportFate_refused _ e)
  | true =>
    cases e with
    | epoch x =>
      exact Follows.trans (t := s.setEve
          { s.eve with committedExposure := x.exposure, committedDrawn := x.drawn, lastVerdict := x.verdict })
        (.setEve s _ (fun hb => ⟨hb.1, hb.2.2.2.1 _ h, hb.2.2.1⟩) (by exact id)) (tailed _)
    | gap x =>
      exact Follows.trans (t := s.setEve { s.eve with lastVerdict := x.verdict })
        (.setEve s _ (fun hb => ⟨hb.1, hb.2.2.2.1 _ h, hb.2.2.1⟩) (by exact id)) (tailed _)
    | leg x => exact (tailed s).trans (settleLeg_follows ..)
    | run | door => exact tailed s
    | checkpoint => exact (tailed s).trans (checkpointFate_follows ..)
    | conclude => exact (tailed s).trans (concludeFate_follows ..)

theorem entryFailed_follows {e : Entry} {s : State} (h : e ∈ s.jst.queue) : Follows s (entryFailed e s) :=
  .ite (settleHead_follows h) (.setJst_same (by rfl) (by rfl))

theorem afterJobStep_follows (env : Env) (s : State) : Follows s (afterJobStep env s) := by
  unfold afterJobStep
  split
  · rename_i service
    exact beginMarking_follows _ _ _ _ (by simp [programmingFigures, service])
  · rename_i service
    exact beginClosing_follows _ _ _ _ (by simp [programmingFigures, service])
  · exact .refl s

theorem becomeOpen_eq (i : Nat) (s : State) : becomeOpen i s =
    putStatus i .opened ((closeOpen s).setJst { (closeOpen s).jst with wantOpen := none }) := rfl

/-- The segment before it is FULL, and the new one alone is OPEN (R111). -/
theorem becomeOpen_follows {s : State} (i : Nat) (h : s.logic ≠ .startUp) : Follows s (becomeOpen i s) := by
  rw [becomeOpen_eq]
  have closed : Follows s ((closeOpen s).setJst { (closeOpen s).jst with wantOpen := none }) :=
    (closeOpen_follows s).trans (.setJst_same (by rfl) (by rfl))
  refine ⟨closed.logic, closed.pending, closed.identity, closed.consignment, closed.bounded, closed.clock, fun ho => ?_,
    closed.opening, closed.accounts, closed.waiting⟩
  have logic : (putStatus i .opened ((closeOpen s).setJst { (closeOpen s).jst with wantOpen := none })).logic ≠ .startUp :=
    closed.logic ▸ h
  refine (oneOpen_iff _).mpr ⟨openCount_le_one_of_forall_eq (k := i) fun j hj oj => ?_, fun startUp => absurd startUp logic⟩
  rw [statusAt_putStatus] at oj
  split at oj
  · rename_i same
    exact same.1.symm
  · exact absurd oj (openCount_closeOpen ((oneOpen_iff s).mp ho).1 hj)

theorem becomeTarget_follows (i : Nat) (f : AllocFields) (s : State) : Follows s (becomeTarget i f s) :=
  (putStatus_follows s (by decide)).trans (setJob_follows ..)

theorem allocated_follows {s : State} (env : Env) (why : AllocWhy) (i : Nat) (f : AllocFields)
    (h : s.logic ≠ .startUp) : Follows s (allocated env why i f s) := by
  cases why with
  | rollover | activation => exact (becomeOpen_follows i h).trans (evaluateTrigger_follows _)
  | commissioning =>
    exact (becomeOpen_follows i h).trans ((finishOpening_follows _).trans (evaluateTrigger_follows _))
  | startUp => exact becomeOpen_follows i h
  | target => exact (becomeTarget_follows i f s).trans (afterJobStep_follows env _)

theorem planningRead_follows (s : State) : Follows s (planningRead s) := by
  unfold planningRead
  dsimp only
  split
  · exact setJob_follows ..
  · split
    · exact .ite (setJob_follows ..) (setJob_follows ..)
    · exact setJob_follows ..

theorem pageReadTaken_follows (composed : Bool) (s : State) : Follows s (pageReadTaken composed s) := by
  unfold pageReadTaken
  split
  · exact .refl s
  · split
    case h_1 => exact .ite (planningRead_follows s) (.refl s)
    case h_2 => exact setJob_follows ..
    all_goals exact .refl s

theorem commitTarget_follows (s : State) : Follows s (commitTarget s) := by
  have retire : ∀ (source : Option (Nat × Nat)) (s : State), Follows s (match source with
      | some (i, _) => putStatus i .retiring s
      | none => s) := by
    intro source s
    split
    · exact putStatus_follows s (by decide)
    · exact .refl s
  unfold commitTarget
  dsimp only
  refine Follows.trans (t := match s.jst.job.targetSeg with
    | some t => putStatus t .full (setHeader t (fun h => { h with commit := true }) s)
    | none => s) ?_ ((retire s.jst.job.first _).trans ((retire s.jst.job.second _).trans (setJob_follows ..)))
  split
  · exact (setHeader_follows ..).trans (putStatus_follows _ (by decide))
  · exact .refl s

theorem commitClear_follows (s : State) : Follows s (commitClear s) :=
  .ite (.refl s) (.ite (abandonJob_follows s) (setJob_follows ..))

theorem sourceErased_follows (s : State) : Follows s (sourceErased s) := by
  unfold sourceErased
  split
  case h_1 => exact (setJob_follows ..).trans (settleShort_follows _)
  case h_2 => exact (endJob_follows ..).trans ((settleShort_follows _).trans (evaluateTrigger_follows _))
  all_goals exact .refl s

end Sys2Proof.Machine


/-! Programs of the commission record: bits go from one to zero alone (R105, R181), so marks stay set and verdicts stay
backed (R95, R96). -/

namespace Sys2Proof.Machine

/-! ### Memories that lose ones -/

/-- From a canonical memory to a canonical one with no bit set that was clear. -/
def Loses (m m' : Memory) : Prop :=
  Memory.wf m = true → Memory.wf m' = true ∧ ∀ a, Memory.read m' a &&& Memory.read m a = Memory.read m' a

theorem Loses.refl (m : Memory) : Loses m m := fun h => ⟨h, fun _ => BitVec.and_self⟩

theorem Loses.trans {m m' m'' : Memory} (x : Loses m m') (y : Loses m' m'') : Loses m m'' := fun h => by
  obtain ⟨h', lost⟩ := x h
  obtain ⟨h'', lost'⟩ := y h'
  exact ⟨h'', fun a => by rw [← lost' a, BitVec.and_assoc, lost a]⟩

theorem Loses.program (m : Memory) (a : Nat) (v miss : Byte) : Loses m (Memory.program m a v miss) :=
  fun h => ⟨Memory.program_wf h a v miss, fun b => Memory.program_loses h a b v miss⟩

theorem Loses.programBytes (vs : List Byte) : ∀ (m : Memory) (a : Nat) (miss : List Byte),
    Loses m (Memory.programBytes m a vs miss) := by
  induction vs with
  | nil => exact fun m _ _ => .refl m
  | cons v vs ih => exact fun m a miss => (Loses.program m a v _).trans (ih _ _ _)

/-- A program of bytes leaves what stands below and above them. -/
theorem Memory.read_programBytes_outside (vs : List Byte) : ∀ {m : Memory} {a b : Nat} (miss : List Byte),
    m.wf = true → b < a ∨ a + vs.length ≤ b → Memory.read (m.programBytes a vs miss) b = m.read b := by
  induction vs with
  | nil => intro m a b miss _ _; rfl
  | cons v vs ih =>
    intro m a b miss h outside
    simp only [List.length_cons] at outside
    rw [Memory.programBytes, ih _ (Memory.program_wf h a v _) (by omega), Memory.read_program h,
      if_neg (by omega)]

theorem Memory.read_le_of_loses {m m' : Memory} (h : m.wf = true) (lost : Loses m m') (a : Nat) :
    (Memory.read m' a).toNat ≤ (Memory.read m a).toNat := by
  rw [← (lost h).2 a, BitVec.toNat_and]
  exact Nat.and_le_right

/-! ### Marks -/

theorem Cmr.byte_def (c : Cmr) (a : Nat) : c.byte a = Memory.read c.consignment a := rfl

/-- A set mark stays set. -/
theorem Cmr.markSet_mono {c c' : Cmr} (h : c.consignment.wf = true) (lost : Loses c.consignment c'.consignment) {a : Nat}
    (set : c.markSet a = true) : c'.markSet a = true := by
  simp only [Cmr.markSet, Cmr.byte_def, bne_iff_ne, ne_eq] at *
  intro clear
  have kept := (lost h).2 a
  rw [clear] at kept
  refine set ?_
  have ones : erasedByte = BitVec.allOnes 8 := rfl
  rwa [ones, BitVec.allOnes_and] at kept

theorem Cmr.highestMark_mono {c c' : Cmr} (h : c.consignment.wf = true) (lost : Loses c.consignment c'.consignment) :
    c.highestMark.rank ≤ c'.highestMark.rank := by
  have broken := Cmr.markSet_mono h lost (a := 48)
  have unproven := Cmr.markSet_mono h lost (a := 47)
  have strained := Cmr.markSet_mono h lost (a := 46)
  unfold Cmr.highestMark
  split_ifs <;> simp_all [Verdict.rank]

/-! ### A state whose commission record has lost ones -/

/-- The state with the consignment part as a program has left it, and no program in progress. -/
def programmed (m : Memory) (s : State) : State := s.setCmr { s.cmr with consignment := m, program := .none }

theorem backed_programmed {s : State} {m : Memory} (h : s.cmr.consignment.wf = true) (lost : Loses s.cmr.consignment m)
    {v : Verdict} (hv : backed s v = true) : backed (programmed m s) v = true := by
  have rises := Cmr.highestMark_mono (c := s.cmr) (c' := (programmed m s).cmr) h lost
  simp only [backed, decide_eq_true_eq] at *
  omega

theorem Cmr.figureWhole_one (c : Cmr) : c.figureWhole 1 = !(Memory.read c.consignment doneAddress).getLsbD 1 := rfl

theorem Cmr.number_one (c : Cmr) (a : Nat) : c.number a 1 = (Memory.read c.consignment a).toNat := by
  simp [Cmr.number, Memory.readBytes, beNat]

theorem Verdict.rank_ofCode (n : Nat) : (Verdict.ofCode n).rank = min n 3 := by
  match n with
  | 0 | 1 | 2 => rfl
  | n + 3 => simp [Verdict.ofCode, Verdict.rank]

theorem Verdict.ofCode_rank (v : Verdict) : Verdict.ofCode v.rank = v := by cases v <;> rfl

/-- Where the stored verdict is not newly whole, it stays backed: it can only have lost ones. -/
theorem figureBacked_programmed {s : State} {m : Memory} (h : s.cmr.consignment.wf = true)
    (lost : Loses s.cmr.consignment m)
    (done : Memory.read m doneAddress = Memory.read s.cmr.consignment doneAddress ∨
      (Memory.read m doneAddress).getLsbD 1 = (Memory.read s.cmr.consignment doneAddress).getLsbD 1)
    (hf : s.cmr.figureWhole 1 = true → backed s (Verdict.ofCode (s.cmr.number 54 1)) = true)
    (whole : (programmed m s).cmr.figureWhole 1 = true) :
    backed (programmed m s) (Verdict.ofCode ((programmed m s).cmr.number 54 1)) = true := by
  have wasWhole : s.cmr.figureWhole 1 = true := by
    rw [Cmr.figureWhole_one] at whole ⊢
    obtain same | same := done
    · rwa [← same]
    · rwa [← same]
  have shrinks : ((programmed m s).cmr.number 54 1) ≤ s.cmr.number 54 1 := by
    rw [Cmr.number_one, Cmr.number_one]
    exact Memory.read_le_of_loses h lost 54
  refine backed_of_rank_le ?_ (backed_programmed h lost (hf wasWhole))
  rw [Verdict.rank_ofCode, Verdict.rank_ofCode]
  omega

theorem slotBacked_mono {s t : State} (h : ∀ v, backed s v = true → backed t v = true) {x : Slot}
    (hx : slotBacked s x = true) : slotBacked t x = true := by
  cases x with
  | one | first => exact h _ hx
  | cont | erased | void | unreadable => rfl

theorem pieceBacked_mono {s t : State} (h : ∀ v, backed s v = true → backed t v = true) {x : Piece}
    (hx : pieceBacked s x = true) : pieceBacked t x = true := by
  cases x with
  | restoration => exact h _ hx
  | ordinary | partialClose | lateRefusal => rfl

theorem serviceBacked_programmed {s : State} {m : Memory}
    (h : ∀ v, backed s v = true → backed (programmed m s) v = true)
    (hs : serviceBacked s = true) : serviceBacked (programmed m s) = true := by
  have service : (programmed m s).rqs = s.rqs := rfl
  unfold serviceBacked at *
  rw [service]
  split at hs
  case h_5 => exact hs
  case h_6 => rfl
  all_goals exact h _ hs

theorem AccountsBacked.programmed {s : State} {m : Memory} (hb : AccountsBacked s)
    (h : s.cmr.consignment.wf = true) (lost : Loses s.cmr.consignment m)
    (figure : (Machine.programmed m s).cmr.figureWhole 1 = true →
      backed (Machine.programmed m s) (Verdict.ofCode ((Machine.programmed m s).cmr.number 54 1)) = true) :
    AccountsBacked (Machine.programmed m s) := by
  have mono : ∀ v, backed s v = true → backed (Machine.programmed m s) v = true := fun v => backed_programmed h lost
  obtain ⟨verdict, last, work, queue, store, -, service, -⟩ := hb
  exact ⟨mono _ verdict, mono _ last, fun p hp => pieceBacked_mono mono (work p hp), fun e he => mono _ (queue e he),
    fun g hg x hx => slotBacked_mono mono (store g hg x hx), figure, serviceBacked_programmed mono service, rfl⟩

/-- A program that does not touch the figures-done byte. -/
theorem AccountsBacked.programmed_sameDone {s : State} {m : Memory} (hb : AccountsBacked s)
    (h : s.cmr.consignment.wf = true) (lost : Loses s.cmr.consignment m)
    (done : Memory.read m doneAddress = Memory.read s.cmr.consignment doneAddress) :
    AccountsBacked (Machine.programmed m s) :=
  hb.programmed h lost (figureBacked_programmed h lost (.inl done) hb.2.2.2.2.2.1)

theorem AccountsBacked.programmed_byte {s : State} (hb : AccountsBacked s) (h : s.cmr.consignment.wf = true)
    {a : Nat} (v miss : Byte) (ha : a ≠ doneAddress) :
    AccountsBacked (Machine.programmed (Memory.program s.cmr.consignment a v miss) s) :=
  hb.programmed_sameDone h (.program _ _ _ _) (by rw [Memory.read_program h, if_neg (Ne.symm ha)])

@[simp] theorem beBytes_length (w : Nat) : ∀ n, (beBytes w n).length = w := by
  induction w with
  | zero => exact fun _ => rfl
  | succ w ih => exact fun n => by simp [beBytes, ih]

/-- The fields of the final figures stand below the figures-done byte (R185). -/
theorem FinalFigures.bytes_below_done (f : FinalFigures) {i : Nat} (hi : i < 5) :
    figureAddress i + (f.bytes i).length ≤ doneAddress := by
  match i, hi with
  | 0, _ =>
    simp only [FinalFigures.bytes, figureAddress, doneAddress]
    split <;> simp [beBytes_length]
  | 1, _ | 2, _ | 3, _ | 4, _ => simp [FinalFigures.bytes, figureAddress, doneAddress, beBytes_length]

/-- A program of a figure that a stop cuts off (R158). -/
theorem AccountsBacked.programmed_figure {s : State} (hb : AccountsBacked s) (h : s.cmr.consignment.wf = true)
    (f : FinalFigures) {i : Nat} (hi : i < 5) (miss : List Byte) :
    AccountsBacked (Machine.programmed
      (Memory.programBytes s.cmr.consignment (figureAddress i) (f.bytes i) miss) s) :=
  hb.programmed_sameDone h (.programBytes _ _ _ _)
    (Memory.read_programBytes_outside _ _ h (.inr (f.bytes_below_done hi)))

theorem figureTaken_loses (i a : Nat) (bs : List Byte) (miss : BitVec 32) (c : Cmr) :
    Loses c.consignment (figureTaken i a bs miss c).consignment := by
  unfold figureTaken
  dsimp only
  split
  · exact (Loses.programBytes _ _ _ _).trans (.program _ _ _ _)
  · exact .programBytes _ _ _ _

/-- A figure that reads back as composed becomes whole; the verdict's is a backed one (R158). -/
theorem AccountsBacked.figureTaken {s : State} (hb : AccountsBacked s) (h : s.cmr.consignment.wf = true)
    {f : FinalFigures} (hf : backed s f.verdict = true) {i : Nat} (hi : i < 5) (miss : BitVec 32) :
    AccountsBacked (Machine.programmed
      (figureTaken i (figureAddress i) (f.bytes i) miss s.cmr).consignment s) := by
  have lost := figureTaken_loses i (figureAddress i) (f.bytes i) miss s.cmr
  refine hb.programmed h lost ?_
  have bytesWf := Memory.programBytes_wf (f.bytes i) (figureAddress i) (missBytes (f.bytes i).length miss) h
  have sameDone := Memory.read_programBytes_outside (f.bytes i) (missBytes (f.bytes i).length miss) h
    (.inr (f.bytes_below_done hi))
  by_cases readBack : Memory.readBytes (Memory.programBytes s.cmr.consignment (figureAddress i) (f.bytes i)
      (missBytes (f.bytes i).length miss)) (figureAddress i) (f.bytes i).length = f.bytes i
  · have taken : (Machine.figureTaken i (figureAddress i) (f.bytes i) miss s.cmr).consignment =
        Memory.program (Memory.programBytes s.cmr.consignment (figureAddress i) (f.bytes i)
          (missBytes (f.bytes i).length miss)) doneAddress (doneByte i) 0 := by
      simp only [Machine.figureTaken, readBack, if_true]
    by_cases verdict : i = 1
    · intro _
      subst verdict
      have stored : (Machine.programmed (Machine.figureTaken 1 (figureAddress 1) (f.bytes 1) miss s.cmr).consignment s).cmr.number
          54 1 = f.verdict.rank := by
        have byte : Memory.read (Memory.programBytes s.cmr.consignment 54 (f.bytes 1)
            (missBytes (f.bytes 1).length miss)) 54 = BitVec.ofNat 8 f.verdict.rank := by
          simpa [Memory.readBytes, FinalFigures.bytes, beBytes, figureAddress] using readBack
        rw [Cmr.number_one]
        simp only [Machine.programmed, State.setCmr_cmr, taken]
        rw [Memory.read_program bytesWf, if_neg (by decide)]
        simp only [figureAddress, byte]
        cases f.verdict <;> rfl
      rw [stored, Verdict.ofCode_rank]
      exact backed_programmed h lost hf
    · refine figureBacked_programmed h lost (.inr ?_) hb.2.2.2.2.2.1
      rw [taken, Memory.read_program bytesWf, if_pos rfl, sameDone]
      have bit : (doneByte i ||| 0).getLsbD 1 = true := by
        match i, hi, verdict with
        | 0, _, _ | 2, _, _ | 3, _, _ | 4, _, _ => rfl
      rw [BitVec.getLsbD_and, bit, Bool.and_true]
  · have taken : (Machine.figureTaken i (figureAddress i) (f.bytes i) miss s.cmr).consignment =
        Memory.programBytes s.cmr.consignment (figureAddress i) (f.bytes i) (missBytes (f.bytes i).length miss) := by
      simp only [Machine.figureTaken, readBack, if_false]
    exact figureBacked_programmed h lost (.inl (by rw [taken, sameDone])) hb.2.2.2.2.2.1

end Sys2Proof.Machine


/-! What every command keeps: the commission record loses ones alone, and each invariant of Safety.lean that
`AccountsBacked` and `Follows` speak of goes through the command. -/

namespace Sys2Proof.Machine

/-! ### The relations -/

/-- What a chain of operations and programs keeps, the verdicts left aside. -/
structure Frames (s t : State) : Prop where
  logic : t.logic = s.logic
  pending : t.pending = s.pending
  identity : t.cmr.identity = s.cmr.identity
  loses : Loses s.cmr.consignment t.cmr.consignment
  bounded : bounded s = true → bounded t = true
  clock : clockOk s = true → clockOk t = true
  oneOpen : oneOpen s = true → oneOpen t = true
  opening : openingEmpty s = true → openingEmpty t = true

theorem Follows.frames {s t : State} (f : Follows s t) : Frames s t where
  logic := f.logic
  pending := f.pending
  identity := f.identity
  loses := by rw [f.consignment]; exact .refl _
  bounded := f.bounded
  clock := f.clock
  oneOpen := f.oneOpen
  opening := f.opening

theorem Frames.trans {s t u : State} (a : Frames s t) (b : Frames t u) : Frames s u where
  logic := b.logic.trans a.logic
  pending := b.pending.trans a.pending
  identity := b.identity.trans a.identity
  loses := a.loses.trans b.loses
  bounded := b.bounded ∘ a.bounded
  clock := b.clock ∘ a.clock
  oneOpen := b.oneOpen ∘ a.oneOpen
  opening := b.opening ∘ a.opening

theorem Frames.programmed {s : State} {m : Memory} (lost : Loses s.cmr.consignment m) :
    Frames s (programmed m s) := ⟨rfl, rfl, rfl, lost, id, id, id, id⟩

theorem Frames.setEve (s : State) (e : Eve) : Frames s (s.setEve e) := ⟨rfl, rfl, rfl, .refl _, id, id, id, id⟩

/-- What a step keeps. -/
structure StepKeeps (s t : State) : Prop where
  identity : t.cmr.identity = s.cmr.identity
  loses : Loses s.cmr.consignment t.cmr.consignment
  bounded : bounded s = true → bounded t = true
  clock : clockOk s = true → clockOk t = true
  oneOpen : oneOpen s = true → oneOpen t = true
  opening : openingEmpty s = true → openingEmpty t = true
  verdicts : memoryOk s = true → verdictsBacked s = true → verdictsBacked t = true

/-- What a command keeps: the commands that wait behind it, too. -/
structure ExecKeeps (s t : State) : Prop extends StepKeeps s t where
  pending : t.pending = s.pending

theorem memoryOk_iff (s : State) : memoryOk s = true ↔ s.cmr.identity.wf = true ∧ s.cmr.consignment.wf = true := by
  simp [memoryOk]

theorem StepKeeps.memory {s t : State} (k : StepKeeps s t) (h : memoryOk s = true) : memoryOk t = true := by
  rw [memoryOk_iff] at *
  exact ⟨k.identity ▸ h.1, (k.loses h.2).1⟩

theorem ExecKeeps.refl (s : State) : ExecKeeps s s := ⟨⟨rfl, .refl _, id, id, id, id, fun _ => id⟩, rfl⟩

theorem ExecKeeps.trans {s t u : State} (a : ExecKeeps s t) (b : ExecKeeps t u) : ExecKeeps s u where
  identity := b.identity.trans a.identity
  loses := a.loses.trans b.loses
  bounded := b.bounded ∘ a.bounded
  clock := b.clock ∘ a.clock
  oneOpen := b.oneOpen ∘ a.oneOpen
  opening := b.opening ∘ a.opening
  verdicts := fun m v => b.verdicts (a.toStepKeeps.memory m) (a.verdicts m v)
  pending := b.pending.trans a.pending

theorem ExecKeeps.ite {s t u : State} {p : Prop} [Decidable p] (a : p → ExecKeeps s t) (b : ExecKeeps s u) :
    ExecKeeps s (if p then t else u) := by
  split
  · exact a ‹_›
  · exact b

theorem Frames.keeps {s t : State} (f : Frames s t)
    (h : memoryOk s = true → verdictsBacked s = true → verdictsBacked t = true) : ExecKeeps s t :=
  ⟨⟨f.identity, f.loses, f.bounded, f.clock, f.oneOpen, f.opening, h⟩, f.pending⟩

theorem Follows.keeps {s t : State} (f : Follows s t) : ExecKeeps s t :=
  f.frames.keeps fun _ h => by
    rw [verdictsBacked_iff] at *
    exact ⟨f.accounts h.1, fun running => f.waiting (h.2 (f.logic ▸ running))⟩

/-- A program's end, and the operations that follow it. -/
theorem ExecKeeps.program {s t : State} {m : Memory} (lost : Loses s.cmr.consignment m) (f : Frames (programmed m s) t)
    (h : s.cmr.consignment.wf = true → AccountsBacked s → (s.logic = .running → waitingBacked s = true) →
      AccountsBacked t ∧ (t.logic = .running → waitingBacked t = true)) : ExecKeeps s t :=
  ((Frames.programmed lost).trans f).keeps fun hm hv => by
    rw [verdictsBacked_iff] at *
    exact h ((memoryOk_iff s).mp hm).2 hv.1 hv.2

/-! ### Pieces that wait for their marks -/

/-- No mark up to the level that the piece waits for is forgotten (R95). -/
def MarksCovered (c : Cmr) (w : Waiting) : Prop :=
  ∀ v ∈ [Verdict.strained, .unproven, .broken],
    w.target.rank < v.rank ∨ v ∈ w.marks ∨ c.markSet (verdictMarkAddress v) = true

theorem waitingBacked_some {s : State} {w : Waiting} (h : s.eve.current = some w) : waitingBacked s = true ↔
    (match s.cmr.program, w.marks with
      | .verdictMark v, m :: _ => v == m
      | .conclusionMark, _ :: _ => true
      | .figure _ _ _, _ :: _ => true
      | _, _ => false) = true ∧ MarksCovered s.cmr w := by
  simp only [waitingBacked, h, Bool.and_eq_true, List.all_eq_true, Bool.or_eq_true, decide_eq_true_eq, or_assoc,
    List.contains_iff_mem, MarksCovered] <;> rfl

/-- A waiting piece has a mark to program, and covers its level. -/
theorem marks_of_waitingBacked {s : State} {w : Waiting} (h : s.eve.current = some w) (hw : waitingBacked s = true) :
    ∃ m ms, w.marks = m :: ms ∧ (∀ v, s.cmr.program = .verdictMark v → v = m) ∧ MarksCovered s.cmr w := by
  obtain ⟨program, covered⟩ := (waitingBacked_some h).mp hw
  cases marks : w.marks with
  | nil =>
    rw [marks] at program
    split at program <;> simp_all
  | cons m ms =>
    refine ⟨m, ms, rfl, fun v hv => ?_, covered⟩
    simpa [hv, marks] using program

theorem MarksCovered.programmed {s : State} {m : Memory} {w : Waiting} (h : s.cmr.consignment.wf = true)
    (lost : Loses s.cmr.consignment m) (c : MarksCovered s.cmr w) : MarksCovered (Machine.programmed m s).cmr w :=
  fun v hv => (c v hv).imp_right (Or.imp_right (Cmr.markSet_mono (c' := (Machine.programmed m s).cmr) h lost))

/-- Between two programs the piece's first mark is due, and the next program is its own or a conclusion's. -/
theorem waitingBacked_nextProgram {s : State} {w : Waiting} {m : Verdict} {ms : List Verdict} (env : Env)
    (hp : s.cmr.program = .none) (hc : s.eve.current = some w) (marks : w.marks = m :: ms)
    (covered : MarksCovered s.cmr w) : waitingBacked (nextProgram env (some m) s) = true := by
  obtain ⟨v, hv, next⟩ | ⟨p, due, next⟩ | ⟨hv, -, -⟩ := nextProgram_cases env (some m) hp
  · cases hv
    rw [next]
    refine (waitingBacked_some (s := s.setCmr { s.cmr with program := .verdictMark m }) hc).mpr ⟨?_, covered⟩
    simp [marks]
  · rw [next]
    refine (waitingBacked_some (s := s.setCmr { s.cmr with program := p }) hc).mpr ⟨?_, covered⟩
    unfold conclusionDue at due
    split at due
    · cases due
      simp [marks]
    · split at due <;> cases due
      simp [marks, figureProgram]
    · cases due
  · cases hv

/-! ### What the stages between two programs leave -/

theorem complete_cmr_eve (reader : PartyId) (r : Reply) (s : State) :
    (complete reader r s).cmr = s.cmr ∧ (complete reader r s).eve = s.eve := ⟨rfl, rfl⟩

theorem finishFragment_cmr_eve (c : Cursor) (asked : Asked) (start : Nat) (seen : Option Nat) (s : State) :
    (finishFragment c asked start seen s).cmr = s.cmr ∧ (finishFragment c asked start seen s).eve = s.eve := by
  unfold finishFragment
  dsimp only
  split <;> exact ⟨rfl, rfl⟩

theorem fragmentStage_cmr_eve (s : State) : (fragmentStage s).cmr = s.cmr ∧ (fragmentStage s).eve = s.eve := by
  unfold fragmentStage
  split
  · split
    · exact finishFragment_cmr_eve ..
    · exact ⟨rfl, rfl⟩
  · exact ⟨rfl, rfl⟩

theorem figuresStage_cmr_eve (s : State) : (figuresStage s).cmr = s.cmr ∧ (figuresStage s).eve = s.eve := by
  unfold figuresStage
  split
  · split <;> exact ⟨rfl, rfl⟩
  · exact ⟨rfl, rfl⟩

/-- What waits to read the commission record between two byte programs, in its order (R165). -/
def recordStages (s : State) : State := fragmentStage (checkpointStage (figuresStage s))

theorem recordStages_follows (s : State) : Follows s (recordStages s) :=
  (figuresStage_follows s).trans ((checkpointStage_follows _).trans (fragmentStage_follows _))

theorem recordStages_cmr (s : State) : (recordStages s).cmr = s.cmr := by
  rw [recordStages, (fragmentStage_cmr_eve _).1, (checkpointStage_kept _).1.cmr, (figuresStage_cmr_eve _).1]

theorem recordStages_current (s : State) : (recordStages s).eve.current = s.eve.current := by
  rw [recordStages, (fragmentStage_cmr_eve _).2, (checkpointStage_kept _).1.current, (figuresStage_cmr_eve _).2]

/-! ### The pieces of the evidence engine -/

theorem nextPiece_some {s : State} {p : Piece} (h : nextPiece s = some p) :
    s.logic = .running ∧ s.cmr.program = .none ∧ p ∈ s.eve.work := by
  unfold nextPiece at h
  split at h
  · rename_i ready
    simp only [Bool.and_eq_true, beq_iff_eq, running] at ready
    exact ⟨ready.1.1, ready.2, List.mem_of_head? h⟩
  · cases h

/-- The command is answered, and keeps what a command keeps. -/
def Answers (s : State) (r : Host.Outcome State Fault Refusal) : Prop := ∃ t, r = .next t ∧ ExecKeeps s t

theorem Answers.done {s t : State} (k : ExecKeeps s t) : Answers s (done t) := ⟨t, rfl, k⟩

/-- An operation, and what the array takes up next. -/
theorem Follows.settled {s t : State} (env : Env) (f : Follows s t) : ExecKeeps s (settle env t) :=
  (f.trans (settle_follows ..)).keeps

theorem execRestartRestoration_answers (env : Env) (s : State) : Answers s (execRestartRestoration env s) := by
  refine .done ?_
  split
  · rename_i r f next
    obtain ⟨-, -, member⟩ := nextPiece_some next
    refine Follows.settled env (Follows.trans (t := s.setEve (restoredEve s.cmr (takePiece s).eve r.station f))
      (.setEve s _ (fun hb => ?_) fun hw => ?_) (runGaps_follows ..))
    · obtain ⟨verdict, last⟩ := restoredEve_backed (takePiece s).eve r.station hb (hb.2.2.1 _ member)
      refine ⟨verdict, last, ?_⟩
      rw [(restoredEve_work ..).1]
      exact fun p hp => hb.2.2.1 p (List.mem_of_mem_tail hp)
    · simp only [waitingBacked, State.setEve_eve, State.setEve_cmr, (restoredEve_work ..).2]
      exact hw
  all_goals exact .refl s

theorem execOrdinaryClose_answers (env : Env) (s : State) : Answers s (execOrdinaryClose env s) := by
  refine .done ?_
  split
  · exact ((takePiece_follows s).trans ((runClose_follows ..).trans (lateConcluding_follows _))).settled env
  all_goals exact .refl s

theorem execPartialClose_answers (env : Env) (s : State) : Answers s (execPartialClose env s) := by
  refine .done ?_
  split
  · exact ((takePiece_follows s).trans (runPartial_follows ..)).settled env
  all_goals exact .refl s

theorem execLateRefusal_answers (env : Env) (s : State) : Answers s (execLateRefusal env s) := by
  refine .done ?_
  split
  · exact ((takePiece_follows s).trans ((runLateRefusal_follows _).trans (lateConcluding_follows _))).settled env
  all_goals exact .refl s

/-! ### The end of a verdict mark's program (R95) -/

theorem markIsSet_more {w : Waiting} {m : Verdict} {ms : List Verdict} (s : State) (h : w.marks.tail = m :: ms) :
    markIsSet w s = s.setEve { s.eve with current := some { w with marks := m :: ms } } := by
  unfold markIsSet
  rw [h]

theorem markIsSet_last {w : Waiting} (s : State) (h : w.marks.tail = []) : markIsSet w s =
    lateConcluding (runContinuation w.next (s.setEve { s.eve with current := none, verdict := w.target })) := by
  unfold markIsSet
  rw [h]

/-- What goes on once the last mark of a piece is set. -/
theorem continued_follows (next : Continuation) (s : State) :
    Follows s (lateConcluding (runContinuation next s)) := (runContinuation_follows next s).trans (lateConcluding_follows _)

theorem markIsSet_frames (w : Waiting) (s : State) : Frames s (markIsSet w s) := by
  cases h : w.marks.tail with
  | nil =>
    rw [markIsSet_last s h]
    exact (Frames.setEve s _).trans (continued_follows ..).frames
  | cons m ms =>
    rw [markIsSet_more s h]
    exact .setEve ..

/-- After a mark that reads set, accounts and waiting piece are backed again once the next program has begun. -/
theorem markIsSet_backed {s : State} {w : Waiting} {m : Verdict} {ms : List Verdict} (env : Env)
    (hb : AccountsBacked s) (hp : s.cmr.program = .none) (marks : w.marks = m :: ms) (covered : MarksCovered s.cmr w)
    (set : s.cmr.markSet (verdictMarkAddress m) = true) :
    AccountsBacked (nextProgram env w.marks.tail.head? (markIsSet w s)) ∧
      waitingBacked (nextProgram env w.marks.tail.head? (markIsSet w s)) = true := by
  have tail : w.marks.tail = ms := by rw [marks, List.tail_cons]
  have rest : ∀ v ∈ [Verdict.strained, .unproven, .broken],
      w.target.rank < v.rank ∨ v ∈ ms ∨ s.cmr.markSet (verdictMarkAddress v) = true := by
    intro v hv
    obtain above | listed | isSet := covered v hv
    · exact .inl above
    · rw [marks] at listed
      obtain rfl | later := List.mem_cons.mp listed
      · exact .inr (.inr set)
      · exact .inr (.inl later)
    · exact .inr (.inr isSet)
  cases ms with
  | nil =>
    rw [tail, markIsSet_last s tail]
    have level : backed s w.target = true := backed_of_marks fun v hv hr => by
      obtain above | listed | isSet := rest v hv
      · omega
      · cases listed
      · exact isSet
    have reached : AccountsBacked (s.setEve { s.eve with current := none, verdict := w.target }) := ⟨level, hb.2⟩
    have after := (continued_follows w.next (s.setEve { s.eve with current := none, verdict := w.target })).trans
      (nextProgram_follows env none _)
    exact ⟨after.accounts reached, after.waiting (waitingBacked_none rfl)⟩
  | cons n ns =>
    rw [tail, markIsSet_more s tail]
    refine ⟨(nextProgram_follows env (some n) _).accounts hb, ?_⟩
    exact waitingBacked_nextProgram (w := { w with marks := n :: ns }) env hp rfl rfl rest

theorem execVerdictMarkProgrammed_answers (miss : Byte) (env : Env) (s : State) :
    Answers s (execVerdictMarkProgrammed miss env s) := by
  refine .done ?_
  split
  · rename_i v w isRunning program current
    have lost := Loses.program s.cmr.consignment (verdictMarkAddress v) 0x00 miss
    have before := recordStages_follows (programmed (Memory.program s.cmr.consignment (verdictMarkAddress v) 0x00 miss) s)
    have ends : ∀ t, Follows t (settle env (answerDiscovers env t)) :=
      fun t => (answerDiscovers_follows env t).trans (settle_follows ..)
    have cmr := recordStages_cmr (programmed (Memory.program s.cmr.consignment (verdictMarkAddress v) 0x00 miss) s)
    have stillWaits := (recordStages_current
      (programmed (Memory.program s.cmr.consignment (verdictMarkAddress v) 0x00 miss) s)).trans current
    refine .program lost (before.frames.trans (Frames.trans ?frames (ends _).frames)) fun wf hb hw => ?backed
    case frames =>
      split
      · exact (markIsSet_frames w _).trans (nextProgram_follows ..).frames
      · exact (nextProgram_follows ..).frames
    case backed =>
      have running : s.logic = .running := by simpa [Machine.running] using isRunning
      obtain ⟨m, ms, marks, ofProgram, covered⟩ := marks_of_waitingBacked current (hw running)
      cases ofProgram v program
      have addressOk : verdictMarkAddress v ≠ doneAddress := by cases v <;> decide
      have accounts := before.accounts (hb.programmed_byte wf 0x00 miss addressOk)
      have coveredNow := covered.programmed wf lost
      rw [← cmr] at coveredNow
      have noProgram : (recordStages (programmed (Memory.program s.cmr.consignment (verdictMarkAddress v) 0x00 miss)
          s)).cmr.program = .none := by rw [cmr]; rfl
      refine (fun h => ⟨(ends _).accounts h.1, fun _ => (ends _).waiting h.2⟩ :
        AccountsBacked _ ∧ waitingBacked _ = true → _) ?_
      split
      · rename_i set
        exact markIsSet_backed env accounts noProgram marks coveredNow set
      · exact ⟨(nextProgram_follows ..).accounts accounts,
          waitingBacked_nextProgram env noProgram stillWaits marks coveredNow⟩
  · exact .refl s

/-! ### The commands of the channel, of the peers and of the door -/

theorem execNoteDelayExpiry_answers (env : Env) (s : State) : Answers s (execNoteDelayExpiry env s) := by
  refine .done (.ite (fun _ => ?_) (.refl s))
  split
  case h_2 => exact (Follows.ite (offerRegularNote_follows s) (.setChc s _ (by exact id)) |>.trans (kick_follows ..)).keeps
  all_goals exact .refl s

theorem execBackoffEnd_answers (env : Env) (s : State) : Answers s (execBackoffEnd env s) := by
  refine .done (.ite (fun _ => ?_) (.refl s))
  split
  case h_1 => exact (Follows.setChc s { s.chc with transmitter := .idle } id |>.trans (kick_follows ..)).keeps
  all_goals exact .refl s

theorem execTransmissionEnd_answers (env : Env) (s : State) : Answers s (execTransmissionEnd env s) := by
  refine .done (.ite (fun _ => ?_) (.refl s))
  split
  case h_1 => exact (Follows.setChc s { s.chc with transmitter := .idle } id |>.trans (kick_follows ..)).keeps
  all_goals exact .refl s

theorem execDiscoveryDelayExpiry_answers (env : Env) (s : State) : Answers s (execDiscoveryDelayExpiry env s) := by
  refine .done (.ite (fun _ => ?_) (.refl s))
  split
  · exact (Follows.setChc s { s.chc with hold := none } id |>.trans ((sendReply_follows ..).trans (kick_follows ..))).keeps
  · exact .refl s

theorem execChillNote_answers (sender : PartyId) (level : Int) (payload : List Byte) (env : Env) (s : State) :
    Answers s (execChillNote sender level payload env s) := by
  refine .done (.ite (fun _ => ?_) (.refl s))
  split
  · exact ((takeNote_follows ..).trans (kick_follows ..)).keeps
  · exact .refl s

theorem execLightEvent_answers (light : Bool) (env : Env) (s : State) : Answers s (execLightEvent light env s) := by
  refine .done (.ite (fun _ => .refl s) ?_)
  exact ((Follows.setDmn s _).trans (.ite ((rise_follows _).trans (kick_follows ..)) (.refl _))).keeps

/-! ### The commands of the timebase -/

theorem execQuarterEnd_answers (env : Env) (s : State) : Answers s (execQuarterEnd env s) :=
  .done (.ite (fun _ => .ite (fun _ => (runningQuarterEnd_follows env s).settled env) (.refl s))
    (.ite (fun _ => (quarterEnd_follows s).keeps) (.refl s)))

theorem execCountdownStep_answers (env : Env) (s : State) : Answers s (execCountdownStep env s) := by
  refine .done (.ite (fun _ => .ite (fun _ => .ite (fun _ => .refl s) ?_) (.ite (fun _ => ?_) (.refl s))) (.refl s))
  · exact .ite (fun _ => ((countdownStep_follows s).trans (startDelayExpiry_follows _)).settled env)
      ((countdownStep_follows s).trans (.setTmb ..)).keeps
  · refine (Follows.setRet s _ fun h => ?_).keeps
    rw [clockOk_iff] at *
    exact fun valid => countdownStep_clock (h valid)

theorem execConversionComplete_answers (outcome : Conversion) (env : Env) (s : State) :
    Answers s (execConversionComplete outcome env s) := by
  refine .done ?_
  split
  · exact ((Follows.setTch s _).trans ((handOver_follows _).trans (lateConcluding_follows _))).settled env
  · exact .refl s

/-! ### What stops the logic -/

theorem interruptAccess_follows (left : Leftover) (s : State) : Follows s (interruptAccess left s) := by
  unfold interruptAccess
  split
  case h_1 | h_4 => exact .refl s
  case h_2 =>
    split
    · rename_i e rest queue
      exact putSeg_follows fun hb => (hb.segAt _).put _
        ((Entry.slots_backed (hb.2.2.2.1 e (by simp [queue]))).leftSlots _)
    · exact .refl s
  case h_3 => split <;> exact setHeader_follows ..
  case h_5 => exact putPage_follows fun hb => (jobPage_backed hb).leftSlots _
  case h_6 =>
    split
    · exact setHeader_follows ..
    · exact .refl s
  case h_7 | h_8 => exact setHeader_follows ..
  case h_9 | h_10 | h_11 => exact eraseSeg_follows ..

/-- What a stop leaves of the consignment part. -/
def interrupted (bits : BitVec 32) (c : Cmr) : Memory :=
  match c.program with
  | .none => c.consignment
  | .verdictMark v => Memory.program c.consignment (verdictMarkAddress v) 0x00 (bits.truncate 8)
  | .commissionByte a v => Memory.program c.consignment a v (bits.truncate 8)
  | .conclusionMark => Memory.program c.consignment conclusionAddress 0x00 (bits.truncate 8)
  | .figure _ a bs => Memory.programBytes c.consignment a bs (missBytes bs.length bits)

theorem interruptProgram_eq (bits : BitVec 32) (s : State) :
    interruptProgram bits s = programmed (interrupted bits s.cmr) s := by
  unfold interruptProgram interrupted programmed
  cases s.cmr.program <;> rfl

theorem interrupted_loses (bits : BitVec 32) (c : Cmr) : Loses c.consignment (interrupted bits c) := by
  unfold interrupted
  split
  · exact .refl _
  · exact .program _ _ _ _
  · exact .program _ _ _ _
  · exact .program _ _ _ _
  · exact .programBytes _ _ _ _

/-- The figure in progress is one of those that the conclusion in service holds. -/
theorem programBacked_figure {s : State} {i a : Nat} {bs : List Byte} (h : programBacked s = true)
    (program : s.cmr.program = .figure i a bs) : ∃ reader tag f,
    s.rqs.service = some (.conclude reader tag (.figure f i)) ∧ i < 5 ∧ a = figureAddress i ∧ bs = f.bytes i := by
  simp only [programBacked, program] at h
  split at h
  · rename_i reader tag f k service
    simp only [decide_eq_true_eq] at h
    obtain ⟨rfl, small, address, bytes⟩ := h
    exact ⟨reader, tag, f, service, small, address, bytes⟩
  · cases h

theorem programBacked_commissionByte {s : State} {a : Nat} {v : Byte} (h : programBacked s = true)
    (program : s.cmr.program = .commissionByte a v) : a ≤ commitAddress := by
  simpa [programBacked, program] using h

theorem AccountsBacked.interrupted {s : State} (hb : AccountsBacked s) (h : s.cmr.consignment.wf = true)
    (bits : BitVec 32) : AccountsBacked (Machine.programmed (Machine.interrupted bits s.cmr) s) := by
  unfold Machine.interrupted
  split
  · exact hb.programmed_sameDone h (.refl _) rfl
  · rename_i v program
    exact hb.programmed_byte h _ _ (by cases v <;> decide)
  · rename_i a v program
    have small := programBacked_commissionByte hb.program program
    exact hb.programmed_byte h _ _ (by simp only [commitAddress, doneAddress] at *; omega)
  · exact hb.programmed_byte h _ _ (by decide)
  · rename_i i a bs program
    obtain ⟨_, _, f, _, small, rfl, rfl⟩ := programBacked_figure hb.program program
    exact hb.programmed_figure h f small _

theorem stopLogic_keeps (left : Leftover) (s : State) : ExecKeeps s (stopLogic left s) := by
  have accessDone := (interruptAccess_follows left s).trans ((dropSuspended_follows left _).trans
    (setAccess_follows .none _))
  refine accessDone.keeps.trans ?_
  unfold stopLogic
  dsimp only
  rw [interruptProgram_eq]
  generalize setAccess .none (dropSuspended left (interruptAccess left s)) = t
  refine ⟨⟨rfl, interrupted_loses _ _, ?_, id, ?_, id, fun hm hv => ?_⟩, rfl⟩
  · simp only [bounded_iff]
    exact fun h => ⟨Nat.zero_le _, h.2⟩
  · rw [oneOpen_iff, oneOpen_iff]
    exact fun h => ⟨h.1, fun stopped => by cases stopped⟩
  · rw [verdictsBacked_iff] at *
    exact ⟨hv.1.interrupted ((memoryOk_iff t).mp hm).2 left.bits, fun running => by cases running⟩

theorem latchCause_follows (cause : PendingCause) (s : State) : Follows s (latchCause cause s) :=
  .ite (.setRet_sameTime (by rfl) (by rfl)) (.refl s)

theorem execStallExpiry_answers (left : Leftover) (s : State) : Answers s (execStallExpiry left s) :=
  .done (.ite (fun _ => (latchCause_follows .stall s).keeps.trans (stopLogic_keeps left _)) (.refl s))

theorem execBrownout_answers (left : Leftover) (s : State) : Answers s (execBrownout left s) :=
  .done (.ite (fun _ => .refl s) ((latchCause_follows .brownout s).keeps.trans (stopLogic_keeps left _)))

theorem execRetentionLoss_answers (left : Leftover) (s : State) : Answers s (execRetentionLoss left s) := by
  refine .done ((ExecKeeps.ite (p := s.logic = .stopped) (fun _ => .refl s) (stopLogic_keeps left s)).trans ?_)
  exact ⟨⟨rfl, .refl _, id, fun _ => rfl, id, id, fun _ => id⟩, rfl⟩

/-! ### The requests -/

theorem execUnknownRequest_answers (req : Request) (code : Option Byte) (fields : List Byte) (env : Env) (s : State) :
    Answers s (execUnknownRequest req code fields env s) := by
  refine .done (.ite (fun _ => ?_) (.refl s))
  split
  · exact (refuse_follows ..).settled env
  · exact .ite (fun _ => .refl s) ((refuse_follows ..).settled env)

theorem execDiscover_answers (req : Request) (fields : List Byte) (env : Env) (s : State) :
    Answers s (execDiscover req fields env s) :=
  .done (.ite (fun _ => (Follows.ite (holdDiscover_follows ..) (.setRqs_same (by rfl))).keeps) (.refl s))

theorem RawTerms.bytes_length (t : RawTerms) : t.bytes.length = 21 + t.reference.length := by
  simp only [RawTerms.bytes, beSigned, List.length_append, beBytes_length]

/-- The programs of a commissioning stay among the terms (R169, R185). -/
theorem RawTerms.programs_address {t : RawTerms} (h : t.reference.length ≤ 24) :
    ∀ p ∈ t.programs, p.1 ≤ commitAddress := by
  intro p hp
  obtain hp | rfl := by simpa [RawTerms.programs] using hp
  · have := List.mem_range.mp (List.of_mem_zip (a := p.1) (b := p.2) hp).1
    rw [RawTerms.bytes_length] at this
    simp only [commitAddress]
    omega
  · exact le_rfl

theorem parseCommission_reference {fs : List Byte} {t : RawTerms} (h : parseCommission fs = some t) :
    t.reference.length ≤ 24 := by
  unfold parseCommission at h
  dsimp only at h
  split at h
  · rename_i form
    cases h
    simp only [List.length_drop]
    omega
  · cases h

theorem execCommission_answers (req : Request) (fields : List Byte) (env : Env) (s : State) :
    Answers s (execCommission req fields env s) := by
  refine .done (.ite (fun _ => Follows.settled env ?_) (.refl s))
  split
  · exact refuse_follows ..
  · rename_i t parsed
    refine serve_follows _ _ _ fun free => .ite ?_ (refuse_follows ..)
    exact programByte_follows _ _ _ (free_of_serviceBusy free).2
      fun _ => RawTerms.programs_address (t := t.clamped)
        (show t.reference.length ≤ 24 from parseCommission_reference parsed)

theorem execQueryStatus_answers (req : Request) (fields : List Byte) (env : Env) (s : State) :
    Answers s (execQueryStatus req fields env s) := by
  refine .done (.ite (fun _ => ?_) (.refl s))
  split
  · exact (serve_follows (go := fun s => sendReply req.reader (.queryStatus (statusReply s)) s) _ _ _
      fun _ => sendReply_follows ..).settled env
  · exact .refl s
  · exact (refuse_follows ..).settled env

theorem execQueryPeers_answers (req : Request) (fields : List Byte) (env : Env) (s : State) :
    Answers s (execQueryPeers req fields env s) := by
  refine .done (.ite (fun _ => ?_) (.refl s))
  split
  · exact (serve_follows (go := fun s => sendReply req.reader (.queryPeers (peersReply s)) s) _ _ _
      fun _ => sendReply_follows ..).settled env
  · exact .refl s
  · exact (refuse_follows ..).settled env

/-- A free request service programs no figure. -/
theorem programmingFigures_free {s : State} (h : serviceBusy s = false) : programmingFigures s = false := by
  simp [programmingFigures, (free_of_serviceBusy h).1]

theorem execRead_answers (req : Request) (fields : List Byte) (env : Env) (s : State) :
    Answers s (execRead req fields env s) := by
  refine .done (.ite (fun _ => Follows.settled env ?_) (.refl s))
  split
  · exact refuse_follows ..
  · refine serve_follows _ _ _ fun free => ?_
    split
    · exact beginFragment_follows _ _ (programmingFigures_free free)
    · exact refuse_follows ..

theorem execReadOn_answers (req : Request) (fields : List Byte) (env : Env) (s : State) :
    Answers s (execReadOn req fields env s) := by
  refine .done (.ite (fun _ => Follows.settled env (.ite (serve_follows _ _ _ fun free => ?_) (refuse_follows ..)))
    (.refl s))
  split
  · exact .ite (beginFragment_follows _ _ (programmingFigures_free free)) (refuse_follows ..)
  · exact refuse_follows ..

theorem execFragmentComposed_answers (env : Env) (s : State) : Answers s (execFragmentComposed env s) := by
  refine .done ?_
  split
  · rename_i service
    have rests : programmingFigures s = false := by simp [programmingFigures, service]
    exact .ite (fun _ => .ite (fun _ => (finishFragment_follows _ _ _ _ rests).settled env)
      (Follows.setService _ (fun _ => rfl) (.inl rests)).keeps) (.refl s)
  · exact .refl s

theorem execCheckpoint_answers (req : Request) (fields : List Byte) (left : Leftover) (env : Env) (s : State) :
    Answers s (execCheckpoint req fields left env s) :=
  .done (.ite (fun _ => Follows.settled env (.ite (serve_follows _ _ _ fun free => .ite (refuse_follows ..)
    (.ite (refuse_follows ..) (takeCheckpoint_follows _ _ (programmingFigures_free free)))) (refuse_follows ..)))
    (.refl s))

theorem execConclude_answers (req : Request) (fields : List Byte) (left : Leftover) (env : Env) (s : State) :
    Answers s (execConclude req fields left env s) := by
  refine .done (.ite (fun _ => Follows.settled env ?_) (.refl s))
  split
  · exact refuse_follows ..
  · exact serve_follows _ _ _ fun free => .ite (takeConclusion_follows _ _ _ _ free) (refuse_follows ..)

theorem execConclusionFinalFigures_answers (env : Env) (s : State) : Answers s (execConclusionFinalFigures env s) := by
  refine .done ?_
  split
  · rename_i service
    exact ((Follows.setService _ (fun _ => rfl) (.inl (by simp [programmingFigures, service]))).trans
      ((figuresStage_follows _).trans (nextProgram_follows ..))).settled env
  · exact .refl s

/-! ### The programs of the commission record -/

/-- After a program of another field than a verdict mark, the next program leaves a waiting piece backed. -/
theorem waitingBacked_nextDue {s t : State} {mark : Option Verdict} (env : Env) (due : mark = markDue s.eve) (h : waitingBacked s = true)
    (hp : t.cmr.program = .none)
    (current : t.eve.current = s.eve.current) (covered : ∀ w, MarksCovered s.cmr w → MarksCovered t.cmr w) :
    waitingBacked (nextProgram env mark t) = true := by
  cases hc : s.eve.current with
  | none => exact (nextProgram_follows ..).waiting (waitingBacked_none (current.trans hc))
  | some w =>
    obtain ⟨m, ms, marks, -, coveredBefore⟩ := marks_of_waitingBacked hc h
    have first : mark = some m := by simp [due, markDue, hc, marks]
    rw [first]
    exact waitingBacked_nextProgram env hp (current.trans hc) marks (covered w coveredBefore)

theorem answered_settle_follows (env : Env) (s : State) : Follows s (settle env (answerDiscovers env s)) :=
  (answerDiscovers_follows env s).trans (settle_follows ..)

theorem execCommissionByteProgrammed_answers (miss : Byte) (env : Env) (s : State) :
    Answers s (execCommissionByteProgrammed miss env s) := by
  refine .done ?_
  split
  · rename_i a v reader todo again adjusted isRunning program service
    have lost := Loses.program s.cmr.consignment a v miss
    have todoOk : AccountsBacked (programmed (Memory.program s.cmr.consignment a v miss) s) →
        ∀ p ∈ todo, p.1 ≤ commitAddress := fun h => by
      have hs := h.service
      simpa only [serviceBacked, programmed, State.setCmr_rqs, service, List.all_eq_true, decide_eq_true_eq] using hs
    have after : Follows (programmed (Memory.program s.cmr.consignment a v miss) s) (settle env (answerDiscovers env
        (if byteTaken (programmed (Memory.program s.cmr.consignment a v miss) s).cmr a v then
          match todo.tail with
          | [] => completeCommission reader adjusted (programmed (Memory.program s.cmr.consignment a v miss) s)
          | next => programByte reader next false adjusted (programmed (Memory.program s.cmr.consignment a v miss) s)
        else if again then
          complete reader (.status codeCommission .store) ((programmed (Memory.program s.cmr.consignment a v miss) s).setRqs
            { (programmed (Memory.program s.cmr.consignment a v miss) s).rqs with spoilt := true })
        else programByte reader todo true adjusted (programmed (Memory.program s.cmr.consignment a v miss) s)))) := by
      refine Follows.trans (.ite ?_ (.ite ?_ ?_)) (answered_settle_follows ..)
      · split
        · exact completeCommission_follows _ _ rfl
        · exact programByte_follows _ _ _ rfl fun h p hp => todoOk h p (List.mem_of_mem_tail hp)
      · exact Follows.trans (.setRqs_same (by rfl)) (complete_follows _ _ (.inr rfl))
      · exact programByte_follows _ _ _ rfl todoOk
    refine .program lost after.frames fun wf hb hw => ?_
    have small := programBacked_commissionByte hb.program program
    have addressOk : a ≠ doneAddress := by simp only [commitAddress, doneAddress] at *; omega
    have noPiece : s.eve.current = none := by
      have running : s.logic = .running := by simpa [Machine.running] using isRunning
      cases hc : s.eve.current with
      | none => rfl
      | some w => simpa [program] using ((waitingBacked_some hc).mp (hw running)).1
    exact ⟨after.accounts (hb.programmed_byte wf v miss addressOk), fun _ => after.waiting (waitingBacked_none noPiece)⟩
  · exact .refl s

theorem execConclusionMarkProgrammed_answers (miss : Byte) (env : Env) (s : State) :
    Answers s (execConclusionMarkProgrammed miss env s) := by
  refine .done ?_
  split
  · rename_i reader tag f isRunning program service
    have lost := Loses.program s.cmr.consignment conclusionAddress 0x00 miss
    have figured : Follows (programmed (Memory.program s.cmr.consignment conclusionAddress 0x00 miss) s)
        (if (programmed (Memory.program s.cmr.consignment conclusionAddress 0x00 miss) s).cmr.concluded then
          setService (some (.conclude reader tag (.figure f 0)))
            (programmed (Memory.program s.cmr.consignment conclusionAddress 0x00 miss) s)
        else programmed (Memory.program s.cmr.consignment conclusionAddress 0x00 miss) s) :=
      .ite (.setService _ (fun h => by
        have figures := serviceBacked_mark (s := programmed _ s) service h.service
        exact figures) (.inr rfl)) (.refl _)
    refine .program lost (figured.frames.trans
      ((nextProgram_follows ..).trans (answered_settle_follows ..)).frames) fun wf hb hw => ?_
    refine ⟨(figured.trans ((nextProgram_follows ..).trans (answered_settle_follows ..))).accounts
      (hb.programmed_byte wf 0x00 miss (by decide)), fun _ => (answered_settle_follows ..).waiting ?_⟩
    have running : s.logic = .running := by simpa [Machine.running] using isRunning
    refine waitingBacked_nextDue (s := s) env rfl (hw running) ?_ ?_ ?_
    · split <;> rfl
    · split <;> rfl
    · intro w covered
      have now := covered.programmed wf lost
      split <;> exact now
  · exact .refl s

theorem execFinalFigureProgrammed_answers (miss : BitVec 32) (env : Env) (s : State) :
    Answers s (execFinalFigureProgrammed miss env s) := by
  refine .done ?_
  split
  · rename_i i a bs reader tag f k isRunning program service
    have lost := figureTaken_loses i a bs miss s.cmr
    have figured : Follows (programmed (figureTaken i a bs miss s.cmr).consignment s)
        (setService (some (.conclude reader tag (.figure f (i + 1))))
          (programmed (figureTaken i a bs miss s.cmr).consignment s)) :=
      .setService _ (fun h => by
        have figures := serviceBacked_figure (s := programmed _ s) service h.service
        exact figures) (.inr rfl)
    refine .program lost (figured.frames.trans
      ((nextProgram_follows ..).trans (answered_settle_follows ..)).frames) fun wf hb hw => ?_
    obtain ⟨reader', tag', f', service', small, rfl, rfl⟩ := programBacked_figure hb.program program
    cases service.symm.trans service'
    refine ⟨(figured.trans ((nextProgram_follows ..).trans (answered_settle_follows ..))).accounts
      (hb.figureTaken wf (serviceBacked_figure service hb.service) small miss),
      fun _ => (answered_settle_follows ..).waiting ?_⟩
    have running : s.logic = .running := by simpa [Machine.running] using isRunning
    exact waitingBacked_nextDue (s := s) env rfl (hw running) rfl rfl fun w covered => covered.programmed wf lost
  · exact .refl s

/-! ### The commands of the journal array -/

theorem execEntryProgramEnd_answers (ok void1 void2 : Bool) (env : Env) (s : State) :
    Answers s (execEntryProgramEnd ok void1 void2 env s) := by
  refine .done ?_
  split
  · rename_i e rest isRunning access queue
    have member : e ∈ s.jst.queue := by simp [queue]
    have voided : ∀ t : State, SlotsBacked t (voidSlots e void1 void2) := by
      intro t x hx
      unfold voidSlots at hx
      dsimp only at hx
      split at hx <;> cases void1 <;> cases void2 <;> simp_all [slotBacked]
      all_goals (obtain rfl | rfl := hx <;> rfl)
    refine Follows.settled env (.ite ?_ ?_)
    · exact (setAccess_follows .none s).trans ((putSeg_follows (s := setAccess .none s) fun hb => (hb.segAt _).put _
        (Entry.slots_backed (hb.2.2.2.1 e member))).trans (settleHead_follows (s := putSeg _ _ (setAccess .none s)) member))
    · exact (setAccess_follows .none s).trans ((putSeg_follows (s := setAccess .none s) fun hb => (hb.segAt _).put _
        (voided _)).trans (entryFailed_follows (s := putSeg _ _ (setAccess .none s)) member))
  · exact .refl s

theorem execAllocationProgramEnd_answers (result : Amount) (env : Env) (s : State) :
    Answers s (execAllocationProgramEnd result env s) := by
  refine .done ?_
  split
  · rename_i why i f isRunning access
    have notStarting : s.logic ≠ .startUp := by
      have running : s.logic = .running := by simpa [Machine.running] using isRunning
      simp [running]
    have used : Follows s (s.setJst { s.jst with access := .none, nextSeq := s.jst.nextSeq + 1 }) := .setJst_same (by rfl) (by rfl)
    have failed : ∀ t, Follows t (afterJobStep env (putStatus i .outOfService t)) :=
      fun t => (putStatus_follows t (by decide)).trans (afterJobStep_follows ..)
    refine Follows.settled env (used.trans ?_)
    split
    · exact (setHeader_follows ..).trans (allocated_follows env why i f notStarting)
    · exact (setHeader_follows ..).trans (failed _)
    · exact failed _
  · exact .refl s

theorem execPageReadEnd_answers (composed : Bool) (env : Env) (s : State) :
    Answers s (execPageReadEnd composed env s) := by
  refine .done ?_
  split
  · exact ((setAccess_follows .none s).trans ((pageReadTaken_follows ..).trans (afterJobStep_follows ..))).settled env
  · exact .refl s

theorem execPageProgramEnd_answers (ok : Bool) (slots : List SlotLeft) (env : Env) (s : State) :
    Answers s (execPageProgramEnd ok slots env s) := by
  refine .done ?_
  split
  · refine Follows.settled env ((setAccess_follows .none s).trans (.ite ?_ ?_))
    · exact (putPage_follows jobPage_backed).trans (setJob_follows ..)
    · exact (putPage_follows fun hb => (jobPage_backed hb).leftSlots _).trans (abandonJob_follows _)
  · exact .refl s

theorem execCommitMarkProgrammed_answers (set : Bool) (env : Env) (s : State) :
    Answers s (execCommitMarkProgrammed set env s) := by
  refine .done ?_
  split
  · exact ((setAccess_follows .none s).trans ((Follows.ite (commitTarget_follows _) (commitClear_follows _)).trans
      (afterJobStep_follows ..))).settled env
  · exact .refl s

theorem execSourceEraseEnd_answers (left : EraseLeft) (env : Env) (s : State) :
    Answers s (execSourceEraseEnd left env s) := by
  refine .done ?_
  split
  · exact ((setAccess_follows .none s).trans ((endErase_follows ..).trans (sourceErased_follows _))).settled env
  · exact .refl s

theorem execCleanupEraseEnd_answers (left : EraseLeft) (env : Env) (s : State) :
    Answers s (execCleanupEraseEnd left env s) := by
  refine .done ?_
  split
  · exact ((setAccess_follows .none s).trans ((endErase_follows ..).trans ((setJob_follows ..).trans
      ((settleShort_follows _).trans (evaluateTrigger_follows _))))).settled env
  · exact .refl s

theorem execProtectionMarkProgrammed_answers (mark : MarkRead) (env : Env) (s : State) :
    Answers s (execProtectionMarkProgrammed mark env s) := by
  refine .done ?_
  split
  · rename_i service
    have rests : programmingFigures s = false := by simp [programmingFigures, service]
    have marked : ∀ n epoch reader number f (step : CheckpointStep),
        ExecKeeps s (settle env (setService (some (.checkpoint reader number epoch step))
          (setHeader n f (setAccess .none s)))) := fun _ _ _ _ _ _ =>
      ((setAccess_follows .none s).trans ((setHeader_follows ..).trans (setCheckpoint_follows _ _ _ _ rests))).settled env
    exact .ite (fun _ => marked ..) (.ite (fun _ => marked ..) (marked ..))
  · exact .refl s

theorem execLockMarkProgrammed_answers (set : Bool) (env : Env) (s : State) :
    Answers s (execLockMarkProgrammed set env s) := by
  refine .done ?_
  split
  · rename_i i reader tag f recorded tried again locked failed isRunning access service
    have rests : programmingFigures s = false := by simp [programmingFigures, service]
    have marked : ∀ tried again locked failed, ExecKeeps s (settle env
        (setService (some (.conclude reader tag (.locking f recorded tried again locked failed)))
          (setHeader i (fun h => { h with lock := set }) (setAccess .none s)))) := fun _ _ _ _ =>
      ((setAccess_follows .none s).trans ((setHeader_follows ..).trans (.setService _ (fun h => by
        have figures := serviceBacked_locking (s := setHeader i _ (setAccess .none s)) service h.service
        exact figures) (.inl rests)))).settled env
    exact .ite (fun _ => marked ..) (.ite (fun _ => marked ..) (marked ..))
  · exact .refl s

end Sys2Proof.Machine


/-! The start of the logic keeps the invariants, and with it every step does: the obligations over all steps. -/

namespace Sys2Proof.Machine

/-! ### The end of a scan, in its parts (R25 to R27) -/

def scanFacts (s : State) : Facts := factsOf (liveSegments s)

def scanKind (s : State) : Kind := restartKind s.cmr s.retValid s.ret (scanFacts s)

def scanCause (s : State) : RestartCause := causeOf (scanKind s) s.tmb.lastCause

/-- What the timebase decides at the end of a scan. -/
def scanDecision (s : State) : Decision :=
  decideStart (scanKind s) s.cmr s.ret (scanFacts s) (restartCount (scanKind s) s.cmr s.ret (scanFacts s))

/-- The restart report has been delivered; the OPEN segment, the leg and the episode are still to be restored. -/
def reported (s : State) : State :=
  ((((((s.setRet (scanDecision s).ret).setRetValid true).setTmb
    ⟨startUpStall (scanDecision s) s, scanCause s⟩).setTch
    { s.tch with
      probe := Quad.resumed (quartersPassed (scanDecision s))
      air := Quad.resumed (quartersPassed (scanDecision s)) }).setEve
    (reportedEve s.cmr (scanDecision s) (scanCause s) (scanFacts s))).setRqs
    { s.rqs with checkpoints := if s.cmr.commissioned then (scanFacts s).checkpoint else 0 }).setLogic .running

/-- The open door of a start-up into ACTIVE (R82). -/
def openAtStart (d : Decision) (s : State) : State :=
  if d.station = .active then openAtLight d.ret.epoch s else s

theorem finishScan_eq (env : Env) (s : State) : finishScan env s =
    settle env (openAtStart (scanDecision s) (restoreLeg (scanDecision s).activation (scanFacts s)
      (settleOpen (scanDecision s).station (reported s)))) := rfl

/-! The decided clock is in its range. -/

def ClockOk (r : Retention) : Prop := 1 ≤ r.quarter ∧ r.quarter ≤ 4 ∧ r.epoch ≤ Config.maxEpoch

theorem ClockOk.initial : ClockOk .initial := by simp [ClockOk, Retention.initial]

theorem decideKept_clock {c : Cmr} {r : Retention} (f : Facts) (count : Nat) (h : ClockOk r) :
    ClockOk (decideKept c r f count).ret := by
  unfold decideKept
  dsimp only
  split_ifs
  all_goals first | exact .initial | exact h

theorem decideLost_clock (c : Cmr) (f : Facts) (count : Nat) : ClockOk (decideLost c f count).ret := by
  have active : ∀ b, ClockOk (decideLostActive f count b).ret := fun b =>
    ⟨le_rfl, by simp [decideLostActive, Retention.initial], Nat.min_le_left ..⟩
  unfold decideLost
  split_ifs
  all_goals first | exact active _ | exact .initial

theorem scanDecision_clock {s : State} (h : s.retValid = true → ClockOk s.ret) : ClockOk (scanDecision s).ret := by
  unfold scanDecision decideStart
  split
  · exact .initial
  · rename_i kept
    refine decideKept_clock _ _ (h ?_)
    by_contra invalid
    simp only [scanKind, restartKind, invalid, if_false] at kept
    split at kept <;> cases kept
  · exact decideLost_clock ..

/-! The scan's facts come from backed entries. -/

theorem lastPick_mem {α : Type} {f : Entry → Option α} {es : List Entry} {a : α} (h : lastPick f es = some a) :
    ∃ e ∈ es, f e = some a := by
  have step : ∀ (es : List Entry) (acc : Option α), es.foldl (fun acc e => (f e).or acc) acc = some a →
      acc = some a ∨ ∃ e ∈ es, f e = some a := by
    intro es
    induction es with
    | nil => exact fun acc h => .inl h
    | cons e es ih =>
      intro acc h
      obtain here | ⟨x, hx, hf⟩ := ih _ h
      · cases he : f e with
        | none => exact .inl (by simpa [he] using here)
        | some b => exact .inr ⟨e, .head _, by simpa [he] using here⟩
      · exact .inr ⟨x, .tail _ hx, hf⟩
  obtain none | found := step es none h
  · cases none
  · exact found

theorem scanFacts_backed {s : State} (h : AccountsBacked s) :
    backed s (coverageStanding (scanFacts s).lastCoverage).2 = true := by
  cases last : (scanFacts s).lastCoverage with
  | none => exact backed_intact s
  | some e =>
    obtain ⟨x, hx, picked⟩ := lastPick_mem (f := fun e => if e.covers then some e else none) last
    split at picked <;> cases picked
    obtain ⟨g, hg, hx⟩ := List.mem_flatMap.mp hx
    obtain ⟨i, -, rfl⟩ := List.mem_map.mp hg
    exact entriesOf_backed (h.segAt i) _ hx

theorem settleOpen_frames (station : Station) (s : State) :
    settleOpen station s = s.setJst (settleOpen station s).jst ∧ (settleOpen station s).jst.queue = s.jst.queue := by
  unfold settleOpen
  split
  case h_1 | h_2 | h_3 => exact ⟨rfl, rfl⟩
  case h_4 => split <;> exact ⟨rfl, rfl⟩

/-- The OPEN segment of a start is the only one. -/
theorem settleOpen_openCount {s : State} (station : Station) (h : openCount s = 0) :
    openCount (settleOpen station s) ≤ 1 := by
  have few : openCount s ≤ 1 := by omega
  unfold settleOpen
  split
  case h_1 | h_2 | h_3 => exact few
  case h_4 =>
    split
    · rename_i i _
      refine openCount_le_one_of_forall_eq (k := i) fun j hj oj => ?_
      rw [statusAt_putStatus] at oj
      split at oj
      · rename_i same
        exact same.1.symm
      · have none : j ∈ (List.range Config.segments).filter fun i => statusAt s i == .opened := by simp [hj, oj]
        rw [List.eq_nil_of_length_eq_zero h] at none
        cases none
    · exact few

theorem reported_keeps {s : State} (starting : s.logic = .startUp) :
    ExecKeeps s (settleOpen (scanDecision s).station (reported s)) := by
  obtain ⟨frame, queue⟩ := settleOpen_frames (scanDecision s).station (reported s)
  have clock : clockOk s = true → clockOk (reported s) = true := fun h => by
    rw [clockOk_iff] at *
    exact fun _ => scanDecision_clock h
  have alone : oneOpen s = true → oneOpen (settleOpen (scanDecision s).station (reported s)) = true := fun h => by
    refine (oneOpen_iff _).mpr ⟨settleOpen_openCount _ (((oneOpen_iff s).mp h).2 starting), fun startUp => ?_⟩
    rw [frame] at startUp
    cases startUp
  have accounts : AccountsBacked s → AccountsBacked (reported s) := fun h => by
    have facts := scanFacts_backed h
    obtain ⟨verdict, last⟩ := restoredEve_backed
      { Eve.initial (scanDecision s).station (scanDecision s).ret.epoch with
        work := [.restoration ⟨(scanDecision s).station, scanCause s, (scanDecision s).finding⟩ (scanFacts s)] }
      (scanDecision s).station h facts
    obtain ⟨-, -, -, h4, h5, h6, h7, h8⟩ := h
    refine ⟨verdict, last, fun p hp => ?_, h4, h5, h6, h7, h8⟩
    simp only [reported, State.setLogic_eve, State.setRqs_eve, State.setEve_eve, reportedEve, (restoredEve_work ..).1,
      List.mem_singleton] at hp
    subst hp
    exact facts
  have noPiece : (reported s).eve.current = none := (restoredEve_work ..).2
  rw [frame] at alone ⊢
  refine ⟨⟨rfl, .refl _, ?_, clock, alone, id, fun _ hv => ?_⟩, rfl⟩
  · simp only [bounded_iff, State.setJst_jst, queue]
    exact id
  · rw [verdictsBacked_iff] at *
    obtain ⟨h1, h2, h3, h4, h5⟩ := accounts hv.1
    exact ⟨⟨h1, h2, h3, fun e he => h4 e (queue ▸ he), h5⟩, fun _ => waitingBacked_none noPiece⟩

theorem finishScan_keeps {s : State} (env : Env) (starting : s.logic = .startUp) :
    ExecKeeps s (finishScan env s) := by
  rw [finishScan_eq]
  exact (reported_keeps starting).trans
    (((restoreLeg_follows ..).trans (.ite (openAtLight_follows ..) (.refl _))).settled env)

theorem continueScan_keeps {s : State} (env : Env) (starting : s.logic = .startUp) :
    ExecKeeps s (continueScan env s) := by
  unfold continueScan
  split
  · exact ((putStatus_follows s (by decide)).trans (setAccess_follows ..)).keeps
  · exact (setAccess_follows .none s).keeps.trans (finishScan_keeps env starting)

/-! ### RESTART -/

theorem scanVerdict_ne_opened (commissioned concluded : Bool) (named : List Nat) (g : Segment) :
    (scanVerdict commissioned concluded named g).1 ≠ .opened := by
  unfold scanVerdict
  dsimp only
  split
  case h_1 => decide
  all_goals split_ifs <;> simp only <;> decide

theorem scanned_openCount (s t : State) (h : t.jst = scanned s) : openCount t = 0 := by
  unfold openCount
  rw [List.length_eq_zero_iff, List.filter_eq_nil_iff]
  intro i _ opened
  simp only [beq_iff_eq, statusAt, h, scanned, List.getD_eq_getElem?_getD, List.getElem?_map] at opened
  cases inside : s.store[i]? with
  | none => simp [inside] at opened
  | some g =>
    simp only [inside, Option.map_some, Option.getD_some] at opened
    exact scanVerdict_ne_opened _ _ _ _ opened

/-- Every block reset in the main logic, and the segments read (R25). -/
def restarted (light : Bool) (s : State) : State :=
  let n := noteRestart s
  { n with
    logic := .startUp
    tch :=
      { probe := .pending
        air := .pending
        probeOffset := s.cmr.probeOffset
        airOffset := s.cmr.airOffset
        condition := .unknown
        taking := true
        partialWaiting := false }
    tmb := { n.tmb with stall := none }
    chc := .initial
    ptb := .initial
    dmn := .initial light
    eve := .initial .blank 0
    jst := scanned s
    cmr := { s.cmr with program := .none }
    rqs := { Rqs.initial with spoilt := s.cmr.spoilt } }

/-- The restart notes itself in the timebase and the retention domain alone, so the rest is read as it was. -/
theorem execRestart_stopped {s : State} (light : Bool) (env : Env) (h : s.logic = .stopped) :
    execRestart light env s = done (continueScan env (restarted light s)) := by
  have frame := (noteRestart_frame s).1
  unfold execRestart
  rw [if_pos h]
  unfold restarted
  dsimp only
  rw [frame]
  rfl

theorem noteRestart_sameClock (s : State) : (noteRestart s).retValid = s.retValid ∧
    (noteRestart s).ret.quarter = s.ret.quarter ∧ (noteRestart s).ret.epoch = s.ret.epoch := by
  unfold noteRestart
  split <;> exact ⟨rfl, rfl, rfl⟩

theorem restarted_keeps (light : Bool) (s : State) : ExecKeeps s (restarted light s) := by
  have frame := (noteRestart_frame s).1
  obtain ⟨valid, quarter, epoch⟩ := noteRestart_sameClock s
  have pending : (noteRestart s).pending = s.pending := by rw [frame]; rfl
  have store : (noteRestart s).store = s.store := by rw [frame]; rfl
  refine ⟨⟨rfl, .refl _, fun _ => rfl, ?_, fun _ => ?_, fun _ => rfl, fun _ hv => ?_⟩, pending⟩
  · simp only [clockOk_iff, restarted, valid, quarter, epoch]
    exact id
  · have none := scanned_openCount s (restarted light s) rfl
    exact (oneOpen_iff _).mpr ⟨by omega, fun _ => none⟩
  · rw [verdictsBacked_iff] at *
    obtain ⟨-, -, -, -, h5, h6, -, -⟩ := hv.1
    have same : ∀ v, backed (restarted light s) v = backed s v := fun _ => rfl
    refine ⟨⟨backed_intact _, backed_intact _, fun _ h => absurd h List.not_mem_nil, fun _ h => absurd h List.not_mem_nil, ?_, ?_,
      rfl, rfl⟩, fun running => by cases running⟩
    · intro g hg x hx
      have hg' : g ∈ s.store := store ▸ hg
      exact slotBacked_mono (fun v hb => (same v).trans hb) (h5 g hg' x hx)
    · exact fun whole => (same _).trans (h6 whole)

theorem execRestart_answers (light : Bool) (env : Env) (s : State) : Answers s (execRestart light env s) := by
  by_cases h : s.logic = .stopped
  · rw [execRestart_stopped light env h]
    exact .done ((restarted_keeps light s).trans (continueScan_keeps env rfl))
  · rw [execRestart, if_neg h]
    exact .done (.refl s)

theorem execScanEraseEnd_answers (left : EraseLeft) (env : Env) (s : State) :
    Answers s (execScanEraseEnd left env s) := by
  refine .done (.ite (fun starting => ?_) (.refl s))
  split
  · rename_i i _
    have erased := (endErase_follows i left s).trans
      (Follows.setJst_same (j := { (endErase i left s).jst with scan := (endErase i left s).jst.scan.tail }) (by rfl) (by rfl))
    exact erased.keeps.trans (continueScan_keeps env starting)
  · exact .refl s

/-! ### Every command, and every step -/

theorem exec_answers (c : Instr) (s : State) : Answers s (exec c s) := by
  cases c with
  | quarterEnd => exact execQuarterEnd_answers ..
  | countdownStep => exact execCountdownStep_answers ..
  | stallExpiry => exact execStallExpiry_answers ..
  | conversionComplete => exact execConversionComplete_answers ..
  | brownout => exact execBrownout_answers ..
  | retentionLoss => exact execRetentionLoss_answers ..
  | restart => exact execRestart_answers ..
  | scanEraseEnd => exact execScanEraseEnd_answers ..
  | restartRestoration => exact execRestartRestoration_answers ..
  | ordinaryClose => exact execOrdinaryClose_answers ..
  | partialClose => exact execPartialClose_answers ..
  | lateRefusal => exact execLateRefusal_answers ..
  | verdictMarkProgrammed => exact execVerdictMarkProgrammed_answers ..
  | noteDelayExpiry => exact execNoteDelayExpiry_answers ..
  | backoffEnd => exact execBackoffEnd_answers ..
  | transmissionEnd => exact execTransmissionEnd_answers ..
  | discoveryDelayExpiry => exact execDiscoveryDelayExpiry_answers ..
  | unsoundFrame | replyFrame | discardedNote | requestForAnotherStation => exact .done (.refl s)
  | chillNote => exact execChillNote_answers ..
  | lightEvent => exact execLightEvent_answers ..
  | unknownRequest req code fields env => exact execUnknownRequest_answers req code fields env s
  | discover => exact execDiscover_answers ..
  | commission => exact execCommission_answers ..
  | commissionByteProgrammed => exact execCommissionByteProgrammed_answers ..
  | queryStatus => exact execQueryStatus_answers ..
  | queryPeers => exact execQueryPeers_answers ..
  | read => exact execRead_answers ..
  | readOn => exact execReadOn_answers ..
  | fragmentComposed => exact execFragmentComposed_answers ..
  | checkpoint => exact execCheckpoint_answers ..
  | protectionMarkProgrammed => exact execProtectionMarkProgrammed_answers ..
  | conclude => exact execConclude_answers ..
  | conclusionFinalFigures => exact execConclusionFinalFigures_answers ..
  | conclusionMarkProgrammed => exact execConclusionMarkProgrammed_answers ..
  | finalFigureProgrammed => exact execFinalFigureProgrammed_answers ..
  | lockMarkProgrammed => exact execLockMarkProgrammed_answers ..
  | entryProgramEnd => exact execEntryProgramEnd_answers ..
  | allocationProgramEnd => exact execAllocationProgramEnd_answers ..
  | pageReadEnd => exact execPageReadEnd_answers ..
  | pageProgramEnd => exact execPageProgramEnd_answers ..
  | commitMarkProgrammed => exact execCommitMarkProgrammed_answers ..
  | sourceEraseEnd => exact execSourceEraseEnd_answers ..
  | cleanupEraseEnd => exact execCleanupEraseEnd_answers ..

/-! One timebase step of 250 ms moves the clock, the note delay and the stall timer, and queues what runs out. -/

theorem tickQuarter_follows (s : State) : Follows s (tickQuarter s).1 := by
  unfold tickQuarter
  split_ifs
  · exact .setRet_sameTime (by rfl) (by rfl)
  · exact .setRet_sameTime (by rfl) (by rfl)
  · exact .refl s

theorem tickMinute_follows (s : State) : Follows s (tickMinute s).1 := by
  unfold tickMinute
  split
  · split_ifs
    · exact .refl s
    · exact .setRet_sameTime (by rfl) (by rfl)
    · exact .setRet_sameTime (by rfl) (by rfl)
  all_goals exact .refl s

theorem tickNote_follows (s : State) : Follows s (tickNote s).1 := by
  unfold tickNote
  split
  · exact .setChc s _ id
  all_goals exact .refl s

theorem tickStall_follows (s : State) : Follows s (tickStall s).1 := by
  unfold tickStall
  split
  · exact .setTmb ..
  · exact .refl s

theorem StepKeeps.trans {s t u : State} (a : StepKeeps s t) (b : StepKeeps t u) : StepKeeps s u where
  identity := b.identity.trans a.identity
  loses := a.loses.trans b.loses
  bounded := b.bounded ∘ a.bounded
  clock := b.clock ∘ a.clock
  oneOpen := b.oneOpen ∘ a.oneOpen
  opening := b.opening ∘ a.opening
  verdicts := fun m v => b.verdicts (a.memory m) (a.verdicts m v)

theorem StepKeeps.setPending (s : State) (x : List Instr) : StepKeeps s (s.setPending x) :=
  ⟨rfl, .refl _, id, id, id, id, fun _ => id⟩

theorem StepKeeps.enqueue (quarter minute note stall : Bool) (s : State) :
    StepKeeps s (enqueue quarter minute note stall s) := by
  unfold Machine.enqueue
  dsimp only
  split
  · exact ⟨rfl, .refl _, id, id, id, id, fun _ => id⟩
  · exact (ExecKeeps.refl s).toStepKeeps

theorem tick_keeps (s : State) : StepKeeps s (tick s) := by
  have clock := (tickQuarter_follows s).trans (tickMinute_follows _)
  unfold tick
  dsimp only
  split
  · split
    · exact (clock.trans ((tickNote_follows _).trans (tickStall_follows _))).keeps.toStepKeeps.trans (.enqueue ..)
    · exact clock.keeps.toStepKeeps.trans (.enqueue ..)
  · exact (ExecKeeps.refl s).toStepKeeps

/-- Every step is answered, and keeps what a step keeps. -/
theorem step_keeps {s t : State} (h : step s = .next t) : StepKeeps s t := by
  cases hp : s.pending with
  | nil =>
    simp only [step, hp] at h
    cases h
    exact tick_keeps s
  | cons c rest =>
    rw [step_of_pending_cons hp] at h
    obtain ⟨u, answered, keeps⟩ := exec_answers c (s.setPending rest)
    rw [answered] at h
    cases h
    exact (StepKeeps.setPending s rest).trans keeps.toStepKeeps

/-! ### The obligations over all steps -/

/-- Settles O2: each command is answered (`exec_answers`), and no operation touches the queue of commands. -/
theorem everyCommandAnswers : Obligations.EveryCommandAnswers := by
  intro c s
  obtain ⟨t, answered, keeps⟩ := exec_answers c s
  exact ⟨t, answered, keeps.pending⟩

/-- Settles O5: a step programs the consignment part alone (`StepKeeps.loses`), and never the identity part. -/
theorem commissionRecordOnlyLosesOnes : Obligations.CommissionRecordOnlyLosesOnes :=
  ⟨fun _ _ memory next => (step_keeps next).memory memory,
    fun s _ memory next => ⟨(step_keeps next).identity,
      ((step_keeps next).loses ((memoryOk_iff s).mp memory).2).2⟩⟩

/-- Settles O6: the four invariants are kept by every operation (`Follows`) and by every command (`exec_answers`). -/
theorem queuesAndClockStayInRange : Obligations.QueuesAndClockStayInRange :=
  ⟨fun _ _ h next => (step_keeps next).bounded h, fun _ _ h next => (step_keeps next).clock h,
    fun _ _ h next => (step_keeps next).oneOpen h, fun _ _ h next => (step_keeps next).opening h⟩

theorem highestMark_never_falls {s t : State} (memory : memoryOk s = true) (next : step s = .next t) :
    s.cmr.highestMark.rank ≤ t.cmr.highestMark.rank :=
  Cmr.highestMark_mono ((memoryOk_iff s).mp memory).2 (step_keeps next).loses

theorem committedVerdict_rank (s : State) :
    (committedVerdict s).rank = max s.eve.lastVerdict.rank s.cmr.highestMark.rank := Verdict.rank_higher ..

/-- Settles O4: a step loses ones alone, so no mark is taken back; and in a state whose verdicts are backed the committed
verdict is the highest mark's level at most. -/
theorem highestMarkNeverFalls : Obligations.HighestMarkNeverFalls := by
  refine ⟨fun s t => highestMark_never_falls, committedVerdict_rank, fun s t memory verdicts next => ?_⟩
  refine ⟨(step_keeps next).verdicts memory verdicts, ?_⟩
  have last : s.eve.lastVerdict.rank ≤ s.cmr.highestMark.rank := by
    simpa [backed] using ((verdictsBacked_iff s).mp verdicts).1.2.1
  have rises := highestMark_never_falls memory next
  rw [committedVerdict_rank, committedVerdict_rank]
  omega

end Sys2Proof.Machine

/-! The end of a command with no request in service: what the append head, a rollover and a suspended step bring
(R115, R116, R119 to R121, R141). -/

namespace Sys2Proof.Machine

/-! ### A turn that finds no request in service -/

theorem running_of_logic {s : State} (h : s.logic = .running) : running s = true := by simp [running, h]

theorem checkpointStage_unserved {s : State} (h : s.rqs.service = none) : checkpointStage s = s := by
  simp [checkpointStage, h]

theorem readStage_unserved (first : Bool) {s : State} (h : s.rqs.service = none) : readStage first s = s := by
  simp [readStage, h]

theorem markStage_unserved {s : State} (h : s.rqs.service = none) : markStage s = s := by
  simp [markStage, h]

theorem openStage_unasked {s : State} (h : s.jst.wantOpen = none) : openStage s = s := by
  simp [openStage, h]

theorem headStage_empty {s : State} (h : s.jst.queue = []) : headStage s = s := by
  simp [headStage, h]

/-- With no request in service and no OPEN segment asked for, a turn is the append head's and the job's. -/
theorem turn_unserved (env : Env) {s : State} (service : s.rqs.service = none) (want : s.jst.wantOpen = none)
    (after : (headStage s).rqs.service = none) : turn env s = jobStage (headStage s) := by
  unfold turn
  simp only [checkpointStage_unserved service, openStage_unasked want, readStage_unserved _ service, ite_self,
    readStage_unserved _ after, markStage_unserved after]

theorem arrayFree_iff (s : State) : arrayFree s = true ↔ s.jst.access = .none := by simp [arrayFree]

/-- With an access in progress and no request in service nothing waits for the array. -/
theorem quiet_of_access {s : State} (service : s.rqs.service = none) (busy : s.jst.access ≠ .none) :
    quiet s = true := by
  have taken : arrayFree s = false := by simpa [arrayFree] using busy
  simp [quiet, checkpointRests, service, taken]

theorem jobStage_busy {s : State} (busy : s.jst.access ≠ .none) : jobStage s = s := by
  have taken : arrayFree s = false := by simpa [arrayFree] using busy
  simp [jobStage, clearForJob, taken]

/-- One turn takes the array, and the second finds it taken. -/
theorem settle_of_turn (env : Env) {s t : State} (running : running s = true) (turned : turn env s = t)
    (service : t.rqs.service = none) (busy : t.jst.access ≠ .none) : settle env s = kick env t := by
  simp only [settle, running, if_true, turned, turn_quiet env (quiet_of_access service busy)]

/-! ### The head of the append queue -/

theorem fits_iff (g : Segment) (e : Entry) : g.fits e = true ↔ g.slots.length + 1 + e.size ≤ 127 := by
  exact decide_eq_true_iff

theorem headStage_fits {s : State} {e : Entry} {rest : List Entry} {i : Nat} (queue : s.jst.queue = e :: rest)
    (free : s.jst.access = .none) (opened : openSeg s = some i) (fits : (segAt s i).fits e = true) :
    headStage s = setAccess (.entry i (segAt s i).fill) s := by
  simp [headStage, queue, arrayFree, free, opened, Option.filter, fits]

theorem headStage_rollover {s : State} {e : Entry} {rest : List Entry} (queue : s.jst.queue = e :: rest)
    (free : s.jst.access = .none) (full : ∀ i, openSeg s = some i → (segAt s i).fits e = false) :
    headStage s = rollover s := by
  have none : (openSeg s).filter (fun i => (segAt s i).fits e) = none :=
    Option.filter_eq_none_iff.mpr fun i hi => by simp [full i hi]
  simp [headStage, queue, arrayFree, free, none]

/-! ### A queue that is refused -/

theorem settleLeg_setPtb (e : LegEntry) (s : State) : ∃ p, settleLeg e false s = s.setPtb p := by
  unfold settleLeg
  split
  · split
    · exact ⟨_, rfl⟩
    · exact ⟨s.ptb, rfl⟩
  · exact ⟨s.ptb, rfl⟩

/-- The late refusals that a refused entry puts on the work list (R100). -/
def lateRefusals (es : List Entry) : List Piece := List.replicate (es.filter Entry.covers).length .lateRefusal

theorem lateRefusals_cons (e : Entry) (es : List Entry) : lateRefusals (e :: es) = lateRefusals [e] ++ lateRefusals es := by
  unfold lateRefusals
  cases h : e.covers <;> simp [h, List.replicate_succ]

theorem setEve_noWork (s : State) : s.setEve { s.eve with work := s.eve.work ++ [] } = s := by
  simp [State.setEve]

/-- A refused entry with no request in service: a coverage entry goes on the work list, a LEG entry may end its turnover. -/
theorem reportFate_unserved {s : State} {e : Entry} (service : s.rqs.service = none) (noRun : ∀ r, e ≠ .run r) :
    ∃ p, reportFate false e s = (s.setPtb p).setEve { s.eve with work := s.eve.work ++ lateRefusals [e] } := by
  cases e with
  | run r => exact absurd rfl (noRun r)
  | epoch | gap => exact ⟨s.ptb, rfl⟩
  | leg x =>
    obtain ⟨p, hp⟩ := settleLeg_setPtb x s
    exact ⟨p, hp.trans (setEve_noWork (s.setPtb p)).symm⟩
  | door => exact ⟨s.ptb, (setEve_noWork s).symm⟩
  | checkpoint =>
    have unserved : checkpointFate false s = s := by simp [checkpointFate, service]
    exact ⟨s.ptb, unserved.trans (setEve_noWork s).symm⟩
  | conclude =>
    have unserved : concludeFate false s = s := by simp [concludeFate, service]
    exact ⟨s.ptb, unserved.trans (setEve_noWork s).symm⟩

theorem refuseAll_unserved : ∀ (es : List Entry) {s : State}, s.rqs.service = none → (∀ r, Entry.run r ∉ es) →
    ∃ p, es.foldl (fun s e => reportFate false e s) s =
      (s.setPtb p).setEve { s.eve with work := s.eve.work ++ lateRefusals es }
  | [], s, _, _ => ⟨s.ptb, by simp [lateRefusals, State.setEve, State.setPtb]⟩
  | e :: es, s, service, noRun => by
    obtain ⟨p, first⟩ := reportFate_unserved service fun r h => noRun r (h ▸ .head _)
    obtain ⟨q, rest⟩ := refuseAll_unserved es (s := (s.setPtb p).setEve _) service
      fun r h => noRun r (.tail _ h)
    exact ⟨q, by rw [List.foldl_cons, first, rest, lateRefusals_cons e es]; simp [State.setEve, State.setPtb]⟩

theorem refuseQueue_unserved {s : State} (service : s.rqs.service = none) (noRun : ∀ r, Entry.run r ∉ s.jst.queue) :
    ∃ p, refuseQueue s = ((s.setJst { s.jst with queue := [], secondTry := false }).setPtb p).setEve
      { s.eve with work := s.eve.work ++ lateRefusals s.jst.queue } :=
  refuseAll_unserved s.jst.queue (s := s.setJst { s.jst with queue := [], secondTry := false }) service noRun

/-! ### A step of the job changes the journal store's state alone -/

theorem settleShort_setJst (s : State) : settleShort s = s.setJst (settleShort s).jst ∧
    (settleShort s).jst.queue = s.jst.queue ∧
    (s.jst.wantOpen = none → (settleShort s).jst.wantOpen = none) := by
  unfold settleShort fillStore
  split_ifs
  · exact ⟨rfl, rfl, id⟩
  · exact ⟨rfl, rfl, id⟩
  · split <;> exact ⟨rfl, rfl, fun _ => rfl⟩
  · exact ⟨rfl, rfl, id⟩

theorem jobStep_setJst (s : State) : jobStep s = s.setJst (jobStep s).jst ∧
    (jobStep s).jst.queue = s.jst.queue ∧ (s.jst.wantOpen = none → (jobStep s).jst.wantOpen = none) := by
  have settled : ∀ c, settleShort (endJob c s) = s.setJst (settleShort (endJob c s)).jst ∧
      (settleShort (endJob c s)).jst.queue = s.jst.queue ∧
      (s.jst.wantOpen = none → (settleShort (endJob c s)).jst.wantOpen = none) := fun c =>
    ⟨(settleShort_setJst (endJob c s)).1, (settleShort_setJst (endJob c s)).2⟩
  have erased : ∀ i a, beginErase i a s = s.setJst (beginErase i a s).jst ∧
      (beginErase i a s).jst.queue = s.jst.queue ∧
      (s.jst.wantOpen = none → (beginErase i a s).jst.wantOpen = none) := fun i a => by
    unfold beginErase
    split <;> exact ⟨rfl, rfl, id⟩
  unfold jobStep eraseSource
  dsimp only
  split
  case h_1 => split <;> [exact erased ..; exact ⟨rfl, rfl, id⟩]
  case h_2 =>
    split
    · exact ⟨rfl, rfl, id⟩
    · split <;> [exact ⟨rfl, rfl, id⟩; exact settled _]
  case h_3 => split <;> [exact ⟨rfl, rfl, id⟩; exact settled _]
  case h_4 => split <;> exact ⟨rfl, rfl, id⟩
  case h_5 => exact ⟨rfl, rfl, id⟩
  case h_6 | h_7 => split <;> [exact erased ..; exact ⟨rfl, rfl, id⟩]

theorem jobStage_setJst (s : State) : jobStage s = s.setJst (jobStage s).jst ∧
    (jobStage s).jst.queue = s.jst.queue ∧ (s.jst.wantOpen = none → (jobStage s).jst.wantOpen = none) := by
  unfold jobStage
  split
  · split
    · exact ⟨rfl, rfl, id⟩
    · exact jobStep_setJst s
  · exact ⟨rfl, rfl, id⟩

/-- Outside planning and allocation the job leaves the store condition. -/
theorem jobStage_condition {s : State} (planning : s.jst.job.phase ≠ .planning) (allocate : s.jst.job.phase ≠ .allocate) :
    (jobStage s).jst.condition = s.jst.condition ∧ (jobStage s).jst.job.phase = s.jst.job.phase := by
  have erased : ∀ i a, (beginErase i a s).jst.condition = s.jst.condition ∧
      (beginErase i a s).jst.job.phase = s.jst.job.phase := fun i a => by
    unfold beginErase
    split <;> exact ⟨rfl, rfl⟩
  unfold jobStage
  split
  · split
    · exact ⟨rfl, rfl⟩
    · unfold jobStep eraseSource
      dsimp only
      split
      case h_1 => split <;> [exact erased ..; exact ⟨rfl, rfl⟩]
      case h_2 => exact absurd ‹_› planning
      case h_3 => exact absurd ‹_› allocate
      case h_4 => split <;> exact ⟨rfl, rfl⟩
      case h_5 => exact ⟨rfl, rfl⟩
      case h_6 | h_7 => split <;> [exact erased ..; exact ⟨rfl, rfl⟩]
  · exact ⟨rfl, rfl⟩

/-- With nothing that can free a segment the job resumes a suspended step at most. -/
theorem jobStage_unable {s : State}
    (unable : s.jst.job.stopped = true ∨ s.jst.job.phase = .none ∧ s.jst.job.cleanup = none) :
    (jobStage s).jst.condition = s.jst.condition ∧ (jobStage s).jst.status = s.jst.status ∧
      ((jobStage s).jst.job.stopped = true ∨ (jobStage s).jst.job.phase = .none ∧ (jobStage s).jst.job.cleanup = none) := by
  unfold jobStage
  split
  · rename_i clear
    split
    · exact ⟨rfl, rfl, unable⟩
    · have alive : s.jst.job.stopped = false := by
        simp only [clearForJob, Bool.and_eq_true, Bool.not_eq_true'] at clear
        exact clear.2
      obtain stopped | ⟨phase, cleanup⟩ := unable
      · rw [alive] at stopped
        cases stopped
      · have idle : jobStep s = s := by simp [jobStep, phase, cleanup]
        rw [idle]
        exact ⟨rfl, rfl, .inr ⟨phase, cleanup⟩⟩
  · exact ⟨rfl, rfl, unable⟩

theorem unable_of_canFree {s : State} (h : canFree s = false) :
    s.jst.job.stopped = true ∨ s.jst.job.phase = .none ∧ s.jst.job.cleanup = none := by
  simp only [canFree, Bool.and_eq_false_iff, Bool.not_eq_false', Bool.or_eq_false_iff, bne_eq_false_iff_eq,
    Option.isSome_eq_false_iff, Option.isNone_iff_eq_none] at h
  exact h.imp_right fun h => h.1

/-- A refused queue leaves the array to the job in both turns. -/
theorem settle_refused (env : Env) {s t : State} (running : running s = true) (service : s.rqs.service = none)
    (want : s.jst.wantOpen = none) (refused : headStage s = t) (tservice : t.rqs.service = none)
    (twant : t.jst.wantOpen = none) (tqueue : t.jst.queue = []) :
    settle env s = kick env (jobStage (jobStage t)) := by
  obtain ⟨frame, queue, wants⟩ := jobStage_setJst t
  have first : turn env s = jobStage t := by
    rw [turn_unserved env service want (by rw [refused]; exact tservice), refused]
  have rests : headStage (jobStage t) = jobStage t := headStage_empty (queue.trans tqueue)
  have stays : (jobStage t).rqs.service = none := by rw [frame]; exact tservice
  have second : turn env (jobStage t) = jobStage (jobStage t) := by
    rw [turn_unserved env stays (wants twant) (by rw [rests]; exact stays), rests]
  simp only [settle, running, if_true, first, second]

theorem settle_refused_frame (env : Env) {s t : State} (settled : settle env s = kick env (jobStage (jobStage t))) :
    (settle env s).jst = (jobStage (jobStage t)).jst ∧ (settle env s).eve = t.eve ∧
      (settle env s).jst.queue = t.jst.queue := by
  have once := jobStage_setJst t
  have twice := jobStage_setJst (jobStage t)
  rw [settled]
  refine ⟨rfl, ?_, twice.2.1.trans once.2.1⟩
  show (jobStage (jobStage t)).eve = t.eve
  rw [twice.1, once.1]
  rfl

/-! ### The offer of an entry (R114, R140) -/

theorem offerAccepted_iff (s : State) : offerAccepted s = true ↔
    s.jst.condition = .normal ∧ s.jst.frozen = false ∧ s.jst.queue.length < 6 := by
  simp only [offerAccepted, Bool.and_eq_true, beq_iff_eq, Bool.not_eq_true', decide_eq_true_eq, and_assoc]
  exact Iff.rfl

theorem offer_refused {e : Entry} {s : State}
    (h : s.jst.condition ≠ .normal ∨ s.jst.frozen = true ∨ 6 ≤ s.jst.queue.length) : offer e s = (s, false) := by
  have no : ¬ offerAccepted s = true := by
    rw [offerAccepted_iff]
    rintro ⟨normal, thawed, room⟩
    obtain h | h | h := h
    · exact h normal
    · rw [thawed] at h; cases h
    · omega
  exact if_neg no

theorem offer_accepted {e : Entry} {s : State} (normal : s.jst.condition = .normal) (thawed : s.jst.frozen = false)
    (room : s.jst.queue.length < 6) :
    offer e s = (suspend (s.setJst { s.jst with queue := s.jst.queue ++ [e] }), true) :=
  if_pos ((offerAccepted_iff s).mpr ⟨normal, thawed, room⟩)

/-- An access that is no page program and no erase is not suspended. -/
theorem suspend_other {s : State} (page : s.jst.access ≠ .pageProgram)
    (erase : ∀ i, s.jst.access ≠ .sourceErase i ∧ s.jst.access ≠ .cleanupErase i) : suspend s = s := by
  unfold suspend
  split
  case h_1 => exact absurd ‹_› page
  case h_2 => exact absurd ‹_› (erase _).1
  case h_3 => exact absurd ‹_› (erase _).2
  all_goals rfl

/-! ### The resumed step (R141) -/

theorem settle_resumed (env : Env) {s : State} {step : Suspended} (running : running s = true)
    (free : s.jst.access = .none) (want : s.jst.wantOpen = none) (queue : s.jst.queue = [])
    (service : s.rqs.service = none) (thawed : s.jst.frozen = false) (alive : s.jst.job.stopped = false)
    (suspended : s.jst.job.suspended = some step) : settle env s = kick env (resume step s) := by
  have rests : headStage s = s := headStage_empty queue
  have clear : clearForJob s = true := by simp [clearForJob, arrayFree, free, queue, serviceClear, service, thawed, alive]
  have resumed : turn env s = resume step s := by
    rw [turn_unserved env service want (by rw [rests]; exact service), rests]
    simp [jobStage, clear, suspended]
  exact settle_of_turn env running resumed service (by cases step <;> simp [resume])

/-! ### The head of the queue, at the end of a command -/

section
variable {env : Env} {e : Entry} {rest : List Entry} {s : State} (running : running s = true)
  (free : s.jst.access = .none) (want : s.jst.wantOpen = none) (service : s.rqs.service = none)
  (queue : s.jst.queue = e :: rest)
include running free want service queue

theorem settle_programs {i : Nat} (opened : openSeg s = some i) (fits : (segAt s i).fits e = true) :
    settle env s = kick env (setAccess (.entry i (segAt s i).fill) s) := by
  have head := headStage_fits queue free opened fits
  refine settle_of_turn env running ?_ service (by simp [setAccess])
  rw [turn_unserved env service want (by rw [head]; exact service), head]
  exact jobStage_busy (by simp [setAccess])

theorem settle_allocates {i : Nat} {f : AllocFields}
    (full : ∀ i, openSeg s = some i → (segAt s i).fits e = false) (plan : planOpen s = some (i, f)) :
    settle env s = kick env (setAccess (.alloc .rollover i f) s) := by
  have head : headStage s = setAccess (.alloc .rollover i f) s := by
    rw [headStage_rollover queue free full]
    simp [rollover, plan]
  refine settle_of_turn env running ?_ service (by simp [setAccess])
  rw [turn_unserved env service want (by rw [head]; exact service), head]
  exact jobStage_busy (by simp [setAccess])

/-- No segment can be allocated, and consolidation can free one: the store is SHORT and the queue refused. -/
theorem settle_short (full : ∀ i, openSeg s = some i → (segAt s i).fits e = false) (plan : planOpen s = none)
    (noRun : ∀ r, Entry.run r ∉ s.jst.queue) (able : canFree s = true) :
    (settle env s).jst.queue = [] ∧ (settle env s).eve.work = s.eve.work ++ lateRefusals s.jst.queue ∧
      (s.jst.job.phase ≠ .planning → s.jst.job.phase ≠ .allocate → (settle env s).jst.condition = .short) := by
  obtain ⟨p, refused⟩ := refuseQueue_unserved (s := s.setJst { s.jst with condition := .short }) service noRun
  have head := headStage_rollover queue free full
  simp only [rollover, plan, able, if_true, refused] at head
  obtain ⟨jst, eve, emptied⟩ := settle_refused_frame env (settle_refused env running service want head service want rfl)
  refine ⟨emptied, congrArg Eve.work eve, fun planning allocate => ?_⟩
  have once := jobStage_condition (s := headStage s) (by rw [head]; exact planning) (by rw [head]; exact allocate)
  rw [head] at once
  rw [jst, (jobStage_condition (by rw [once.2]; exact planning) (by rw [once.2]; exact allocate)).1, once.1]
  rfl

/-- No segment can be allocated, and nothing can free one: the store is JOURNAL-FULL and the queue refused. -/
theorem settle_full (full : ∀ i, openSeg s = some i → (segAt s i).fits e = false) (plan : planOpen s = none)
    (noRun : ∀ r, Entry.run r ∉ s.jst.queue) (unable : canFree s = false) :
    (settle env s).jst.queue = [] ∧ (settle env s).eve.work = s.eve.work ++ lateRefusals s.jst.queue ∧
      (settle env s).jst.condition = .journalFull ∧ (settle env s).jst.status = (fillStore s).jst.status := by
  have kept : (fillStore s).rqs = s.rqs ∧ (fillStore s).eve = s.eve ∧ (fillStore s).jst.queue = s.jst.queue ∧
      (fillStore s).jst.wantOpen = none ∧ (fillStore s).jst.condition = .journalFull ∧
      (fillStore s).jst.job = s.jst.job := by
    unfold fillStore
    split <;> exact ⟨rfl, rfl, rfl, rfl, rfl, rfl⟩
  obtain ⟨rqs, eveKept, queueKept, wantKept, condition, job⟩ := kept
  obtain ⟨p, refused⟩ := refuseQueue_unserved (s := fillStore s) (by rw [rqs]; exact service)
    (by rw [queueKept]; exact noRun)
  have head := headStage_rollover queue free full
  simp only [rollover, plan, unable, Bool.false_eq_true, if_false, refused] at head
  have stuck : (headStage s).jst.job.stopped = true ∨
      (headStage s).jst.job.phase = .none ∧ (headStage s).jst.job.cleanup = none := by
    rw [head]
    change (fillStore s).jst.job.stopped = true ∨ (fillStore s).jst.job.phase = .none ∧ (fillStore s).jst.job.cleanup = none
    rw [job]
    exact unable_of_canFree unable
  have unserved : (headStage s).rqs.service = none := by
    rw [head]
    exact (congrArg Rqs.service rqs).trans service
  obtain ⟨jst, eve, emptied⟩ := settle_refused_frame env
    (settle_refused env running service want rfl unserved (by rw [head]; exact wantKept) (by rw [head]; rfl))
  obtain ⟨condition1, status1, stuck1⟩ := jobStage_unable stuck
  obtain ⟨condition2, status2, -⟩ := jobStage_unable stuck1
  refine ⟨emptied.trans (by rw [head]; rfl), ?_, ?_, ?_⟩
  · rw [eve, head]
    change (fillStore s).eve.work ++ lateRefusals (fillStore s).jst.queue = _
    rw [eveKept, queueKept]
  · rw [jst, condition2, condition1, head]
    exact condition
  · rw [jst, status2, status1, head]
    rfl

end

/-- The OPEN segment of a store that becomes JOURNAL-FULL is FULL (R121). -/
theorem fillStore_closes {s : State} {i : Nat} (opened : openSeg s = some i) : statusAt (fillStore s) i = .full := by
  have inside : i < s.jst.status.length := by
    by_contra outside
    have absent : statusAt s i = .outOfService := by
      simp [statusAt, List.getD_eq_getElem?_getD, List.getElem?_eq_none (not_lt.mp outside)]
    rw [(openSeg_some opened).2] at absent
    cases absent
  have closed : statusAt (fillStore s) i = statusAt (putStatus i .full s) i := by simp only [fillStore, opened]; rfl
  rw [closed, statusAt_putStatus, if_pos ⟨rfl, inside⟩]

/-- Settles O8: the frames are `settle_core` and `settle_blocks`; what the array takes up is the head's program
(`settle_programs`), a rollover (`settle_allocates`, `settle_short`, `settle_full`) or the suspended step
(`settle_resumed`). -/
theorem endOfCommandKeepsTheBlocks : Obligations.EndOfCommandKeepsTheBlocks := by
  refine ⟨fun env s => ⟨settle_core env s, fun light => ⟨settle_core env s, settle_blocks env light⟩,
    fun logic rests => settle_quiet env (running_of_logic logic) rests⟩, ?head, ?offer, ?resume⟩
  case head =>
    intro env e rest s logic free want service queue
    have runs := running_of_logic logic
    refine ⟨fun i opened fits => settle_programs runs free want service queue opened ((fits_iff ..).mpr fits),
      fun full => ?_⟩
    have noFit : ∀ i, openSeg s = some i → (segAt s i).fits e = false := fun i opened =>
      Bool.eq_false_iff.mpr fun fits => absurd ((fits_iff ..).mp fits) (full i opened).not_ge
    refine ⟨fun i f plan => settle_allocates runs free want service queue noFit plan, fun plan noRun => ?_⟩
    cases able : canFree s with
    | true =>
      obtain ⟨emptied, work, short⟩ := settle_short runs free want service queue noFit plan noRun able (env := env)
      exact ⟨emptied, work, fun _ => short, nofun⟩
    | false =>
      obtain ⟨emptied, work, condition, status⟩ := settle_full runs free want service queue noFit plan noRun able (env := env)
      refine ⟨emptied, work, nofun, fun _ => ⟨condition, fun i opened => ?_⟩⟩
      rw [statusAt, status]
      exact fillStore_closes opened
  case offer =>
    intro e s
    refine ⟨offer_refused, fun normal thawed room => ?_⟩
    rw [offer_accepted normal thawed room]
    refine ⟨fun page => ?_, fun i erase => ?_, fun i erase => ?_, fun page erase => ?_⟩
    · simp [suspend, page, State.setJst]
    · simp [suspend, erase, State.setJst]
    · simp [suspend, erase, State.setJst]
    · exact congrArg (·, true) (suspend_other (s := s.setJst { s.jst with queue := s.jst.queue ++ [e] }) page erase)
  case resume =>
    intro env s logic free want queue service thawed alive
    have resumes := fun step => settle_resumed env (step := step) (running_of_logic logic) free want queue service thawed alive
    exact ⟨resumes .page, fun i => resumes (.sourceErase i), fun i => resumes (.cleanupErase i)⟩

end Sys2Proof.Machine

/-! Bytes and the numbers they carry (R181), and the fields that R182 to R185 lay out: a field reads back where the bytes
before it end. -/

namespace Sys2Proof.Machine

/-! ### Big-endian numbers -/

theorem beNat_append (xs : List Byte) (b : Byte) : beNat (xs ++ [b]) = beNat xs * 256 + b.toNat := by
  simp [beNat]

theorem beNat_beBytes (w : Nat) : ∀ n, beNat (beBytes w n) = n % 256 ^ w := by
  induction w with
  | zero => exact fun n => by simp [beBytes, beNat, Nat.mod_one]
  | succ w ih =>
    intro n
    have split := Nat.mod_mul (x := n) (a := 256) (b := 256 ^ w)
    rw [beBytes, beNat_append, ih, BitVec.toNat_ofNat, show 256 ^ (w + 1) = 256 * 256 ^ w from pow_succ' .., split]
    omega

theorem beNat_beBytes_of_lt {w n : Nat} (h : n < 256 ^ w) : beNat (beBytes w n) = n := by
  rw [beNat_beBytes, Nat.mod_eq_of_lt h]

/-- A signed number that fits its bytes reads back (R181). -/
theorem signedOf_beSigned {w : Nat} {x : Int} (hw : 0 < w) (lo : -(2 ^ (8 * w - 1) : Nat) ≤ x) (hi : x < (2 ^ (8 * w - 1) : Nat)) :
    signedOf (8 * w) (beNat (beSigned w x)) = x := by
  have power : (256 : Nat) ^ w = 2 * 2 ^ (8 * w - 1) := by
    rw [← pow_succ', show 8 * w - 1 + 1 = 8 * w by omega, pow_mul]
    norm_num
  have twice : (2 : Nat) ^ (8 * w) = 2 * 2 ^ (8 * w - 1) := by rw [← power, pow_mul]; norm_num
  have range : (x % (256 ^ w : Nat)).toNat < 256 ^ w := by
    have := Int.emod_lt_of_pos x (b := ((256 ^ w : Nat) : Int)) (by positivity)
    omega
  rw [beSigned, beNat_beBytes_of_lt range, signedOf, twice, power]
  generalize 2 ^ (8 * w - 1) = k at *
  push_cast
  by_cases sign : 0 ≤ x
  · have same : x % (2 * k) = x := Int.emod_eq_of_lt sign (by omega)
    rw [same, if_pos (by omega)]
    omega
  · have shifted : x % (2 * k) = x + 2 * k := by
      rw [← Int.add_mul_emod_self_left x (2 * k) 1, mul_one]
      exact Int.emod_eq_of_lt (by omega) (by omega)
    rw [shifted, if_neg (by omega)]
    omega

/-! ### A field in a list of bytes -/

theorem numberAt_skip {xs ys : List Byte} {i : Nat} (n : Nat) (h : xs.length ≤ i) :
    numberAt (xs ++ ys) i n = numberAt ys (i - xs.length) n := by
  rw [numberAt, List.drop_append, List.drop_eq_nil_of_le h, List.nil_append, numberAt]

theorem numberAt_cons {b : Byte} {bs : List Byte} {i : Nat} (n : Nat) (h : 0 < i) :
    numberAt (b :: bs) i n = numberAt bs (i - 1) n := by
  obtain ⟨j, rfl⟩ := Nat.exists_eq_succ_of_ne_zero h.ne'
  rfl

theorem numberAt_here (xs ys : List Byte) : numberAt (xs ++ ys) 0 xs.length = beNat xs := by
  simp [numberAt]

theorem numberAt_beBytes {w n : Nat} (ys : List Byte) (h : n < 256 ^ w) : numberAt (beBytes w n ++ ys) 0 w = n := by
  have here := numberAt_here (beBytes w n) ys
  rwa [beBytes_length, beNat_beBytes_of_lt h] at here

@[simp] theorem beSigned_length (w : Nat) (x : Int) : (beSigned w x).length = w := beBytes_length ..
@[simp] theorem idBytes_length (i : PartyId) : (idBytes i).length = 4 := beBytes_length ..
@[simp] theorem crcBytes_length (bs : List Byte) : (crcBytes bs).length = 2 := beBytes_length ..

@[simp] theorem temperatureBytes_length (t : Option Int) : (temperatureBytes t).length = 2 := by
  cases t <;> simp [temperatureBytes]

theorem numberAt_id (i : PartyId) (ys : List Byte) : BitVec.ofNat 32 (numberAt (idBytes i ++ ys) 0 4) = i := by
  rw [idBytes, numberAt_beBytes ys i.isLt, BitVec.ofNat_toNat, BitVec.setWidth_eq]

theorem signed2_here {x : Int} (ys : List Byte) (lo : -32768 ≤ x) (hi : x < 32768) :
    signedOf 16 (numberAt (beSigned 2 x ++ ys) 0 2) = x := by
  have here := numberAt_here (beSigned 2 x) ys
  rw [beSigned_length] at here
  rw [here]
  exact signedOf_beSigned (w := 2) (by decide) (by simpa using lo) (by simpa using hi)

theorem signed1_here {x : Int} (ys : List Byte) (lo : -128 ≤ x) (hi : x < 128) :
    signedOf 8 (numberAt (beSigned 1 x ++ ys) 0 1) = x := by
  have here := numberAt_here (beSigned 1 x) ys
  rw [beSigned_length] at here
  rw [here]
  exact signedOf_beSigned (w := 1) (by decide) (by simpa using lo) (by simpa using hi)

theorem temperatureFits_iff (x : Int) : temperatureFits x = true ↔ -640 ≤ x ∧ x ≤ 960 := decide_eq_true_iff

theorem temperature_here {x : Int} (ys : List Byte) (fits : temperatureFits x = true) :
    signedOf 16 (numberAt (beSigned 2 x ++ ys) 0 2) = x := by
  obtain ⟨lo, hi⟩ := (temperatureFits_iff x).mp fits
  exact signed2_here ys (by omega) (by omega)

/-- A temperature in its range is not the absent one (R181). -/
theorem maybeTemperature_here {t : Option Int} (ys : List Byte) (fits : maybeFits t = true) :
    temperatureOf (numberAt (temperatureBytes t ++ ys) 0 2) = t := by
  cases t with
  | none =>
    have absent : numberAt ([0x7F, 0xFF] ++ ys) 0 2 = 0x7FFF := numberAt_here [0x7F, 0xFF] ys
    simp only [temperatureOf, temperatureBytes, absent, if_true]
  | some x =>
    have back : signedOf 16 (numberAt (beSigned 2 x ++ ys) 0 2) = x := temperature_here ys fits
    have present : numberAt (beSigned 2 x ++ ys) 0 2 ≠ 0x7FFF := fun absent => by
      rw [absent] at back
      have range := (temperatureFits_iff x).mp fits
      simp only [signedOf] at back
      omega
    simp only [temperatureOf, temperatureBytes, if_neg present, back]

/-! ### A slot image (R184) -/

/-- What stands behind the fields of a slot image: the padding and the slot check. -/
def slotTail (kind : Byte) (fields : List Byte) : List Byte :=
  List.replicate (29 - fields.length) 0x00 ++
    crcBytes (kind :: fields ++ List.replicate (29 - fields.length) 0x00)

theorem slotImage_eq (kind : Byte) (fields : List Byte) :
    slotImage kind fields = kind :: (fields ++ slotTail kind fields) := by
  simp [slotImage, slotTail]

theorem slotImage_length {kind : Byte} {fields : List Byte} (h : fields.length ≤ 29) :
    (slotImage kind fields).length = 32 := by
  simp [slotImage]
  omega

theorem slotCondition_slotImage {kind : Byte} {fields : List Byte} (known : slotKinds.contains kind = true)
    (h : fields.length ≤ 29) : slotCondition (slotImage kind fields) = .passes kind := by
  have listed : ∀ k : Byte, slotKinds.contains k = true → k ≠ erasedByte ∧ k ≠ 0 := by decide
  obtain ⟨programmed, sound⟩ := listed kind known
  have body : (kind :: fields ++ List.replicate (29 - fields.length) (0x00 : Byte)).length = 30 := by
    simp
    omega
  have notErased : (slotImage kind fields).all (· == erasedByte) = false := by
    simp [slotImage_eq, programmed]
  have first : (slotImage kind fields).headD 0 = kind := rfl
  have check : (slotImage kind fields).drop 30 = crcBytes ((slotImage kind fields).take 30) := by
    rw [slotImage, List.drop_left' body, List.take_left' body]
  rw [slotCondition, if_neg (by simp [notErased]), first, if_neg sound, if_pos ⟨check, known⟩]

theorem numberAt_slotImage (kind : Byte) (fields : List Byte) {i : Nat} (n : Nat) (h : 0 < i) :
    numberAt (slotImage kind fields) i n = numberAt (fields ++ slotTail kind fields) (i - 1) n := by
  rw [slotImage_eq, numberAt_cons n h]

/-! ### Codes (R181) -/

theorem Grade.ofCode_code (g : Grade) : Grade.ofCode g.code = g := by cases g <;> rfl
theorem GapCause.ofCode_code (c : GapCause) : GapCause.ofCode c.code = some c := by cases c <;> rfl

theorem EpochFlags.number_lt (f : EpochFlags) : f.number < 65536 := by
  have bit : ∀ b i, flagBit b i ≤ 2 ^ i := fun b i => by cases b <;> simp [flagBit]
  have := bit f.above 0
  have := bit f.below 1
  have := bit f.ceiling 2
  have := bit f.floor 3
  have := bit f.door 4
  have := bit f.overrun 5
  have := bit f.discord 6
  have := bit f.suspect 7
  have := bit f.clamped 8
  have := bit f.partialEpoch 9
  simp only [EpochFlags.number]
  omega

/-- A number's bits are its own bit and those of its half. -/
theorem testBit_flagBit_add (b : Bool) (n i : Nat) :
    (flagBit b 0 + 2 * n).testBit i = if i = 0 then b else n.testBit (i - 1) := by
  cases i with
  | zero => cases b <;> simp [flagBit, Nat.testBit_zero]
  | succ i =>
    have half : (flagBit b 0 + 2 * n) / 2 = n := by cases b <;> simp only [flagBit] <;> grind
    simp [Nat.testBit_succ, half]

theorem testBit_flagBit (b : Bool) : (flagBit b 0).testBit 0 = b := by cases b <;> rfl

theorem flagBit_succ (b : Bool) (i : Nat) : flagBit b (i + 1) = 2 * flagBit b i := by
  cases b <;> simp [flagBit, pow_succ']

theorem EpochFlags.ofNumber_number (f : EpochFlags) : EpochFlags.ofNumber f.number = f := by
  obtain ⟨a, b, c, d, e, g, h, i, j, k⟩ := f
  have nested : (EpochFlags.mk a b c d e g h i j k).number =
      flagBit a 0 + 2 * (flagBit b 0 + 2 * (flagBit c 0 + 2 * (flagBit d 0 + 2 * (flagBit e 0 + 2 * (flagBit g 0 +
        2 * (flagBit h 0 + 2 * (flagBit i 0 + 2 * (flagBit j 0 + 2 * (flagBit k 0 + 2 * 0))))))))) := by
    simp only [EpochFlags.number, flagBit_succ]
    omega
  simp [EpochFlags.ofNumber, nested, testBit_flagBit_add, testBit_flagBit, -Nat.testBit_zero]

/-! ### The entries -/

theorem decode_epoch {e : EpochEntry} (fits : entryFits (.epoch e) = true) (more : Option (List Byte)) :
    decodeEntry (slotImage 0x11 (Entry.epoch e).fieldBytes) more = some (.epoch e) := by
  simp only [entryFits, Bool.and_eq_true, decide_eq_true_eq] at fits
  obtain ⟨⟨⟨value, probe⟩, air⟩, epoch, peers, contribution, draw, exposure, drawn, run, leg⟩ := fits
  have grade : e.grade.code ≤ 3 := by cases e.grade <;> decide
  have verdict : e.verdict.rank ≤ 3 := by cases e.verdict <;> decide
  have flags := e.flags.number_lt
  have len : (Entry.epoch e).fieldBytes.length ≤ 29 := by simp [Entry.fieldBytes]
  simp only [decodeEntry, slotCondition_slotImage (kind := 0x11) (by decide) len, BitVec.reduceEq, reduceIte]
  simp only [Config.maxEpoch, Config.maxExposure, Config.maxRun] at epoch exposure run
  have gradeBits : (e.grade.code * 64 + e.peers) / 64 = e.grade.code := by omega
  have peerBits : (e.grade.code * 64 + e.peers) % 16 = e.peers := by omega
  simp only [numberAt_slotImage, Nat.lt_add_one, Nat.ofNat_pos]
  generalize slotTail 0x11 (Entry.epoch e).fieldBytes = tail
  simp only [Entry.fieldBytes, List.append_assoc, numberAt_skip, beBytes_length, temperatureBytes_length, Nat.reduceLeDiff,
    Nat.reduceSub, le_refl]
  simp (disch := omega) only [numberAt_beBytes, maybeTemperature_here _ value, maybeTemperature_here _ probe,
    maybeTemperature_here _ air, gradeBits, peerBits, Grade.ofCode_code, EpochFlags.ofNumber_number, Verdict.ofCode_rank]

theorem Verdict.rank_le (v : Verdict) : v.rank ≤ 3 := by cases v <;> decide

theorem decode_run {e : RunEntry} (fits : entryFits (.run e) = true) (more : Option (List Byte)) :
    decodeEntry (slotImage 0x12 (Entry.run e).fieldBytes) more = some (.run e) := by
  simp only [entryFits, Bool.and_eq_true, decide_eq_true_eq] at fits
  obtain ⟨⟨minimum, maximum⟩, first, count, exposure, drawn, leg⟩ := fits
  have verdict := e.verdict.rank_le
  have len : (Entry.run e).fieldBytes.length ≤ 29 := by simp [Entry.fieldBytes]
  simp only [Config.maxEpoch, Config.maxExposure, Config.maxRun] at first count exposure
  simp only [decodeEntry, slotCondition_slotImage (kind := 0x12) (by decide) len, BitVec.reduceEq, reduceIte]
  simp only [numberAt_slotImage, Nat.lt_add_one, Nat.ofNat_pos]
  generalize slotTail 0x12 (Entry.run e).fieldBytes = tail
  simp only [Entry.fieldBytes, List.append_assoc, numberAt_skip, beBytes_length, beSigned_length, Nat.reduceLeDiff,
    Nat.reduceSub, le_refl]
  simp (disch := omega) only [numberAt_beBytes, temperature_here _ minimum, temperature_here _ maximum, Verdict.ofCode_rank]

theorem decode_gap {e : GapEntry} (fits : entryFits (.gap e) = true) (more : Option (List Byte)) :
    decodeEntry (slotImage 0x13 (Entry.gap e).fieldBytes) more = some (.gap e) := by
  simp only [entryFits, decide_eq_true_eq] at fits
  obtain ⟨first, run, counted, count⟩ := fits
  have verdict := e.verdict.rank_le
  have cause : e.cause.code ≤ 3 := by cases e.cause <;> decide
  have len : (Entry.gap e).fieldBytes.length ≤ 29 := by simp [Entry.fieldBytes]
  simp only [Config.maxEpoch, Config.maxRun] at first run count
  have countBack : (if e.count.getD 0 = 0 then none else some (e.count.getD 0)) = e.count := by
    cases known : e.count with
    | none => rfl
    | some n =>
      have some : n ≠ 0 := fun zero => counted (by rw [known, zero])
      simp [some]
  simp only [decodeEntry, slotCondition_slotImage (kind := 0x13) (by decide) len, BitVec.reduceEq, reduceIte]
  simp only [numberAt_slotImage, Nat.lt_add_one, Nat.ofNat_pos]
  generalize slotTail 0x13 (Entry.gap e).fieldBytes = tail
  simp only [Entry.fieldBytes, List.append_assoc, numberAt_skip, beBytes_length, Nat.reduceLeDiff, Nat.reduceSub, le_refl]
  simp (disch := omega) only [numberAt_beBytes, GapCause.ofCode_code, countBack, Option.map_some, Verdict.ofCode_rank]

theorem decode_door {e : DoorEntry} (fits : entryFits (.door e) = true) (more : Option (List Byte)) :
    decodeEntry (slotImage 0x31 (Entry.door e).fieldBytes) more = some (.door e) := by
  simp only [entryFits, decide_eq_true_eq] at fits
  obtain ⟨start, stop, stamp, drawn⟩ := fits
  simp only [Config.maxEpoch] at start stop stamp
  have len : (Entry.door e).fieldBytes.length ≤ 29 := by simp [Entry.fieldBytes]
  obtain ⟨flags, flagsEq⟩ : ∃ n, n = flagBit (e.origin == .heard) 0 + flagBit e.overrun 1 + flagBit e.conclusion 2 := ⟨_, rfl⟩
  have bits : flags = flagBit (e.origin == .heard) 0 + 2 * (flagBit e.overrun 0 + 2 * (flagBit e.conclusion 0 + 2 * 0)) := by
    rw [flagsEq]
    simp only [flagBit_succ]
    omega
  have small : flags < 256 := by
    have bit : ∀ b, flagBit b 0 ≤ 1 := by decide
    have := bit (e.origin == .heard)
    have := bit e.overrun
    have := bit e.conclusion
    omega
  have origin : (if e.origin = .heard then Origin.heard else .own) = e.origin := by cases e.origin <;> rfl
  simp only [decodeEntry, slotCondition_slotImage (kind := 0x31) (by decide) len, BitVec.reduceEq, reduceIte]
  simp only [numberAt_slotImage, Nat.lt_add_one, Nat.ofNat_pos]
  generalize slotTail 0x31 (Entry.door e).fieldBytes = tail
  simp only [Entry.fieldBytes, ← flagsEq, List.append_assoc, numberAt_skip, beBytes_length, Nat.reduceLeDiff,
    Nat.reduceSub, le_refl]
  simp (disch := omega) only [numberAt_beBytes]
  simp [bits, testBit_flagBit_add, testBit_flagBit, origin, -Nat.testBit_zero]

theorem decode_checkpoint {e : CheckpointEntry} (fits : entryFits (.checkpoint e) = true) (more : Option (List Byte)) :
    decodeEntry (slotImage 0x41 (Entry.checkpoint e).fieldBytes) more = some (.checkpoint e) := by
  simp only [entryFits, decide_eq_true_eq] at fits
  obtain ⟨number, epoch, exposure⟩ := fits
  have verdict := e.verdict.rank_le
  have len : (Entry.checkpoint e).fieldBytes.length ≤ 29 := by simp [Entry.fieldBytes]
  simp only [Config.maxEpoch, Config.maxExposure] at epoch exposure
  simp only [decodeEntry, slotCondition_slotImage (kind := 0x41) (by decide) len, BitVec.reduceEq, reduceIte]
  simp only [numberAt_slotImage, Nat.lt_add_one, Nat.ofNat_pos]
  generalize slotTail 0x41 (Entry.checkpoint e).fieldBytes = tail
  simp only [Entry.fieldBytes, List.append_assoc, numberAt_skip, beBytes_length, idBytes_length, Nat.reduceLeDiff,
    Nat.reduceSub, le_refl]
  simp (disch := omega) only [numberAt_beBytes, numberAt_id, Verdict.ofCode_rank]

/-! A LEG entry's founding ids, four to a slot, and a CONCLUDE entry's receipt tag. -/

theorem founderBytes_length (places : Nat) (ids : List PartyId) : (founderBytes places ids).length = 4 * places := by
  simp [founderBytes, List.length_flatMap, mul_comm]

theorem founderBytes_succ (places : Nat) (ids : List PartyId) :
    founderBytes (places + 1) ids = founderBytes places ids ++ idBytes (ids.getD places 0) := by
  simp [founderBytes, List.range_succ]

theorem founder_here {places i : Nat} (ids : List PartyId) (ys : List Byte) (h : i < places) :
    BitVec.ofNat 32 (numberAt (founderBytes places ids ++ ys) (4 * i) 4) = ids.getD i 0 := by
  induction places generalizing ys with
  | zero => omega
  | succ places ih =>
    rw [founderBytes_succ, List.append_assoc]
    obtain before | rfl := Nat.lt_succ_iff_lt_or_eq.mp h
    · exact ih _ before
    · rw [numberAt_skip 4 (founderBytes_length ..).le, founderBytes_length, Nat.sub_self, numberAt_id]

theorem foundersAt_here {places n : Nat} {ids : List PartyId} (ys : List Byte) (h : n ≤ places) (all : n ≤ ids.length) :
    foundersAt (founderBytes places ids ++ ys) 0 n = ids.take n := by
  refine List.ext_getElem (by simp [foundersAt, all]) fun i hi _ => ?_
  have inside : i < n := by simpa [foundersAt] using hi
  simp only [foundersAt, List.getElem_map, List.getElem_range, zero_add, List.getElem_take]
  rw [founder_here ids ys (by omega), List.getD_eq_getElem _ _ (by omega)]

theorem foundersAt_skip {xs ys : List Byte} {at1 : Nat} (n : Nat) (h : xs.length ≤ at1) :
    foundersAt (xs ++ ys) at1 n = foundersAt ys (at1 - xs.length) n := by
  unfold foundersAt
  refine List.map_congr_left fun i _ => ?_
  rw [numberAt_skip 4 (by omega), Nat.sub_add_comm h]

theorem foundersAt_slotImage (kind : Byte) (fields : List Byte) {at1 : Nat} (n : Nat) (h : 0 < at1) :
    foundersAt (slotImage kind fields) at1 n = foundersAt (fields ++ slotTail kind fields) (at1 - 1) n := by
  rw [slotImage_eq]
  exact foundersAt_skip (xs := [kind]) n h

theorem decode_leg {e : LegEntry} (fits : entryFits (.leg e) = true) (more : Option (List Byte))
    (rest : 4 < e.founders.length → more = some (slotImage 0x22 (founderBytes 4 (e.founders.drop 4)))) :
    decodeEntry (slotImage 0x21 (Entry.leg e).fieldBytes) more = some (.leg e) := by
  simp only [entryFits, decide_eq_true_eq] at fits
  obtain ⟨leg, start, founders⟩ := fits
  simp only [Config.maxEpoch] at start
  have len : (Entry.leg e).fieldBytes.length ≤ 29 := by simp [Entry.fieldBytes, founderBytes_length]
  simp only [decodeEntry, slotCondition_slotImage (kind := 0x21) (by decide) len, BitVec.reduceEq, reduceIte]
  simp only [numberAt_slotImage, foundersAt_slotImage, Nat.lt_add_one, Nat.ofNat_pos]
  generalize slotTail 0x21 (Entry.leg e).fieldBytes = tail
  simp only [Entry.fieldBytes, List.append_assoc, numberAt_skip, foundersAt_skip, beBytes_length, Nat.reduceLeDiff,
    Nat.reduceSub, le_refl]
  simp (disch := omega) only [numberAt_beBytes]
  by_cases one : e.founders.length ≤ 4
  · rw [if_pos one, foundersAt_here tail one le_rfl, List.take_length]
  · have two : (founderBytes 4 (e.founders.drop 4)).length ≤ 29 := by simp [founderBytes_length]
    rw [if_neg one, rest (by omega)]
    simp only [slotCondition_slotImage (kind := 0x22) (by decide) two, if_true, foundersAt_slotImage _ _ _ Nat.one_pos]
    rw [foundersAt_here tail le_rfl (by omega), foundersAt_here _ (by omega) (by simp), List.take_of_length_le (l := e.founders.drop 4) (by simp),
      List.take_append_drop]

theorem decode_conclude {e : ConcludeEntry} (fits : entryFits (.conclude e) = true) :
    decodeEntry (slotImage 0x51 (Entry.conclude e).fieldBytes) (some (slotImage 0x52 e.tag)) = some (.conclude e) := by
  simp only [entryFits, decide_eq_true_eq] at fits
  obtain ⟨epoch, exposure, drawn, restarts, tag, stamp⟩ := fits
  simp only [Config.maxEpoch, Config.maxExposure] at epoch exposure stamp
  have verdict := e.figures.verdict.rank_le
  have final : ∃ present number, presentBytes 3 e.figures.epoch = beBytes 1 present ++ beBytes 3 number ∧
      present < 256 ∧ number < 256 ^ 3 ∧ (if present = 1 then some number else none) = e.figures.epoch := by
    cases known : e.figures.epoch with
    | none => exact ⟨0, 0, by decide, by decide, by decide, rfl⟩
    | some n =>
      rw [known, Option.getD_some] at epoch
      exact ⟨1, n, rfl, by decide, by omega, rfl⟩
  obtain ⟨present, number, finalBytes, presentFits, numberFits, finalBack⟩ := final
  have len : (Entry.conclude e).fieldBytes.length ≤ 29 := by simp [Entry.fieldBytes, finalBytes]
  have tagBack : (List.drop 1 (slotImage 0x52 e.tag)).take e.tag.length = e.tag := by simp [slotImage_eq]
  simp only [decodeEntry, slotCondition_slotImage (kind := 0x51) (by decide) len, BitVec.reduceEq, reduceIte,
    slotCondition_slotImage (kind := 0x52) (fields := e.tag) (by decide) (by omega)]
  simp only [numberAt_slotImage, Nat.lt_add_one, Nat.ofNat_pos]
  generalize slotTail 0x51 (Entry.conclude e).fieldBytes = tail
  simp only [Entry.fieldBytes, finalBytes, List.append_assoc, numberAt_skip, beBytes_length, idBytes_length,
    Nat.reduceLeDiff, Nat.reduceSub, le_refl]
  simp (disch := omega) only [numberAt_beBytes, numberAt_id, Verdict.ofCode_rank, finalBack, tagBack]

/-! ### The image of an entry -/

theorem image_one {e : Entry} (one : e.continuation = none) : e.image = slotImage e.kind e.fieldBytes := by
  simp [Entry.image, one]

/-- Settles O10: an entry of one slot is decoded from it, and one of two slots from both. -/
theorem slotImageReadsBack : Obligations.SlotImageReadsBack := by
  intro e fits
  have whole : ∀ {e : Entry}, e.fieldBytes.length ≤ 29 → e.continuation = none →
      e.image.take 32 = slotImage e.kind e.fieldBytes := fun len one => by
    rw [image_one one, List.take_of_length_le (slotImage_length len).le]
  have first : ∀ {e : Entry} {more : List Byte}, e.fieldBytes.length ≤ 29 → e.image = slotImage e.kind e.fieldBytes ++ more →
      e.image.take 32 = slotImage e.kind e.fieldBytes ∧ e.image.drop 32 = more := fun len two => by
    rw [two]
    exact ⟨List.take_left' (slotImage_length len), List.drop_left' (slotImage_length len)⟩
  cases e with
  | epoch e =>
    rw [whole (by simp [Entry.fieldBytes]) rfl]
    exact decode_epoch fits _
  | run e =>
    rw [whole (by simp [Entry.fieldBytes]) rfl]
    exact decode_run fits _
  | gap e =>
    rw [whole (by simp [Entry.fieldBytes]) rfl]
    exact decode_gap fits _
  | door e =>
    rw [whole (by simp [Entry.fieldBytes]) rfl]
    exact decode_door fits _
  | checkpoint e =>
    rw [whole (by simp [Entry.fieldBytes]) rfl]
    exact decode_checkpoint fits _
  | leg e =>
    have len : (Entry.leg e).fieldBytes.length ≤ 29 := by simp [Entry.fieldBytes, founderBytes_length]
    by_cases two : 4 < e.founders.length
    · obtain ⟨start, rest⟩ := first (e := .leg e) (more := slotImage 0x22 (founderBytes 4 (e.founders.drop 4))) len
        (by simp [Entry.image, Entry.continuation, two])
      rw [start, rest]
      exact decode_leg fits _ fun _ => by simp [Entry.size, two]
    · rw [whole len (by simp [Entry.continuation, two])]
      exact decode_leg fits _ fun h => absurd h two
  | conclude e =>
    have len : (Entry.conclude e).fieldBytes.length ≤ 29 := by
      cases known : e.figures.epoch <;> simp [Entry.fieldBytes, presentBytes, known]
    obtain ⟨start, rest⟩ := first (e := .conclude e) (more := slotImage 0x52 e.tag) len rfl
    rw [start, rest]
    exact decode_conclude fits

end Sys2Proof.Machine

/-! Segment headers, protection marks and notes (R106, R182, R185), frames (R31 to R36), and the terms of a commissioning
(R169, R185). -/

namespace Sys2Proof.Machine

/-! ### Allocation fields and protection marks -/

/-- The bytes of the sources' places. -/
def sourceBytes : Option (Nat × Nat) → List Byte
  | some (a, b) => beBytes 2 a ++ beBytes 2 b
  | none => List.replicate 4 erasedByte

@[simp] theorem sourceBytes_length (x : Option (Nat × Nat)) : (sourceBytes x).length = 4 := by
  cases x <;> simp [sourceBytes]

def roleOf (x : Option (Nat × Nat)) : Byte := if x.isSome then roleTarget else roleJournal

theorem AllocFields.bytes_eq (f : AllocFields) :
    f.bytes = beBytes 2 f.seq ++ ([roleOf f.sources] ++ (beBytes 3 f.span ++ sourceBytes f.sources)) := by
  simp only [AllocFields.bytes, roleOf, List.append_assoc]
  cases f.sources <;> rfl

theorem readAlloc_image {f : AllocFields} (seq : f.seq ≤ 65535) (span : f.span ≤ Config.maxEpoch)
    (sources : ∀ a b, f.sources = some (a, b) → a ≤ 65535 ∧ b ≤ 65535) : readAlloc f.image = .fields f := by
  have len : f.bytes.length = 10 := by simp [AllocFields.bytes_eq]
  have image : f.image = beBytes 2 f.seq ++ (roleOf f.sources :: (beBytes 3 f.span ++ (sourceBytes f.sources ++ crcBytes f.bytes))) := by
    rw [AllocFields.image, f.bytes_eq]
    simp
  have role : f.image.getD 2 0 = roleOf f.sources := by
    rw [image, List.getD_append_right _ _ _ _ (by simp)]
    simp
  have programmed : f.image.all (· == erasedByte) = false := by
    rw [image]
    have notErased : (roleOf f.sources == erasedByte) = false := by cases f.sources <;> rfl
    simp [notErased]
  have check : f.image.drop 10 = crcBytes (f.image.take 10) := by
    rw [AllocFields.image, List.drop_left' len, List.take_left' len]
  have numbers : numberAt f.image 0 2 = f.seq ∧ numberAt f.image 3 3 = f.span := by
    simp only [Config.maxEpoch] at span
    rw [image]
    simp (disch := simp) only [numberAt_skip, numberAt_cons, beBytes_length, Nat.reduceSub]
    exact ⟨numberAt_beBytes _ (by omega), numberAt_beBytes _ (by omega)⟩
  have named : (if f.image.getD 2 0 = roleTarget then some (numberAt f.image 6 2, numberAt f.image 8 2) else none) =
      f.sources := by
    rw [role]
    cases h : f.sources with
    | none => rfl
    | some x =>
      obtain ⟨ha, hb⟩ := sources x.1 x.2 h
      rw [image, h]
      simp (disch := simp) only [numberAt_skip, numberAt_cons, beBytes_length, Nat.reduceSub, sourceBytes, List.append_assoc]
      rw [numberAt_beBytes _ (by omega), numberAt_beBytes _ (by omega)]
      rfl
  have known : roleOf f.sources = roleTarget ∨ roleOf f.sources = roleJournal := by
    cases f.sources
    · exact .inr rfl
    · exact .inl rfl
  rw [readAlloc, if_neg (by simp [programmed])]
  simp only [named, numbers]
  rw [if_pos ⟨by rw [role]; exact known, check⟩]

theorem protection_reads_back : ∀ n : Fin 33, 1 ≤ n.val → readProtection (protectionImage n.val) = .whole n.val := by
  decide

/-! ### Notes -/

/-- The byte of a note's flags. -/
def noteFlags (n : Note) : Nat :=
  flagBit n.air.isSome 7 + flagBit n.fit 6 + n.door.code * 16 + n.verdict.rank * 4

/-- The AIR byte of a note, where it carries one. -/
def noteAir (n : Note) : List Byte :=
  match n.air with
  | some b => beSigned 1 b
  | none => []

theorem DoorFlag.ofCode_code (d : DoorFlag) : DoorFlag.ofCode d.code = some d := by cases d <;> rfl

/-- A note's flags are read bit by bit. -/
theorem noteFlags_back (n : Note) : noteFlags n < 256 ∧ noteFlags n % 4 = 0 ∧ noteFlags n / 4 % 4 = n.verdict.rank ∧
    noteFlags n / 16 % 4 = n.door.code ∧ (noteFlags n).testBit 6 = n.fit ∧ (noteFlags n).testBit 7 = n.air.isSome := by
  unfold noteFlags
  cases n.fit <;> cases n.air.isSome <;> cases n.door <;> cases n.verdict <;> decide

theorem parseNote_payload {n : Note} (fits : noteFits n = true) : parseNote n.payload = some n := by
  simp only [noteFits, Bool.and_eq_true, decide_eq_true_eq] at fits
  obtain ⟨⟨cls1, cls7, leg⟩, air⟩ := fits
  obtain ⟨small, low, verdict, door, fit, present⟩ := noteFlags_back n
  have payload : n.payload = beBytes 1 n.cls ++ (beBytes 1 (noteFlags n) ++ (beBytes 1 n.leg ++ noteAir n)) := by
    simp only [Note.payload, noteFlags, noteAir, List.append_assoc] <;> rfl
  have flags : n.payload.getD 1 0 = BitVec.ofNat 8 (noteFlags n) := rfl
  have number : (BitVec.ofNat 8 (noteFlags n)).toNat = noteFlags n := by
    rw [BitVec.toNat_ofNat, Nat.mod_eq_of_lt small]
  have bit7 : (BitVec.ofNat 8 (noteFlags n)).getLsbD 7 = n.air.isSome := by rw [BitVec.getLsbD_ofNat, present]; rfl
  have bit6 : (BitVec.ofNat 8 (noteFlags n)).getLsbD 6 = n.fit := by rw [BitVec.getLsbD_ofNat, fit]; rfl
  have clsBack : numberAt n.payload 0 1 = n.cls := by rw [payload, numberAt_beBytes _ (by omega)]
  have legBack : numberAt n.payload 2 1 = n.leg := by
    rw [payload]
    simp (disch := simp) only [numberAt_skip, beBytes_length, Nat.reduceSub]
    exact numberAt_beBytes _ (by omega)
  have len : n.payload.length = 3 ∧ n.air.isSome = false ∨ n.payload.length = 4 ∧ n.air.isSome = true := by
    rw [payload]
    cases h : n.air <;> simp [noteAir, h]
  have airBack : (if n.air.isSome then some (signedOf 8 (numberAt n.payload 3 1)) else none) = n.air := by
    cases h : n.air with
    | none => rfl
    | some b =>
      rw [h, decide_eq_true_eq] at air
      rw [payload]
      simp (disch := simp) only [numberAt_skip, beBytes_length, Nat.reduceSub, noteAir, h]
      have back := signed1_here (x := b) [] (by omega) (by omega)
      rw [List.append_nil] at back
      rw [back]
      rfl
  rw [parseNote]
  simp only [flags, number, bit7, bit6, clsBack, legBack, low, verdict, door, DoorFlag.ofCode_code, Verdict.ofCode_rank,
    airBack, len, cls1, cls7, and_self, if_true]

/-- Settles O11: allocation fields and notes are read field by field; a protection mark's number is one of 32. -/
theorem headersAndNotesReadBack : Obligations.HeadersAndNotesReadBack :=
  ⟨⟨fun _ => readAlloc_image, fun n low high => protection_reads_back ⟨n, by omega⟩ low⟩, fun _ => parseNote_payload⟩

/-! ### Frames (R31 to R33) -/

/-- The bytes a frame's check covers. -/
def coveredBytes (kind : Byte) (sender destination : PartyId) (payload : List Byte) : List Byte :=
  kind :: (idBytes sender ++ idBytes destination ++ payload)

theorem coveredBytes_length (kind : Byte) (sender destination : PartyId) (payload : List Byte) :
    (coveredBytes kind sender destination payload).length = 9 + payload.length := by
  simp [coveredBytes]
  omega

/-- A frame of the right length is delivered just if its check, its kind and its sender are sound (R33). -/
theorem soundFrame_covered (kind : Byte) (sender destination : PartyId) {payload check : List Byte}
    (len : payload.length ≤ 208) (two : check.length = 2) :
    soundFrame (beBytes 1 payload.length ++ coveredBytes kind sender destination payload ++ check) =
      if check = crcBytes (coveredBytes kind sender destination payload) ∧ (kind = 0x01 ∨ kind = 0x02 ∨ kind = 0x03) ∧
        soundSender sender = true then some (kind, sender, destination, payload) else none := by
  have covered := coveredBytes_length kind sender destination payload
  have length : numberAt (beBytes 1 payload.length ++ coveredBytes kind sender destination payload ++ check) 0 1 =
      payload.length := by
    rw [List.append_assoc, numberAt_beBytes _ (by omega)]
  have body : (beBytes 1 payload.length ++ coveredBytes kind sender destination payload ++ check).drop 1 =
      coveredBytes kind sender destination payload ++ check := by
    rw [List.append_assoc, List.drop_left' (beBytes_length ..)]
  have taken : (coveredBytes kind sender destination payload ++ check).take (9 + payload.length) =
      coveredBytes kind sender destination payload := List.take_left' covered
  have dropped : (coveredBytes kind sender destination payload ++ check).drop (9 + payload.length) = check :=
    List.drop_left' covered
  have total : (coveredBytes kind sender destination payload ++ check).length = 11 + payload.length := by
    rw [List.length_append, covered, two]
    omega
  have first : (coveredBytes kind sender destination payload ++ check).getD 0 0 = kind := rfl
  have origin : BitVec.ofNat 32 (numberAt (coveredBytes kind sender destination payload ++ check) 1 4) = sender := by
    rw [coveredBytes, List.cons_append, numberAt_cons 4 Nat.one_pos, List.append_assoc, List.append_assoc]
    exact numberAt_id ..
  have receiver : BitVec.ofNat 32 (numberAt (coveredBytes kind sender destination payload ++ check) 5 4) = destination := by
    rw [coveredBytes, List.cons_append, numberAt_cons 4 (by decide), List.append_assoc, List.append_assoc,
      numberAt_skip 4 (by simp), idBytes_length]
    exact numberAt_id ..
  have rest : (coveredBytes kind sender destination payload).drop 9 = payload := by
    have eight : (idBytes sender ++ idBytes destination).length = 8 := by simp
    rw [coveredBytes, List.drop_succ_cons, List.drop_left' eight]
  simp only [soundFrame, length, body, taken, dropped, total, first, origin, receiver, rest, len, true_and]

theorem wireFrame_eq (kind : Byte) (sender destination : PartyId) (payload : List Byte) :
    wireFrame kind sender destination payload = beBytes 1 payload.length ++ coveredBytes kind sender destination payload ++
      crcBytes (coveredBytes kind sender destination payload) := rfl

/-- A frame as the format builds it is sound when its kind and its sender are. -/
theorem soundFrame_wireFrame {kind : Byte} {sender : PartyId} {payload : List Byte} (destination : PartyId)
    (known : kind = 0x01 ∨ kind = 0x02 ∨ kind = 0x03) (sound : soundSender sender = true) (len : payload.length ≤ 208) :
    soundFrame (wireFrame kind sender destination payload) = some (kind, sender, destination, payload) := by
  rw [wireFrame_eq, soundFrame_covered kind sender destination len (crcBytes_length _), if_pos ⟨rfl, known, sound⟩]

/-- A frame whose length byte does not fit it is unsound. -/
theorem soundFrame_badLength {length : Byte} {bytes : List Byte}
    (bad : 208 < length.toNat ∨ bytes.length ≠ length.toNat + 11) : soundFrame (length :: bytes) = none := by
  have number : numberAt (length :: bytes) 0 1 = length.toNat := by simp [numberAt, beNat]
  have body : (length :: bytes).drop 1 = bytes := rfl
  simp only [soundFrame, number, body]
  exact if_neg fun h => by omega

/-! ### Which command a frame is -/

section
variable {own sender destination : PartyId} {r : Reception} {payload fields : List Byte}

theorem decodeFrame_unsound {bs : List Byte} (h : soundFrame bs = none) : decodeFrame own r bs = .unsoundFrame bs := by
  simp only [decodeFrame, h]

theorem decodeFrame_note (sound : soundSender sender = true) (len : payload.length ≤ 208) :
    decodeFrame own r (wireFrame 0x01 sender destination payload) =
      (if (parseNote payload).isSome then .chillNote sender r.level payload r.env
      else .discardedNote sender r.level payload) := by
  simp only [decodeFrame, soundFrame_wireFrame destination (.inl rfl) sound len, if_true]

theorem decodeFrame_reply (sound : soundSender sender = true) (len : payload.length ≤ 208) :
    decodeFrame own r (wireFrame 0x03 sender destination payload) = .replyFrame sender destination payload := by
  simp only [decodeFrame, soundFrame_wireFrame destination (.inr (.inr rfl)) sound len, BitVec.reduceEq, reduceIte]

theorem decodeFrame_request (sound : soundSender sender = true) (len : payload.length ≤ 208) :
    decodeFrame own r (wireFrame 0x02 sender destination payload) =
      if destination = own then decodeRequest r ⟨sender, false⟩ payload
      else if destination = BitVec.allOnes 32 then decodeRequest r ⟨sender, true⟩ payload
      else .requestForAnotherStation sender destination payload := by
  simp only [decodeFrame, soundFrame_wireFrame destination (.inr (.inl rfl)) sound len, BitVec.reduceEq, reduceIte]

theorem decodeFrame_own (sound : soundSender sender = true) (len : payload.length ≤ 208) :
    decodeFrame own r (wireFrame 0x02 sender own payload) = decodeRequest r ⟨sender, false⟩ payload := by
  rw [decodeFrame_request sound len, if_pos rfl]

theorem decodeFrame_broadcast (named : own ≠ BitVec.allOnes 32) (sound : soundSender sender = true)
    (len : payload.length ≤ 208) :
    decodeFrame own r (wireFrame 0x02 sender (BitVec.allOnes 32) payload) = decodeRequest r ⟨sender, true⟩ payload := by
  rw [decodeFrame_request sound len, if_neg named.symm, if_pos rfl]

theorem decodeRequest_query_other (req : Request) (status : fields ≠ [0x01]) (peers : fields ≠ [0x02]) :
    decodeRequest r req (0x12 :: fields) = .queryStatus req fields r.env := by
  have other : parseQuery fields = none := by rw [parseQuery, if_neg status, if_neg peers]
  have code : (0x12 : Byte) ≠ codeDiscover ∧ (0x12 : Byte) ≠ codeCommission ∧ (0x12 : Byte) = codeQuery := by decide
  obtain ⟨discover, commission, query⟩ := code
  rw [decodeRequest, if_neg discover, if_neg commission, if_pos query, other]

theorem decodeRequest_unknown (req : Request) {code : Byte} (unknown : code.toNat < 0x10 ∨ 0x16 < code.toNat) :
    decodeRequest r req (code :: fields) = .unknownRequest req (some code) fields r.env := by
  have other : ∀ known : Byte, 0x10 ≤ known.toNat ∧ known.toNat ≤ 0x16 → code ≠ known := fun known range same => by
    rw [same] at unknown
    omega
  simp only [decodeRequest, if_neg (other codeDiscover (by decide)), if_neg (other codeCommission (by decide)),
    if_neg (other codeQuery (by decide)), if_neg (other codeRead (by decide)), if_neg (other codeReadOn (by decide)),
    if_neg (other codeCheckpoint (by decide)), if_neg (other codeConclude (by decide))]

end

/-- Settles O12: a sound frame is its kind's command (`decodeFrame_note`, `decodeFrame_reply`, `decodeFrame_request`), a
request the command of its first byte; an unsound one fails a test of `soundFrame_covered`. -/
theorem framesBecomeTheirCommands : Obligations.FramesBecomeTheirCommands := by
  refine ⟨fun own sender destination r payload fields named nonzero someone len flen => ?_,
    fun own sender destination r length kind c d payload bytes => ?_⟩
  · have sound : soundSender sender = true := by
      rw [soundSender, Bool.and_eq_true, bne_iff_ne, bne_iff_ne]
      exact ⟨nonzero, someone⟩
    have len1 : ∀ code : Byte, (code :: fields).length ≤ 208 := fun _ => Nat.succ_le_succ flen
    have toOwn := fun code => decodeFrame_own (own := own) (r := r) sound (len1 code)
    have toAll := fun code => decodeFrame_broadcast (own := own) (r := r) named sound (len1 code)
    refine ⟨decodeFrame_note sound len, decodeFrame_reply sound len, fun other notAll => ?_, toOwn _, toAll _, toOwn _,
      decodeFrame_own sound (by decide), decodeFrame_own sound (by decide), toOwn _, toOwn _, toOwn _, toOwn _,
      decodeFrame_own sound (by decide), fun code unknown => ⟨?_, ?_⟩, fun status peers => ?_, toAll _,
      decodeFrame_broadcast named sound (by decide), decodeFrame_broadcast named sound (by decide), toAll _, toAll _,
      toAll _, toAll _⟩
    · rw [decodeFrame_request sound len, if_neg other, if_neg notAll]
    · rw [toOwn, decodeRequest_unknown _ unknown]
    · rw [toAll, decodeRequest_unknown _ unknown]
    · rw [toOwn, decodeRequest_query_other _ status peers]
  · refine ⟨fun bad => decodeFrame_unsound (soundFrame_badLength bad), rfl, fun len bad => decodeFrame_unsound ?_,
      fun len bad => decodeFrame_unsound ?_⟩
    · rw [wireFrame_eq, soundFrame_covered kind sender destination len (crcBytes_length _)]
      refine if_neg fun ⟨_, known, sound⟩ => ?_
      obtain other | none | all := bad
      · tauto
      · simp [none, soundSender] at sound
      · simp [all, soundSender] at sound
    · exact (soundFrame_covered kind sender destination len rfl).trans (if_neg fun ⟨check, _⟩ => bad check)

end Sys2Proof.Machine

/-! The byte programs of a commissioning, read back as the terms the chapters read (R169, R185). -/

namespace Sys2Proof.Machine

/-! ### Bytes programmed one after another -/

/-- Programs of single bytes, in order (R169). -/
def programAll (m : Memory) (ps : List (Nat × Byte)) : Memory := ps.foldl (fun m p => Memory.program m p.1 p.2 0) m

theorem programAll_wf {m : Memory} (h : m.wf = true) (ps : List (Nat × Byte)) : (programAll m ps).wf = true := by
  induction ps generalizing m with
  | nil => exact h
  | cons p ps ih => exact ih (Memory.program_wf h ..)

/-- Bytes programmed from an address on: each reads as itself where it was erased, and no other byte changes. -/
theorem read_programAll : ∀ (bs : List Byte) (k : Nat) {m : Memory}, m.wf = true → ∀ a,
    Memory.read (programAll m ((List.range' k bs.length).zip bs)) a =
      if k ≤ a ∧ a < k + bs.length then Memory.read m a &&& bs.getD (a - k) 0 else Memory.read m a
  | [], k, m, _, a => by simp [programAll]
  | b :: bs, k, m, h, a => by
    have step : programAll m ((List.range' k (b :: bs).length).zip (b :: bs)) =
        programAll (Memory.program m k b 0) ((List.range' (k + 1) bs.length).zip bs) := rfl
    rw [step, read_programAll bs (k + 1) (Memory.program_wf h k b 0) a, Memory.read_program h]
    obtain before | rfl | after := Nat.lt_trichotomy a k
    · rw [if_neg (by omega), if_neg (by omega), if_neg (by omega)]
    · rw [if_neg (by omega), if_pos rfl, if_pos (by simp)]
      simp
    · obtain ⟨d, rfl⟩ : ∃ d, a = k + 1 + d := ⟨a - (k + 1), by omega⟩
      have inside : (k ≤ k + 1 + d ∧ k + 1 + d < k + (b :: bs).length) ↔ (k + 1 ≤ k + 1 + d ∧ k + 1 + d < k + 1 + bs.length) := by
        simp only [List.length_cons]
        omega
      have place : k + 1 + d - k = d + 1 := by omega
      rw [if_neg (show ¬ k + 1 + d = k by omega)]
      simp only [inside, place, Nat.add_sub_cancel_left, List.getD_cons_succ]

theorem programAll_append (m : Memory) (ps : List (Nat × Byte)) (a : Nat) (v : Byte) :
    programAll m (ps ++ [(a, v)]) = Memory.program (programAll m ps) a v 0 := by
  rw [programAll, List.foldl_append]
  rfl

/-! ### The record after its programs -/

/-- The consignment part as the programs of a commissioning leave it over an erased part. -/
def programmedTerms (t : RawTerms) : Memory := programAll [] t.programs

theorem RawTerms.bytes_le {t : RawTerms} (h : t.reference.length ≤ 24) : t.bytes.length ≤ 45 := by
  rw [RawTerms.bytes_length]
  omega

/-- Below the commit byte the terms' bytes, at it 00H, and erased bytes behind. -/
theorem read_programmedTerms {t : RawTerms} (h : t.reference.length ≤ 24) (a : Nat) :
    Memory.read (programmedTerms t) a = if a = commitAddress then 0 else t.bytes.getD a erasedByte := by
  have len := RawTerms.bytes_le h
  have split : programmedTerms t =
      Memory.program (programAll [] ((List.range' 0 t.bytes.length).zip t.bytes)) commitAddress 0x00 0 := by
    rw [programmedTerms, RawTerms.programs, programAll_append, List.range_eq_range']
  have erased : Memory.read [] a = BitVec.allOnes 8 := rfl
  rw [split, Memory.read_program (programAll_wf rfl _)]
  by_cases commit : a = commitAddress
  · rw [if_pos commit, if_pos commit, show (0x00 : Byte) ||| 0 = 0 from rfl]
    exact BitVec.and_zero
  · rw [if_neg commit, if_neg commit, read_programAll _ _ rfl, erased]
    by_cases inside : a < t.bytes.length
    · rw [if_pos ⟨Nat.zero_le a, by omega⟩, BitVec.allOnes_and, Nat.sub_zero, List.getD_eq_getElem _ _ inside,
        List.getD_eq_getElem _ _ inside]
    · rw [if_neg (by omega), List.getD_eq_default _ _ (by omega)]
      rfl

/-- The record of a station whose terms have been programmed. -/
def commissionedRecord (t : RawTerms) (identity : Memory) : Cmr := ⟨identity, programmedTerms t, .none⟩

section
variable {t : RawTerms} (identity : Memory) (h : t.reference.length ≤ 24)
include h

theorem byte_commissioned (a : Nat) :
    (commissionedRecord t identity).byte a = if a = commitAddress then 0 else t.bytes.getD a erasedByte := by
  simp only [Cmr.byte, commissionedRecord]
  exact read_programmedTerms h a

/-- No mark behind the commit byte is set. -/
theorem markSet_commissioned {a : Nat} (behind : commitAddress < a) :
    (commissionedRecord t identity).markSet a = false := by
  have len := RawTerms.bytes_le h
  have erased : t.bytes.getD a erasedByte = erasedByte := List.getD_eq_default _ _ (by simp only [commitAddress] at behind; omega)
  rw [Cmr.markSet, byte_commissioned identity h, if_neg (by omega), erased]
  rfl

/-- A number field of the record is the field of the terms' bytes. -/
theorem number_commissioned {a n : Nat} (inside : a + n ≤ t.bytes.length) :
    (commissionedRecord t identity).number a n = numberAt t.bytes a n ∧
      Memory.readBytes (commissionedRecord t identity).consignment a n = (t.bytes.drop a).take n := by
  have len := RawTerms.bytes_le h
  have bytes : Memory.readBytes (programmedTerms t) a n = (t.bytes.drop a).take n := by
    refine List.ext_getElem (by simp [Memory.readBytes]; omega) fun i hi _ => ?_
    have inn : i < n := by simpa [Memory.readBytes] using hi
    simp only [Memory.readBytes, List.getElem_map, List.getElem_range, List.getElem_take, List.getElem_drop]
    rw [read_programmedTerms h, if_neg (by simp only [commitAddress]; omega), List.getD_eq_getElem _ _ (by omega)]
  simp only [Cmr.number, commissionedRecord, bytes, numberAt, and_self]

end

/-- Settles O13: the programs leave the terms' bytes (`read_programmedTerms`), and each field reads back from them. -/
theorem storedTermsReadBack : Obligations.StoredTermsReadBack := by
  intro t identity fits c
  simp only [termsFit, Bool.and_eq_true, decide_eq_true_eq] at fits
  obtain ⟨⟨⟨⟨upper, lower⟩, ceiling⟩, floor⟩, cls1, cls7, budget, allowance, gap, length15, length600, delay, link1,
    link2, ref1, ref24⟩ := fits
  have record : c = commissionedRecord t identity := rfl
  clear_value c
  subst record
  have len := RawTerms.bytes_length t
  have number : ∀ a n, a + n ≤ 21 → (commissionedRecord t identity).number a n = numberAt t.bytes a n := fun a n inside =>
    (number_commissioned identity ref24 (by omega)).1
  have clear : ∀ a, commitAddress < a → (commissionedRecord t identity).markSet a = false := fun a => markSet_commissioned identity ref24
  have bytes : t.bytes = beBytes 1 t.cls ++ (beSigned 2 t.upper ++ (beSigned 2 t.lower ++ (beSigned 2 t.ceiling ++
      (beSigned 2 t.floor ++ (beBytes 3 (t.budget * 64) ++ (beBytes 2 (t.allowance * 64) ++ (beBytes 1 t.gap ++
        (beBytes 2 t.length ++ (beBytes 2 t.delay ++ (beSigned 1 t.link ++ (beBytes 1 t.reference.length ++
          t.reference))))))))))) := by
    simp only [RawTerms.bytes, List.append_assoc]
  have referenceLength : (commissionedRecord t identity).number 20 1 = t.reference.length := by
    rw [number 20 1 (by decide), bytes]
    simp only [numberAt_skip, beBytes_length, beSigned_length, Nat.reduceLeDiff, Nat.reduceSub, le_refl]
    exact numberAt_beBytes _ (by omega)
  refine ⟨?commissioned, clear _ (by decide), ?mark, ?_, ?_, ?_, ?_, ?_, ?_, ?_, ?_, ?_, ?_, ?_, ?reference⟩
  case commissioned =>
    rw [Cmr.commissioned, Cmr.markSet, byte_commissioned identity ref24, if_pos rfl]
    rfl
  case mark =>
    rw [Cmr.highestMark, clear 48 (by decide), clear 47 (by decide), clear 46 (by decide)]
    rfl
  case reference =>
    have whole := (number_commissioned (a := 21) (n := t.reference.length) identity ref24 (by omega)).2
    have terms : t.bytes.drop 21 = t.reference := by
      rw [RawTerms.bytes]
      exact List.drop_left' (by simp)
    rw [terms, List.take_length] at whole
    rw [Cmr.reference, referenceLength]
    exact whole
  all_goals
    simp only [Cmr.cls, Cmr.upper, Cmr.lower, Cmr.ceiling, Cmr.floor, Cmr.budget, Cmr.allowance, Cmr.gapAllowance,
      Cmr.epochLength, Cmr.startDelay, Cmr.linkThreshold, number, bytes, numberAt_skip, beBytes_length, beSigned_length,
      Nat.reduceAdd, Nat.reduceLeDiff, Nat.reduceSub, le_refl]
    simp (disch := omega) only [numberAt_beBytes, temperature_here _ upper, temperature_here _ lower,
      temperature_here _ ceiling, temperature_here _ floor, signed1_here, mul_comm]

/-- Settles O9: the reset state is one closed value, and each clause is read off it. -/
theorem resetLeavesABlankStation : Obligations.ResetLeavesABlankStation := by
  refine ⟨⟨rfl, rfl, rfl, rfl, rfl, rfl, ?_⟩, ?_⟩
  all_goals decide

end Sys2Proof.Machine

/-! Ordered lists of the peer table: the corroborating set, its median, the founding list and the evaluation of a record
(R54 to R59, R62, R64, R87, R88). -/

namespace Sys2Proof.Machine

/-! ### Insertion into an ordered list -/

section
variable {α : Type} {before : α → α → Bool} {r : α → α → Prop}

theorem insertBy_perm (before : α → α → Bool) (x : α) (xs : List α) : (insertBy before x xs).Perm (x :: xs) := by
  induction xs with
  | nil => exact .refl _
  | cons y ys ih =>
    rw [insertBy]
    split
    · exact .refl _
    · exact (ih.cons y).trans (.swap x y ys)

theorem sortBy_perm (before : α → α → Bool) (xs : List α) : (sortBy before xs).Perm xs := by
  induction xs with
  | nil => exact .refl _
  | cons x xs ih => exact (insertBy_perm before x _).trans (ih.cons x)

/-- An insertion keeps the order that `before` decides: what comes before is below, and what does not is not above. -/
theorem insertBy_pairwise (below : ∀ a b, before a b = true → r a b) (above : ∀ a b, before a b = false → r b a)
    (trans : ∀ a b c, r a b → r b c → r a c) (x : α) {xs : List α} (sorted : xs.Pairwise r) :
    (insertBy before x xs).Pairwise r := by
  induction xs with
  | nil => exact List.pairwise_singleton ..
  | cons y ys ih =>
    obtain ⟨first, rest⟩ := List.pairwise_cons.mp sorted
    rw [insertBy]
    cases place : before x y with
    | true =>
      refine List.pairwise_cons.mpr ⟨fun z hz => ?_, sorted⟩
      obtain rfl | later := List.mem_cons.mp hz
      · exact below _ _ place
      · exact trans _ _ _ (below _ _ place) (first z later)
    | false =>
      refine List.pairwise_cons.mpr ⟨fun z hz => ?_, ih rest⟩
      obtain rfl | later := List.mem_cons.mp ((insertBy_perm before x ys).mem_iff.mp hz)
      · exact above _ _ place
      · exact first z later

theorem sortBy_pairwise (below : ∀ a b, before a b = true → r a b) (above : ∀ a b, before a b = false → r b a)
    (trans : ∀ a b c, r a b → r b c → r a c) (xs : List α) : (sortBy before xs).Pairwise r := by
  induction xs with
  | nil => exact .nil
  | cons x xs ih => exact insertBy_pairwise below above trans x ih

end

/-! ### The corroborating set (R59) -/

theorem corroborating_pairwise (ps : List Peer) :
    (corroborating ps).Pairwise fun a b => a.value < b.value ∨ a.value = b.value ∧ a.id.toNat ≤ b.id.toNat := by
  refine sortBy_pairwise (fun a b h => ?_) (fun a b h => ?_) (fun a b c h h' => by omega) _
  · have := of_decide_eq_true h
    omega
  · have := of_decide_eq_false h
    omega

/-- The item a record brings to the corroborating set, where it does. -/
theorem corroborates_iff (p : Peer) (x : Item) :
    (if p.state = .coLocated ∧ p.heard = true ∧ p.fit = true then
        p.fresh.map fun r => (⟨p.id, r.value, r.saturated⟩ : Item) else none) = some x ↔
      ∃ r, p.state = .coLocated ∧ p.heard = true ∧ p.fit = true ∧ p.fresh = some r ∧ x = ⟨p.id, r.value, r.saturated⟩ := by
  by_cases ready : p.state = .coLocated ∧ p.heard = true ∧ p.fit = true
  · rw [if_pos ready, Option.map_eq_some_iff]
    obtain ⟨state, heard, fit⟩ := ready
    simp only [state, heard, fit, true_and, eq_comm (a := x)]
  · rw [if_neg ready]
    exact ⟨nofun, fun ⟨r, state, heard, fit, _⟩ => absurd ⟨state, heard, fit⟩ ready⟩

theorem mem_corroborating (ps : List Peer) (x : Item) : x ∈ corroborating ps ↔
    ∃ p ∈ ps, ∃ r, p.state = .coLocated ∧ p.heard = true ∧ p.fit = true ∧ p.fresh = some r ∧
      x = ⟨p.id, r.value, r.saturated⟩ := by
  rw [corroborating, (sortBy_perm itemBefore _).mem_iff, List.mem_filterMap]
  exact exists_congr fun p => and_congr_right fun _ => corroborates_iff p x

/-! ### The median (R87) -/

theorem median_of_few {items : List Item} (few : items.length < 2) : median items = none := if_pos few

theorem median_odd {items : List Item} {k : Nat} {a : Item} (some1 : 1 ≤ k) (odd : items.length = 2 * k + 1)
    (middle : items[k]? = some a) : median items = some (a.value, a.saturated) := by
  have place : (2 * k + 1) / 2 = k := by omega
  have enough : ¬ 2 * k + 1 < 2 := by omega
  have parity : (2 * k + 1) % 2 = 1 := by omega
  simp only [median, odd, place, middle, if_neg enough, if_pos parity, Option.map_some]

theorem median_even {items : List Item} {k : Nat} {a b : Item} (even : items.length = 2 * k + 2)
    (low : items[k]? = some a) (high : items[k + 1]? = some b) :
    median items = some (ceilDiv (a.value + b.value) 2, a.saturated || b.saturated) := by
  have place : (2 * k + 2) / 2 = k + 1 := by omega
  have enough : ¬ 2 * k + 2 < 2 := by omega
  have parity : ¬ (2 * k + 2) % 2 = 1 := by omega
  simp only [median, even, place, low, high, if_neg enough, if_neg parity, Nat.add_sub_cancel]

/-- A median lies between two items, and is saturated only if one it rests on is. -/
theorem median_between {items : List Item} (two : 2 ≤ items.length) : ∃ m sat, median items = some (m, sat) ∧
    (∃ a ∈ items, a.value ≤ m) ∧ (∃ b ∈ items, m ≤ b.value) ∧ (sat = true → ∃ a ∈ items, a.saturated = true) := by
  obtain ⟨k, even | odd⟩ : ∃ k, items.length = 2 * k + 2 ∨ items.length = 2 * (k + 1) + 1 :=
    ⟨items.length / 2 - 1, by omega⟩
  · have low : items[k]? = some items[k] := List.getElem?_eq_getElem (by omega)
    have high : items[k + 1]? = some items[k + 1] := List.getElem?_eq_getElem (by omega)
    refine ⟨_, _, median_even even low high, ?_⟩
    have lowMem := List.getElem_mem (l := items) (n := k) (by omega)
    have highMem := List.getElem_mem (l := items) (n := k + 1) (by omega)
    generalize items[k] = a at *
    generalize items[k + 1] = b at *
    have up := le_ceilDiv_mul (n := 2) (by decide) (a.value + b.value)
    have down := pred_ceilDiv_mul_lt (n := 2) (by decide) (a.value + b.value)
    generalize ceilDiv (a.value + b.value) 2 = m at *
    push_cast at up down
    have saturated : (a.saturated || b.saturated) = true → ∃ x ∈ items, x.saturated = true := fun h =>
      (Bool.or_eq_true _ _ ▸ h).elim (fun h => ⟨a, lowMem, h⟩) fun h => ⟨b, highMem, h⟩
    obtain rises | falls := le_total a.value b.value
    · exact ⟨⟨a, lowMem, by omega⟩, ⟨b, highMem, by omega⟩, saturated⟩
    · exact ⟨⟨b, highMem, by omega⟩, ⟨a, lowMem, by omega⟩, saturated⟩
  · have middle : items[k + 1]? = some items[k + 1] := List.getElem?_eq_getElem (by omega)
    have mem := List.getElem_mem (l := items) (n := k + 1) (by omega)
    exact ⟨_, _, median_odd (by omega) odd middle, ⟨_, mem, le_rfl⟩, ⟨_, mem, le_rfl⟩, fun h => ⟨_, mem, h⟩⟩

/-! ### The comparison and the AIR condition (R88) -/

theorem comparison_of_few {air : Option Reading} {items : List Item} (few : items.length < 2) :
    comparison air items = none := by
  cases air <;> simp [comparison, median_of_few few]

theorem comparison_of_median {r : Reading} {items : List Item} {m : Int} {sat : Bool} (h : median items = some (m, sat)) :
    comparison (some r) items = some (decide (48 < (r.value - m).natAbs)) := by
  simp only [comparison, h]

/-- Settles O27: the set is a sorted list of the records' items, the median its middle, and the condition of `airAfter`
follows its counts. -/
theorem corroborationRules : Obligations.CorroborationRules := by
  refine ⟨fun ps => ⟨corroborating_pairwise ps, sortBy_perm itemBefore _, mem_corroborating ps⟩, fun items => ?median,
    fun discord concord => ?air⟩
  case median =>
    refine ⟨median_of_few, median_between, fun k a => median_odd, fun k a b even low high => ?_⟩
    have down := pred_ceilDiv_mul_lt (n := 2) (by decide) (a.value + b.value)
    have up := le_ceilDiv_mul (n := 2) (by decide) (a.value + b.value)
    push_cast at up down
    exact ⟨_, median_even even low high, by omega, by omega⟩
  case air =>
    refine ⟨fun _ => rfl, fun few => ?_, ?_, rfl, rfl, fun few => ?_, ?_, fun r items m sat => comparison_of_median,
      fun _ => rfl, fun air items => comparison_of_few⟩
    · have early : ¬ 3 ≤ discord + 1 := by omega
      simp [airAfter, early]
    · rintro rfl
      rfl
    · have early : ¬ 6 ≤ concord + 1 := by omega
      simp [airAfter, early]
    · rintro rfl
      rfl

/-! ### The founding list and the evaluation of a record (R57, R62) -/

/-- A record that is not CO-LOCATED is removed, stays or becomes CO-LOCATED. -/
theorem Peer.evaluate_away {p : Peer} (away : p.state ≠ .coLocated) : p.evaluate =
    if hearingCount p = 0 then none else if 5 ≤ hearingCount p then some { p with state := .coLocated } else some p := by
  cases state : p.state with
  | coLocated => exact absurd state away
  | heard | lapsing => simp only [Peer.evaluate, state]

theorem Peer.evaluate_near {p : Peer} (near : p.state = .coLocated) : p.evaluate =
    if hearingCount p ≤ 2 then some { p with state := .lapsing } else some p := by
  simp only [Peer.evaluate, near]

theorem closePeers_cons (p : Peer) (ps : List Peer) : closePeers (p :: ps) = (match p.shift.evaluate with
    | some q => q :: closePeers ps
    | none => closePeers ps) := by
  rw [closePeers, List.map_cons, List.filterMap_cons]
  cases p.shift.evaluate <;> rfl

/-- Settles O40: the evaluation by its hearing count, and the founding list as the sorted CO-LOCATED records. -/
theorem hearingCountMovesPeers : Obligations.HearingCountMovesPeers := by
  refine ⟨fun p => ?record, fun ps => ⟨sortBy _ (coLocated ps), sortBy_perm _ _, ?_, rfl⟩⟩
  case record =>
    intro h
    have away : p.state = .heard ∨ p.state = .lapsing → p.evaluate =
        if h = 0 then none else if 5 ≤ h then some { p with state := .coLocated } else some p := fun state =>
      Peer.evaluate_away (state.elim (by rintro h; simp [h]) (by rintro h; simp [h]))
    have removed : p.state = .heard ∨ p.state = .lapsing → h = 0 → p.evaluate = none := fun state zero => by
      rw [away state, if_pos zero]
    have stays : p.state = .heard ∨ p.state = .lapsing → 1 ≤ h → h ≤ 4 → p.evaluate = some p := fun state low high => by
      rw [away state, if_neg (by omega), if_neg (by omega)]
    have joins : p.state = .heard ∨ p.state = .lapsing → 5 ≤ h → p.evaluate = some { p with state := .coLocated } :=
      fun state high => by rw [away state, if_neg (by omega), if_pos high]
    exact ⟨removed ∘ .inl, stays ∘ .inl, joins ∘ .inl, fun state low => by rw [Peer.evaluate_near state]; exact if_pos low,
      fun state high => by rw [Peer.evaluate_near state]; exact if_neg (Nat.not_le.mpr high), removed ∘ .inr, stays ∘ .inr,
      joins ∘ .inr, closePeers_cons p, rfl⟩
  · refine sortBy_pairwise (fun a b h => ?_) (fun a b h => ?_) (fun a b c h h' => by omega) _
    · have := of_decide_eq_true h
      omega
    · have := of_decide_eq_false h
      omega

end Sys2Proof.Machine

/-! What a close computes: its evidence, excess and draw, its verdict candidate and the verdict (R87 to R94, R97, R101). -/

namespace Sys2Proof.Machine

/-! ### The excess and the limits -/

theorem excessUp_pos (upper : Int) (value : Option Int) : 0 < excessUp upper value ↔ ∃ v, value = some v ∧ upper < v := by
  cases value <;> simp [excessUp]

theorem excessDown_pos (lower : Int) (value : Option Int) : 0 < excessDown lower value ↔ ∃ v, value = some v ∧ v < lower := by
  cases value <;> simp [excessDown]

theorem reachesCeiling_iff (ceiling : Int) (value : Option Int) :
    reachesCeiling ceiling value = true ↔ ∃ v, value = some v ∧ ceiling ≤ v := by
  cases value <;> simp [reachesCeiling]

theorem reachesFloor_iff (floor : Int) (value : Option Int) :
    reachesFloor floor value = true ↔ ∃ v, value = some v ∧ v ≤ floor := by
  cases value <;> simp [reachesFloor]

/-! ### The verdict (R94) -/

theorem candidate_broken {ceiling floor : Bool} {exposure budget : Nat} (run gap : Nat)
    (h : (ceiling = true ∨ floor = true) ∨ budget < exposure) : candidate ceiling floor exposure budget run gap = .broken := by
  obtain (ceiling | floor) | budget := h
  · rw [candidate, if_pos ceiling]
  · rw [candidate, if_pos floor, ite_self]
  · rw [candidate, if_pos budget, ite_self, ite_self]

theorem candidate_unbroken {ceiling floor : Bool} {exposure budget : Nat} (run gap : Nat)
    (h : ¬ ((ceiling = true ∨ floor = true) ∨ budget < exposure)) : candidate ceiling floor exposure budget run gap =
      if gap < run then .unproven else if 0 < exposure then .strained else .intact := by
  simp only [not_or] at h
  obtain ⟨⟨ceiling, floor⟩, budget⟩ := h
  rw [candidate, if_neg ceiling, if_neg floor, if_neg budget]

theorem Verdict.higher_broken (v : Verdict) : v.higher .broken = .broken := by cases v <;> rfl

theorem Verdict.rank_le_higher (v w : Verdict) : v.rank ≤ (v.higher w).rank := by
  rw [Verdict.rank_higher]
  exact le_max_left ..

/-- The verdict of a close from the old one (R94). -/
theorem verdict_table (old : Verdict) (ceiling floor : Bool) (exposure budget run gap : Nat) :
    let broken := (ceiling = true ∨ floor = true) ∨ budget < exposure
    let new := old.higher (candidate ceiling floor exposure budget run gap)
    (new = .broken ↔ old = .broken ∨ broken) ∧
    (new = .intact ↔ old = .intact ∧ ¬ broken ∧ run ≤ gap ∧ exposure = 0) ∧
    (new = .strained ↔ ¬ broken ∧ run ≤ gap ∧ (old = .strained ∨ old = .intact ∧ 0 < exposure)) := by
  intro broken new
  by_cases b : broken
  · have made : new = .broken := by
      change old.higher _ = _
      rw [candidate_broken run gap b, Verdict.higher_broken]
    simp [made, b]
  · have unbroken : new = old.higher (if gap < run then .unproven else if 0 < exposure then .strained else .intact) :=
      congrArg old.higher (candidate_unbroken run gap b)
    rw [unbroken]
    by_cases long : gap < run
    · have exceeds : ¬ run ≤ gap := by omega
      cases old <;> simp [Verdict.higher, Verdict.rank, long, exceeds, b]
    · have within : run ≤ gap := by omega
      by_cases exposed : 0 < exposure
      · have some : exposure ≠ 0 := by omega
        cases old <;> simp [Verdict.higher, Verdict.rank, long, within, exposed, some, b]
      · have none : exposure = 0 := by omega
        cases old <;> simp [Verdict.higher, Verdict.rank, long, within, none, b]

/-- Settles O28: the fields of `computeClose` one by one; the verdict is `verdict_table`, the grade `evidence_cases`. -/
theorem closeVerdictTable : Obligations.CloseVerdictTable := by
  intro c e j k broken
  have reaches : broken ↔ (reachesCeiling c.ceiling k.entry.value = true ∨ reachesFloor c.floor k.entry.value = true) ∨
      c.budget < k.entry.exposure := by
    rw [reachesCeiling_iff, reachesFloor_iff]
    refine or_congr_left ⟨?_, ?_⟩
    · rintro ⟨v, value, high | low⟩
      · exact .inl ⟨v, value, high⟩
      · exact .inr ⟨v, value, low⟩
    · rintro (⟨v, value, high⟩ | ⟨v, value, low⟩)
      · exact ⟨v, value, .inl high⟩
      · exact ⟨v, value, .inr low⟩
  obtain ⟨isBroken, isIntact, isStrained⟩ := verdict_table e.verdict (reachesCeiling c.ceiling k.entry.value)
    (reachesFloor c.floor k.entry.value) k.entry.exposure c.budget k.entry.run c.gapAllowance
  rw [← reaches] at isBroken isIntact isStrained
  have graded := clampedFlagRule j.readings k.entry.flags.suspect j.view.items
  refine ⟨reachesCeiling_iff .., reachesFloor_iff .., decide_eq_true_iff.trans (excessUp_pos ..),
    decide_eq_true_iff.trans (excessDown_pos ..), ?valueless, isBroken, isIntact, isStrained, Verdict.rank_le_higher ..,
    fun p probe => ?probe, fun noProbe => ⟨fun a air sound => ?air, fun noAir => ⟨fun m sat peer => ?peer, fun few => ?none⟩⟩,
    rfl, rfl, rfl, rfl, fun n leg => ?leg, rfl, rfl, beq_iff_eq, rfl, decide_eq_true_iff, graded.1⟩
  case valueless =>
    change (evidence j.readings k.entry.flags.suspect j.view.items).value = none ↔
      (evidence j.readings k.entry.flags.suspect j.view.items).grade = .none
    obtain ⟨p, -, h⟩ | ⟨a, -, -, -, h⟩ | ⟨m, -, -, -, h⟩ | ⟨-, -, -, h⟩ :=
      evidence_cases j.readings k.entry.flags.suspect j.view.items
    all_goals simp [h]
  case probe =>
    have h := evidence_of_probe (suspect := k.entry.flags.suspect) (items := j.view.items) probe
    exact ⟨congrArg Evidence.grade h, congrArg Evidence.value h⟩
  case air =>
    have h := evidence_of_air (items := j.view.items) noProbe sound air
    exact ⟨congrArg Evidence.grade h, congrArg Evidence.value h⟩
  case peer =>
    have h := evidence_of_peer noProbe noAir.symm peer
    exact ⟨congrArg Evidence.grade h, congrArg Evidence.value h⟩
  case none => exact congrArg Evidence.grade (evidence_of_none noProbe noAir.symm (median_of_few few))
  case leg =>
    change j.view.leg.getD 0 = n
    rw [leg, Option.getD_some]

/-! ### The draw (R91 to R93, R101) -/

theorem doorDraw_le (view : DoorView) (raw allowance drawn : Nat) :
    doorDraw view raw allowance drawn ≤ raw ∧ doorDraw view raw allowance drawn ≤ allowance - drawn := by
  unfold doorDraw
  split
  · exact ⟨Nat.min_le_left .., Nat.min_le_right ..⟩
  · exact ⟨Nat.zero_le _, Nat.zero_le _⟩

/-- The raw contribution of a partial epoch: its quarters' share, rounded up (R101). -/
theorem rawContribution_partial {excess scale quarters : Nat} (few : quarters < 4) :
    excess * scale * quarters ≤ 4 * rawContribution excess scale quarters ∧
      4 * rawContribution excess scale quarters < excess * scale * quarters + 4 := by
  rw [rawContribution, if_pos few]
  generalize excess * scale * quarters = share
  have up := le_ceilDiv_mul (n := 4) (by decide) (share : Int)
  have down := pred_ceilDiv_mul_lt (n := 4) (by decide) (share : Int)
  generalize ceilDiv (share : Int) 4 = raw at *
  push_cast at up down
  omega

theorem rawContribution_whole (excess scale : Nat) : rawContribution excess scale 4 = excess * scale :=
  if_neg (lt_irrefl 4)

/-- Settles O29: the draw is at most the raw contribution and what the allowance leaves (`doorDraw_le`), and the raw
contribution of a partial epoch is a quotient rounded up. -/
theorem drawStaysWithinTheAllowance : Obligations.DrawStaysWithinTheAllowance := by
  intro c e j within k excess
  have sum : excess = excessUp c.upper k.entry.value + excessDown c.lower k.entry.value := by
    change (match k.entry.value with | some v => _ | none => _) = _
    cases k.entry.value <;> rfl
  obtain ⟨raw, rawEq⟩ : ∃ raw, raw = rawContribution excess c.scale j.readings.quarters := ⟨_, rfl⟩
  have drawEq : k.entry.draw = doorDraw j.door raw c.allowance e.drawn := by rw [rawEq, sum]; rfl
  have contribution : k.entry.contribution = raw - doorDraw j.door raw c.allowance e.drawn := by rw [rawEq, sum]; rfl
  have drawn : k.entry.drawn = e.drawn + k.entry.draw := rfl
  obtain ⟨ofRaw, ofAllowance⟩ := doorDraw_le j.door raw c.allowance e.drawn
  rw [← drawEq] at ofRaw ofAllowance contribution
  have total : k.entry.contribution + k.entry.draw = raw := by omega
  refine ⟨drawn, by omega, fun whole => ?_, fun few => ?_, fun inside fresh => ?_, fun away => ?_, rfl, fun graded => ?_,
    fun ungraded => ?_⟩
  · rw [total, rawEq, whole, rawContribution_whole]
  · rw [total, rawEq]
    exact rawContribution_partial few
  · have first : k.entry.draw = min raw (c.allowance - e.drawn) := by
      rw [drawEq, doorDraw, if_pos (by simp [inside, fresh])]
    omega
  · rw [drawEq, doorDraw, if_neg (by obtain h | h := away <;> simp [h])]
  · exact if_neg graded
  · exact if_pos ungraded

end Sys2Proof.Machine

/-! The walk of a fragment: what it takes, where it ends, and where the next one goes on (R175 to R178). -/

namespace Sys2Proof.Machine

/-! ### What a walk takes (R176) -/

section
variable {inc : Entry → Bool}

theorem takeFragment_passed {room i : Nat} {e : Entry} (rest : List Entry) (passed : inc e = false) :
    takeFragment inc room i (e :: rest) = takeFragment inc room (i + 1) rest := by
  simp [takeFragment, passed]

theorem takeFragment_full {room i : Nat} {e : Entry} (rest : List Entry) (included : inc e = true) (full : room < e.size) :
    takeFragment inc room i (e :: rest) = ([], e :: rest) := by
  simp [takeFragment, included, not_le.mpr full]

theorem takeFragment_taken {room i : Nat} {e : Entry} (rest : List Entry) (included : inc e = true) (fits : e.size ≤ room) :
    takeFragment inc room i (e :: rest) =
      ((i, e) :: (takeFragment inc (room - e.size) (i + 1) rest).1, (takeFragment inc (room - e.size) (i + 1) rest).2) := by
  simp [takeFragment, included, fits]

/-- What a walk leaves is the end of the journal it went over, what it took the included entries before that; it stops at
an included entry that does not fit, or at the end. -/
theorem takeFragment_spec (es : List Entry) : ∀ room i, ∃ passed,
    es = passed ++ (takeFragment inc room i es).2 ∧
    (takeFragment inc room i es).1.map Prod.snd = passed.filter inc ∧
    ((passed.filter inc).map Entry.size).sum ≤ room ∧
    ((takeFragment inc room i es).2 = [] ∨ ∃ e rest, (takeFragment inc room i es).2 = e :: rest ∧ inc e = true ∧
      room < ((passed.filter inc).map Entry.size).sum + e.size) := by
  induction es with
  | nil => exact fun room i => ⟨[], rfl, rfl, Nat.zero_le _, .inl rfl⟩
  | cons e es ih =>
    intro room i
    cases included : inc e with
    | false =>
      obtain ⟨passed, whole, taken, fit, stop⟩ := ih room (i + 1)
      rw [takeFragment_passed es included]
      have skip : (e :: passed).filter inc = passed.filter inc := by simp [included]
      exact ⟨e :: passed, by rw [List.cons_append, ← whole], by rw [skip, taken], by rw [skip]; exact fit,
        by rw [skip]; exact stop⟩
    | true =>
      by_cases fits : e.size ≤ room
      · obtain ⟨passed, whole, taken, fit, stop⟩ := ih (room - e.size) (i + 1)
        rw [takeFragment_taken es included fits]
        have keep : (e :: passed).filter inc = e :: passed.filter inc := by simp [included]
        refine ⟨e :: passed, by rw [List.cons_append, ← whole], by rw [keep, List.map_cons, taken], ?_, ?_⟩
        · rw [keep, List.map_cons, List.sum_cons]
          omega
        · rw [keep, List.map_cons, List.sum_cons]
          refine stop.imp_right fun ⟨x, rest, left, inn, full⟩ => ⟨x, rest, left, inn, by omega⟩
      · rw [takeFragment_full es included (by omega)]
        exact ⟨[], rfl, rfl, Nat.zero_le _, .inr ⟨e, es, rfl, included, by simpa using by omega⟩⟩

/-- The places a walk notes are those of the entries it took: the last one ends what it passed over and took. -/
theorem takeFragment_last (es : List Entry) : ∀ {room i k : Nat} {e : Entry},
    (takeFragment inc room i es).1.getLast? = some (k, e) → i ≤ k ∧ es[k - i]? = some e ∧
      (es.take (k + 1 - i)).filter inc = (takeFragment inc room i es).1.map Prod.snd := by
  induction es with
  | nil => intro room i k e h; cases h
  | cons x es ih =>
    intro room i k e h
    cases included : inc x with
    | false =>
      rw [takeFragment_passed es included] at h ⊢
      obtain ⟨after, there, before⟩ := ih h
      obtain ⟨d, rfl⟩ : ∃ d, k = i + 1 + d := ⟨k - (i + 1), by omega⟩
      have places : i + 1 + d - (i + 1) = d ∧ i + 1 + d + 1 - (i + 1) = d + 1 ∧ i + 1 + d - i = d + 1 ∧
          i + 1 + d + 1 - i = d + 1 + 1 := by omega
      simp only [places] at there before ⊢
      exact ⟨by omega, by simpa using there, by rw [List.take_succ_cons, List.filter_cons_of_neg (by simp [included]), before]⟩
    | true =>
      by_cases fits : x.size ≤ room
      · rw [takeFragment_taken es included fits] at h ⊢
        rw [List.getLast?_cons] at h
        cases last : (takeFragment inc (room - x.size) (i + 1) es).1.getLast? with
        | none =>
          rw [last] at h
          cases h
          have none : (takeFragment inc (room - x.size) (i + 1) es).1 = [] := List.getLast?_eq_none_iff.mp last
          simp [none, included]
        | some p =>
          rw [last] at h
          cases h
          obtain ⟨after, there, before⟩ := ih last
          obtain ⟨d, rfl⟩ : ∃ d, k = i + 1 + d := ⟨k - (i + 1), by omega⟩
          have places : i + 1 + d - (i + 1) = d ∧ i + 1 + d + 1 - (i + 1) = d + 1 ∧ i + 1 + d - i = d + 1 ∧
              i + 1 + d + 1 - i = d + 1 + 1 := by omega
          simp only [places] at there before ⊢
          refine ⟨by omega, by simpa using there, ?_⟩
          rw [List.take_succ_cons, List.filter_cons_of_pos included, before, List.map_cons]
      · rw [takeFragment_full es included (by omega)] at h
        cases h

end

/-! ### The fragment (R176 to R178) -/

theorem anchorAfter_append (es : List Entry) (e : Entry) {a k : Nat} (h : anchorAfter es = .anchored a k) :
    anchorAfter (es ++ [e]) = match e.coverage with
      | some (_, last) => .anchored (last + 1) 0
      | none => .anchored a (k + 1) := by
  simp only [anchorAfter, Position.anchored.injEq] at h
  obtain ⟨rfl, rfl⟩ := h
  simp only [anchorAfter, List.foldl_append, List.foldl_cons, List.foldl_nil]
  cases e.coverage <;> rfl

theorem restated_iff (epoch : Nat) (e : Entry) :
    restated epoch e = true ↔ ∃ first last, e.coverage = some (first, last) ∧ first < epoch := by
  unfold restated
  rcases e.coverage with _ | ⟨first, last⟩ <;> simp

theorem includes_iff (c : Cursor) (e : Entry) : c.includes e = true ↔
    (∀ first last, e.coverage = some (first, last) → c.start ≤ last) ∧
    (∀ x, e = .epoch x → (x.epoch - c.start) % c.stride = 0) ∧ (∀ w, c.window = some w → e.stamp ≤ w) := by
  have covered : (match e.coverage with | some (_, last) => decide (c.start ≤ last) | none => true) = true ↔
      ∀ first last, e.coverage = some (first, last) → c.start ≤ last := by
    rcases e.coverage with _ | ⟨first, last⟩
    · simp
    · exact decide_eq_true_iff.trans ⟨fun h _ _ same => by cases same; exact h, fun h => h first last rfl⟩
  have window : (match c.window with | some w => decide (e.stamp ≤ w) | none => true) = true ↔
      ∀ w, c.window = some w → e.stamp ≤ w := by
    cases c.window <;> simp
  have stride : (match e with | .epoch x => (x.epoch - c.start) % c.stride == 0 | _ => true) = true ↔
      ∀ x, e = .epoch x → (x.epoch - c.start) % c.stride = 0 := by
    cases e <;> simp
  rw [← covered, ← window, ← stride]
  unfold Cursor.includes
  cases e <;> simp only [Bool.and_eq_true, and_assoc] <;> rfl

theorem composeFragment_position (es : List Entry) (c : Cursor) (start : Nat) :
    (composeFragment es c start).position = match (takeFragment c.includes 6 start (es.drop start)).1.getLast? with
      | some (i, _) => anchorAfter (es.take (i + 1))
      | none => c.position := by
  simp only [composeFragment] <;> rfl

/-- Settles O49: what the walk takes and leaves is `takeFragment_spec`, where its last entry stands `takeFragment_last`. -/
theorem fragmentHoldsSixSlots : Obligations.FragmentHoldsSixSlots := by
  refine ⟨fun es c start => ?fragment, includes_iff, fun c => ⟨fun h => ?_, fun e k h => ?_⟩, rfl, fun es e a k h => ?_⟩
  case fragment =>
    intro g
    obtain ⟨passed, whole, taken, fit, stop⟩ := takeFragment_spec (inc := c.includes) (es.drop start) 6 start
    have position := composeFragment_position es c start
    have places := fun k e => takeFragment_last (inc := c.includes) (es.drop start) (room := 6) (i := start) (k := k) (e := e)
    have entries : g.entries = (takeFragment c.includes 6 start (es.drop start)).1.map
        fun p => (p.2, restated c.epoch p.2) := rfl
    have more : g.more = (takeFragment c.includes 6 start (es.drop start)).2.any c.includes := rfl
    generalize takeFragment c.includes 6 start (es.drop start) = r at *
    have sent : g.entries.map Prod.fst = passed.filter c.includes := by
      rw [entries, List.map_map, ← taken]
      rfl
    have filtered : (es.drop start).filter c.includes = passed.filter c.includes ++ r.2.filter c.includes := by
      conv_lhs => rw [whole]
      rw [List.filter_append]
    have rest : g.more = true ↔ r.2.filter c.includes ≠ [] := by
      rw [more, List.any_eq_true, Ne, List.filter_eq_nil_iff]
      simp
    rw [sent]
    refine ⟨?_, fit, fun e he => ?_, fun done => ?_, ?_⟩
    · rw [whole]
      exact (List.filter_sublist).trans (List.sublist_append_left ..)
    · have there : e.1 ∈ passed.filter c.includes := sent ▸ List.mem_map_of_mem he
      exact (List.mem_filter.mp there).2
    · have none : r.2.filter c.includes = [] := by
        by_contra some
        rw [rest.mpr some] at done
        cases done
      rw [filtered, none, List.append_nil]
    intro qualifying sent'
    have qualify : qualifying = passed.filter c.includes ++ r.2.filter c.includes := filtered
    rw [qualify]
    refine ⟨(List.take_left' rfl).symm, ?_, fun left => ?_, fun empty => ?_, fun e last => ?_, fun p hp => ?_⟩
    · rw [rest, List.length_append, Nat.lt_add_right_iff_pos, List.length_pos_iff]
    · obtain done | ⟨e, after, stopped, included, full⟩ := stop
      · exact absurd (by rw [done]; rfl) (rest.mp left)
      · refine ⟨e, ?_, full⟩
        rw [List.getElem?_append_right le_rfl, Nat.sub_self, stopped, List.filter_cons_of_pos included]
        rfl
    · have none : r.1 = [] := by simpa [entries] using empty
      rw [none] at position
      exact position
    · have last' : (r.1.map Prod.snd).getLast? = some e := taken.symm ▸ last
      rw [List.getLast?_map, Option.map_eq_some_iff] at last'
      obtain ⟨⟨i, x⟩, there, rfl⟩ := last'
      obtain ⟨after, here, before⟩ := places i x there
      rw [there] at position
      refine ⟨i, after, ?_, before.trans taken, position⟩
      rw [List.getElem?_drop, Nat.add_sub_cancel' after] at here
      exact here
    · rw [entries] at hp
      obtain ⟨q, -, rfl⟩ := List.mem_map.mp hp
      exact restated_iff ..
  · simp only [Cursor.epoch, h]
  · simp only [Cursor.epoch, h]
  · have appended := anchorAfter_append es e h
    exact ⟨fun first last covered => by rw [appended, covered], fun uncovered => by rw [appended, uncovered]⟩

/-! ### The next fragment goes on (R175) -/

theorem afterCoverageBelow_append (epoch : Nat) (xs ys : List Entry) : ∀ i best,
    afterCoverageBelow epoch i best (xs ++ ys) =
      afterCoverageBelow epoch (i + xs.length) (afterCoverageBelow epoch i best xs) ys := by
  induction xs with
  | nil => exact fun i best => rfl
  | cons x xs ih =>
    intro i best
    rw [List.cons_append, afterCoverageBelow, ih, afterCoverageBelow, List.length_cons]
    congr 1
    omega

theorem afterCoverageBelow_none {epoch : Nat} {xs : List Entry}
    (later : ∀ e ∈ xs, ∀ first last, e.coverage = some (first, last) → epoch ≤ last) :
    ∀ i best, afterCoverageBelow epoch i best xs = best := by
  induction xs with
  | nil => exact fun i best => rfl
  | cons x xs ih =>
    intro i best
    rw [afterCoverageBelow, ih fun e he => later e (.tail _ he)]
    cases covered : x.coverage with
    | none => rfl
    | some p => exact if_neg (later x (.head _) p.1 p.2 covered).not_gt

theorem passCarry_noncoverage (ys : List Entry) : ∀ {xs : List Entry}, (∀ e ∈ xs, e.coverage = none) →
    passCarry xs.length (xs ++ ys) = xs.length
  | [], _ => by cases ys <;> rfl
  | x :: xs, h => by
    have uncovered : x.covers = false := by simp [Entry.covers, h x (.head _)]
    rw [List.length_cons, List.cons_append, passCarry, passCarry_noncoverage ys fun e he => h e (.tail _ he)]
    simp [uncovered]

/-- A stretch ends in entries that cover nothing, behind its last coverage entry, which gives the anchor. -/
theorem anchorAfter_split (xs : List Entry) : ∃ before carried, xs = before ++ carried ∧
    (∀ e ∈ carried, e.coverage = none) ∧
    (before = [] ∧ anchorAfter xs = .anchored 0 carried.length ∨
      ∃ front e first last, before = front ++ [e] ∧ e.coverage = some (first, last) ∧
        anchorAfter xs = .anchored (last + 1) carried.length) := by
  induction xs using List.reverseRecOn with
  | nil => exact ⟨[], [], rfl, fun _ h => absurd h List.not_mem_nil, .inl ⟨rfl, rfl⟩⟩
  | append_singleton xs x ih =>
    obtain ⟨before, carried, rfl, uncovered, anchored⟩ := ih
    cases covered : x.coverage with
    | some p =>
      refine ⟨before ++ carried ++ [x], [], (List.append_nil _).symm, fun _ h => absurd h List.not_mem_nil,
        .inr ⟨before ++ carried, x, p.1, p.2, rfl, covered, ?_⟩⟩
      obtain ⟨-, anchor⟩ | ⟨_, _, _, _, -, -, anchor⟩ := anchored <;>
        rw [anchorAfter_append _ x anchor, covered] <;> rfl
    | none =>
      refine ⟨before, carried ++ [x], List.append_assoc .., fun e he => ?_, ?_⟩
      · obtain old | new := List.mem_append.mp he
        · exact uncovered e old
        · rw [List.mem_singleton.mp new]
          exact covered
      · obtain ⟨empty, anchor⟩ | ⟨front, e, first, last, split, there, anchor⟩ := anchored
        · exact .inl ⟨empty, by rw [anchorAfter_append _ x anchor, covered]; simp⟩
        · exact .inr ⟨front, e, first, last, split, there, by rw [anchorAfter_append _ x anchor, covered]; simp⟩

/-- Settles O50: the last coverage entry of what was sent is the last that ends below the anchor, and the entries carried
follow it. -/
theorem readOnContinuesWhereItStopped : Obligations.ReadOnContinuesWhereItStopped := by
  intro es c i rises inside
  obtain ⟨before, carried, stretch, uncovered, anchored⟩ := anchorAfter_split (es.take (i + 1))
  have whole : es = before ++ (carried ++ es.drop (i + 1)) := by
    rw [← List.append_assoc, ← stretch, List.take_append_drop]
  have length : before.length + carried.length = i + 1 := by
    rw [← List.length_append, ← stretch, List.length_take]
    omega
  have walk : ∀ epoch, anchorAfter (es.take (i + 1)) = .anchored epoch carried.length →
      afterCoverageBelow epoch 0 0 es = before.length →
      walkStart es { c with position := anchorAfter (es.take (i + 1)) } = i + 1 := fun epoch anchor after => by
    have rest : es.drop before.length = carried ++ es.drop (i + 1) := by
      conv_lhs => rw [whole]
      exact List.drop_left' rfl
    simp only [walkStart, anchor, after, rest, passCarry_noncoverage _ uncovered, length]
  obtain ⟨empty, anchor⟩ | ⟨front, e, first, last, split, covered, anchor⟩ := anchored
  · refine walk 0 anchor ?_
    rw [afterCoverageBelow_none fun _ _ _ _ _ => Nat.zero_le _, empty]
    rfl
  · refine walk (last + 1) anchor ?_
    have later : ∀ x ∈ carried ++ es.drop (i + 1), ∀ first' last', x.coverage = some (first', last') → last + 1 ≤ last' := by
      intro x hx first' last' there
      rw [whole, split, List.append_assoc, List.filterMap_append, List.singleton_append, List.filterMap_cons_some covered,
        List.pairwise_append] at rises
      obtain ⟨-, tail, -⟩ := rises
      exact (List.pairwise_cons.mp tail).1 (first', last') (List.mem_filterMap.mpr ⟨x, hx, there⟩)
    conv_lhs => rw [whole, split, List.append_assoc]
    rw [afterCoverageBelow_append, List.singleton_append, afterCoverageBelow, afterCoverageBelow_none later, covered, split]
    simp

end Sys2Proof.Machine

/-! The merged output of consolidation (R130 to R132): each output entry is a source entry, or the RUN of a block of
consecutive quiet entries; and no two neighbours could still be joined. -/

namespace Sys2Proof.Machine

/-! ### Quiet entries (R130) -/

/-- A quiet entry covers, carries the account of its run, and covers up to the run's end. -/
theorem quietRun_spec {e : Entry} {r : RunEntry} (h : e.quietRun = some r) :
    e.covers = true ∧ e.account = some (r.exposure, r.drawn) ∧ e.coverage.map Prod.snd = some (r.first + r.count - 1) := by
  cases e with
  | epoch x =>
    rw [Entry.quietRun] at h
    split at h
    · cases h
      exact ⟨rfl, rfl, rfl⟩
    · cases h
  | run x =>
    cases h
    exact ⟨rfl, rfl, rfl⟩
  | gap | leg | door | checkpoint | conclude => cases h

/-- A quiet entry that counts more than one epoch is a RUN. -/
theorem eq_run_of_quietRun {e : Entry} {r : RunEntry} (h : e.quietRun = some r) (two : 2 ≤ r.count) : e = .run r := by
  cases e with
  | epoch x =>
    rw [Entry.quietRun] at h
    split at h
    · cases h
      exact absurd two (Nat.not_succ_le_self 1)
    · cases h
  | run x =>
    cases h
    rfl
  | gap | leg | door | checkpoint | conclude => cases h

theorem quietRun_count {e : Entry} {r : RunEntry} (runs : ∀ x, e = .run x → 1 ≤ x.count) (h : e.quietRun = some r) :
    1 ≤ r.count := by
  cases e with
  | epoch x =>
    rw [Entry.quietRun] at h
    split at h
    · cases h
      exact le_rfl
    · cases h
  | run x =>
    cases h
    exact runs r rfl
  | gap | leg | door | checkpoint | conclude => cases h

/-! ### A RUN and the entries it stands for (R132) -/

/-- `run` stands for the consecutive quiet entries `rs`, with the figures R132 gives it. -/
structure RunOf (rs : List RunEntry) (run : RunEntry) : Prop where
  consecutive : ∀ i, (h : i + 1 < rs.length) → rs[i + 1].first = rs[i].first + rs[i].count
  first : rs.head?.map RunEntry.first = some run.first
  last : ∃ front q, rs = front ++ [q] ∧ q.first + q.count = run.first + run.count
  total : run.count = (rs.map RunEntry.count).sum
  bound : 2 ≤ rs.length → run.count ≤ 65535
  counted : ∀ q ∈ rs, 1 ≤ q.count
  agree : ∀ q ∈ rs, run.minimum ≤ q.minimum ∧ q.maximum ≤ run.maximum ∧ q.exposure = run.exposure ∧
    q.drawn = run.drawn ∧ q.leg = run.leg ∧ q.verdict = run.verdict
  least : ∃ q ∈ rs, q.minimum = run.minimum
  greatest : ∃ q ∈ rs, q.maximum = run.maximum
  alone : rs.length = 1 → rs = [run]

theorem RunOf.single {r : RunEntry} (counted : 1 ≤ r.count) : RunOf [r] r where
  consecutive := fun i h => by simp at h
  first := rfl
  last := ⟨[], r, rfl, rfl⟩
  total := by simp
  bound := fun h => by simp at h
  counted := by simpa using counted
  agree := by simp
  least := ⟨r, by simp⟩
  greatest := ⟨r, by simp⟩
  alone := fun _ => rfl

theorem RunEntry.joins_iff (run r : RunEntry) : run.joins r = true ↔ r.first = run.first + run.count ∧ r.leg = run.leg ∧
    r.verdict = run.verdict ∧ r.exposure = run.exposure ∧ r.drawn = run.drawn ∧ run.count + r.count ≤ 65535 :=
  decide_eq_true_iff

theorem RunOf.join {rs : List RunEntry} {run r : RunEntry} (h : RunOf rs run) (joins : run.joins r = true)
    (counted : 1 ≤ r.count) : RunOf (rs ++ [r]) (run.join r) := by
  obtain ⟨next, leg, verdict, exposure, drawn, bound⟩ := (RunEntry.joins_iff run r).mp joins
  obtain ⟨front, q, split, ends⟩ := h.last
  constructor
  case consecutive =>
    intro i inside
    by_cases inner : i + 1 < rs.length
    · rw [List.getElem_append_left inner, List.getElem_append_left (by omega)]
      exact h.consecutive i inner
    · have place : i + 1 = rs.length := by simp at inside; omega
      have lastPlace : rs[i]'(by omega) = q := by
        subst split
        rw [List.getElem_append_right (by simp at place; omega)]
        simp
      rw [List.getElem_append_right (by omega), List.getElem_append_left (by omega), lastPlace]
      simp only [place, Nat.sub_self, List.getElem_cons_zero]
      omega
  case first =>
    rw [split]
    have := h.first
    rw [split] at this
    cases front <;> simpa [RunEntry.join] using this
  case last => exact ⟨rs, r, rfl, by simp only [RunEntry.join]; omega⟩
  case total => simp [RunEntry.join, h.total]
  case bound => exact fun _ => bound
  case counted =>
    intro x hx
    obtain old | new := List.mem_append.mp hx
    · exact h.counted x old
    · rw [List.mem_singleton.mp new]
      exact counted
  case agree =>
    intro x hx
    simp only [RunEntry.join]
    obtain old | new := List.mem_append.mp hx
    · obtain ⟨low, high, same⟩ := h.agree x old
      exact ⟨(min_le_left ..).trans low, high.trans (le_max_left ..), same⟩
    · rw [List.mem_singleton.mp new]
      exact ⟨min_le_right .., le_max_right .., exposure, drawn, leg, verdict⟩
  case least =>
    obtain ⟨x, hx, least⟩ := h.least
    obtain low | low := le_total run.minimum r.minimum
    · exact ⟨x, by simp [hx], by simp [RunEntry.join, least, low]⟩
    · exact ⟨r, by simp, by simp [RunEntry.join, low]⟩
  case greatest =>
    obtain ⟨x, hx, greatest⟩ := h.greatest
    obtain high | high := le_total r.maximum run.maximum
    · exact ⟨x, by simp [hx], by simp [RunEntry.join, greatest, high]⟩
    · exact ⟨r, by simp, by simp [RunEntry.join, high]⟩
  case alone =>
    intro one
    rw [split] at one
    simp at one

theorem RunOf.length_le {rs : List RunEntry} {run : RunEntry} (h : RunOf rs run) : rs.length ≤ run.count := by
  rw [h.total]
  have := List.card_nsmul_le_sum (rs.map RunEntry.count) 1 (by simpa using h.counted)
  simpa using this

/-! ### The blocks of an output -/

/-- An output entry and the source entries it stands for (R131). -/
def Merged (block : List Entry) (out : Entry) : Prop :=
  block = [out] ∨ ∃ (r : RunEntry) (rs : List RunEntry), out = .run r ∧ 2 ≤ rs.length ∧
    block.map Entry.quietRun = rs.map some ∧ RunOf rs r

/-- The block of the run being formed. -/
def Forms (block : List Entry) (run : RunEntry) (single : Entry) : Prop :=
  ∃ rs, block.map Entry.quietRun = rs.map some ∧ RunOf rs run ∧ block.head? = some single

theorem Forms.first {e : Entry} {r : RunEntry} (h : e.quietRun = some r) (counted : 1 ≤ r.count) : Forms [e] r e :=
  ⟨[r], by simp [h], .single counted, rfl⟩

theorem Forms.join {block : List Entry} {run r : RunEntry} {single e : Entry} (f : Forms block run single)
    (h : e.quietRun = some r) (joins : run.joins r = true) (counted : 1 ≤ r.count) :
    Forms (block ++ [e]) (run.join r) single := by
  obtain ⟨rs, runs, formed, head⟩ := f
  refine ⟨rs ++ [r], by simp [runs, h], formed.join joins counted, ?_⟩
  cases block with
  | nil => cases head
  | cons x xs => exact head

theorem Forms.ends {block : List Entry} {run : RunEntry} {single : Entry} (f : Forms block run single) :
    ∃ out, endRun (some (run, single)) = [out] ∧ Merged block out ∧ out.quietRun = some run := by
  obtain ⟨rs, runs, formed, head⟩ := f
  have same : block.length = rs.length := by simpa using congrArg List.length runs
  by_cases one : rs.length = 1
  · have block1 : block = [single] := by
      cases block with
      | nil => cases head
      | cons x xs =>
        cases head
        have none : xs = [] := by simpa [one] using same
        rw [none]
    have quiet : single.quietRun = some run := by simpa [block1, formed.alone one] using runs
    refine ⟨single, ?_, .inl block1, quiet⟩
    rw [endRun]
    split
    · rw [eq_run_of_quietRun quiet ‹_›]
    · rfl
  · have some : rs.length ≠ 0 := by
      obtain ⟨front, q, split, -⟩ := formed.last
      simp [split]
    have two : 2 ≤ run.count := by
      have := formed.length_le
      omega
    exact ⟨.run run, if_pos two, .inr ⟨run, rs, rfl, by omega, runs, formed⟩, rfl⟩

/-- The merged output stands for its sources block by block. -/
theorem mergeFrom_blocks : ∀ (es : List Entry), (∀ r, Entry.run r ∈ es → 1 ≤ r.count) →
    (∃ blocks : List (List Entry), es = blocks.flatten ∧ List.Forall₂ Merged blocks (mergeFrom none es)) ∧
    ∀ block run single, Forms block run single → ∃ blocks : List (List Entry), block ++ es = blocks.flatten ∧
      List.Forall₂ Merged blocks (mergeFrom (some (run, single)) es) := by
  intro es
  induction es with
  | nil =>
    refine fun _ => ⟨⟨[], rfl, .nil⟩, fun block run single f => ?_⟩
    obtain ⟨out, ends, merged, -⟩ := f.ends
    exact ⟨[block], by simp, by rw [mergeFrom, ends]; exact .cons merged .nil⟩
  | cons e es ih =>
    intro counted
    obtain ⟨fromNone, fromSome⟩ := ih fun r hr => counted r (.tail _ hr)
    cases quiet : e.quietRun with
    | none =>
      obtain ⟨blocks, flat, merged⟩ := fromNone
      have rest : List.Forall₂ Merged ([e] :: blocks) (e :: mergeFrom none es) := .cons (.inl rfl) merged
      refine ⟨⟨[e] :: blocks, by simp [flat], by rw [mergeFrom_loud none es quiet]; exact rest⟩, fun block run single f => ?_⟩
      obtain ⟨out, ends, out', -⟩ := f.ends
      refine ⟨block :: [e] :: blocks, by simp [flat], ?_⟩
      rw [mergeFrom_loud _ es quiet, ends]
      exact .cons out' rest
    | some r =>
      have one : 1 ≤ r.count := quietRun_count (fun x hx => counted x (hx ▸ .head _)) quiet
      obtain ⟨blocks, flat, merged⟩ := fromSome [e] r e (.first quiet one)
      refine ⟨⟨blocks, by rw [← flat]; rfl, by rw [mergeFrom_first es quiet]; exact merged⟩, fun block run single f => ?_⟩
      cases joins : run.joins r with
      | true =>
        obtain ⟨blocks, flat, merged⟩ := fromSome _ _ _ (f.join quiet joins one)
        exact ⟨blocks, by rw [← flat, List.append_assoc]; rfl, by rw [mergeFrom_joined es quiet joins]; exact merged⟩
      | false =>
        obtain ⟨out, ends, out', -⟩ := f.ends
        refine ⟨block :: blocks, by rw [List.flatten_cons, ← flat]; rfl, ?_⟩
        rw [mergeFrom_apart es quiet joins, ends]
        exact .cons out' merged

/-! ### What an output keeps (R131) -/

theorem lastPick_append {α : Type} (f : Entry → Option α) (xs ys : List Entry) :
    lastPick f (xs ++ ys) = (lastPick f ys).or (lastPick f xs) := by
  have carried : ∀ (es : List Entry) (acc : Option α), es.foldl (fun acc e => (f e).or acc) acc = (lastPick f es).or acc := by
    intro es
    induction es using List.reverseRecOn with
    | nil => exact fun _ => rfl
    | append_singleton es e ih => 
      intro acc
      rw [List.foldl_append, ih acc, show lastPick f (es ++ [e]) = (f e).or (lastPick f es) from List.foldl_append ..]
      exact Option.or_assoc.symm
  rw [lastPick, List.foldl_append]
  exact carried ys _

theorem lastPick_snoc {α : Type} {f : Entry → Option α} (xs : List Entry) {e : Entry} {a : α} (h : f e = some a) :
    lastPick f (xs ++ [e]) = some a := by
  rw [lastPick_append]
  simp [lastPick, h]

/-- The last entry of the block of a RUN ends where the RUN does. -/
theorem Merged.last {block : List Entry} {rs : List RunEntry} {r : RunEntry}
    (runs : block.map Entry.quietRun = rs.map some) (formed : RunOf rs r) :
    ∃ front e q, block = front ++ [e] ∧ e.quietRun = some q ∧ q ∈ rs ∧ q.first + q.count = r.first + r.count := by
  obtain ⟨front, q, rfl, ends⟩ := formed.last
  have nonempty : block ≠ [] := by
    rintro rfl
    simp at runs
  obtain ⟨xs, e, rfl⟩ : ∃ xs e, block = xs ++ [e] := ⟨block.dropLast, block.getLast nonempty, (List.dropLast_append_getLast nonempty).symm⟩
  simp only [List.map_append, List.map_cons, List.map_nil] at runs
  obtain ⟨-, last⟩ := List.append_inj' runs rfl
  exact ⟨xs, e, q, rfl, by simpa using last, by simp, ends⟩

theorem Merged.keeps {block : List Entry} {out : Entry} (h : Merged block out) :
    [out].filter (fun e => !e.covers) = block.filter (fun e => !e.covers) ∧
      lastPick Entry.account [out] = lastPick Entry.account block ∧ lastCovered [out] = lastCovered block := by
  obtain rfl | ⟨r, rs, rfl, -, runs, formed⟩ := h
  · exact ⟨rfl, rfl, rfl⟩
  · obtain ⟨front, e, q, split, quiet, member, ends⟩ := Merged.last runs formed
    obtain ⟨-, -, exposure, drawn, -, -⟩ := formed.agree q member
    have covered : ∀ x ∈ block, x.covers = true := fun x hx => by
      have picked : x.quietRun ∈ rs.map some := runs ▸ List.mem_map_of_mem hx
      obtain ⟨p, -, hp⟩ := List.mem_map.mp picked
      exact (quietRun_spec hp.symm).1
    obtain ⟨-, account, reach⟩ := quietRun_spec quiet
    refine ⟨?_, ?_, ?_⟩
    · have none : block.filter (fun e => !e.covers) = [] :=
        List.filter_eq_nil_iff.mpr fun x hx => by simp [covered x hx]
      rw [none]
      rfl
    · rw [split, lastPick_snoc front account, exposure, drawn]
      rfl
    · obtain ⟨p, cover, upTo⟩ := Option.map_eq_some_iff.mp reach
      rw [split, lastCovered, lastCovered, lastPick_snoc front cover, Option.map_some, upTo, ends]
      rfl

theorem merged_keeps {blocks : List (List Entry)} {outs : List Entry} (h : List.Forall₂ Merged blocks outs) :
    outs.filter (fun e => !e.covers) = blocks.flatten.filter (fun e => !e.covers) ∧
      lastPick Entry.account outs = lastPick Entry.account blocks.flatten ∧
      lastCovered outs = lastCovered blocks.flatten := by
  induction h with
  | nil => exact ⟨rfl, rfl, rfl⟩
  | cons first _ ih =>
    obtain ⟨others, account, covered⟩ := first.keeps
    obtain ⟨others', account', covered'⟩ := ih
    simp only [lastCovered] at covered covered' ⊢
    rw [List.flatten_cons, ← List.singleton_append, List.filter_append, List.filter_append, lastPick_append,
      lastPick_append, lastPick_append, lastPick_append, Option.map_or, Option.map_or]
    exact ⟨by rw [others, others'], by rw [account, account'], by rw [covered, covered']⟩

/-! ### Neighbours of an output (R131) -/

/-- Two neighbours that could not be joined. -/
def Apart (a b : Entry) : Prop :=
  ∀ ra rb, a.quietRun = some ra → b.quietRun = some rb → ra.joins rb = false

/-- An entry that begins where a run does, and counts as much at least. -/
def Extends (run : RunEntry) (e : Entry) : Prop :=
  ∃ r, e.quietRun = some r ∧ r.first = run.first ∧ r.leg = run.leg ∧ r.verdict = run.verdict ∧
    r.exposure = run.exposure ∧ r.drawn = run.drawn ∧ run.count ≤ r.count

theorem Extends.apart {run r : RunEntry} {a b : Entry} (quiet : a.quietRun = some run) (ext : Extends r b)
    (apart : run.joins r = false) : Apart a b := by
  intro ra rb ha hb
  obtain ⟨r', quiet', first, leg, verdict, exposure, drawn, count⟩ := ext
  rw [quiet] at ha
  rw [quiet'] at hb
  cases ha
  cases hb
  refine Bool.eq_false_iff.mpr fun joins => ?_
  have no : ¬ run.joins r = true := by simp [apart]
  rw [RunEntry.joins_iff] at joins no
  obtain ⟨j1, j2, j3, j4, j5, j6⟩ := joins
  exact no ⟨first ▸ j1, leg ▸ j2, verdict ▸ j3, exposure ▸ j4, drawn ▸ j5, by omega⟩

theorem apart_loud_left {a : Entry} (b : Entry) (h : a.quietRun = none) : Apart a b := fun _ _ ha _ => by
  rw [h] at ha
  cases ha

theorem apart_loud_right (a : Entry) {b : Entry} (h : b.quietRun = none) : Apart a b := fun _ _ _ hb => by
  rw [h] at hb
  cases hb

/-- No two neighbours of the merged output could be joined; what a run being formed ends as stands at its head. -/
theorem mergeFrom_apart_chain : ∀ (es : List Entry), (∀ r, Entry.run r ∈ es → 1 ≤ r.count) →
    (mergeFrom none es).IsChain Apart ∧ ∀ block run single, Forms block run single →
      (mergeFrom (some (run, single)) es).IsChain Apart ∧
        ∃ x rest, mergeFrom (some (run, single)) es = x :: rest ∧ Extends run x := by
  intro es
  induction es with
  | nil =>
    refine fun _ => ⟨.nil, fun block run single f => ?_⟩
    obtain ⟨out, ends, -, quiet⟩ := f.ends
    rw [mergeFrom, ends]
    exact ⟨.singleton _, out, [], rfl, run, quiet, rfl, rfl, rfl, rfl, rfl, le_rfl⟩
  | cons e es ih =>
    intro counted
    obtain ⟨fromNone, fromSome⟩ := ih fun r hr => counted r (.tail _ hr)
    cases quiet : e.quietRun with
    | none =>
      have rest : (e :: mergeFrom none es).IsChain Apart :=
        List.isChain_cons.mpr ⟨fun y _ => apart_loud_left y quiet, fromNone⟩
      refine ⟨by rw [mergeFrom_loud none es quiet]; exact rest, fun block run single f => ?_⟩
      obtain ⟨out, ends, -, outQuiet⟩ := f.ends
      rw [mergeFrom_loud _ es quiet, ends]
      exact ⟨List.isChain_cons_cons.mpr ⟨apart_loud_right out quiet, rest⟩, out, _, rfl, run, outQuiet, rfl, rfl, rfl, rfl,
        rfl, le_rfl⟩
    | some r =>
      have one : 1 ≤ r.count := quietRun_count (fun x hx => counted x (hx ▸ .head _)) quiet
      obtain ⟨chain, x, rest, whole, ext⟩ := fromSome [e] r e (.first quiet one)
      refine ⟨by rw [mergeFrom_first es quiet]; exact chain, fun block run single f => ?_⟩
      cases joins : run.joins r with
      | true =>
        obtain ⟨chain, x, rest, whole, ext⟩ := fromSome _ _ _ (f.join quiet joins one)
        rw [mergeFrom_joined es quiet joins]
        obtain ⟨r', quiet', first, leg, verdict, exposure, drawn, count⟩ := ext
        have longer : run.count ≤ (run.join r).count := Nat.le_add_right ..
        exact ⟨chain, x, rest, whole, r', quiet', first, leg, verdict, exposure, drawn, longer.trans count⟩
      | false =>
        obtain ⟨out, ends, -, outQuiet⟩ := f.ends
        rw [mergeFrom_apart es quiet joins, ends, whole]
        rw [whole] at chain
        exact ⟨List.isChain_cons_cons.mpr ⟨ext.apart outQuiet joins, chain⟩, out, _, rfl, run, outQuiet, rfl, rfl, rfl,
          rfl, rfl, le_rfl⟩

/-- Settles O58: the blocks are `mergeFrom_blocks`, what they keep `merged_keeps`, and the neighbours
`mergeFrom_apart_chain`. -/
theorem mergedOutputKeepsTheAccount : Obligations.MergedOutputKeepsTheAccount := by
  refine ⟨fun es counted => ?merged, fun e v value grade flags contribution draw run => ?_, fun e loud => ?_, fun _ => rfl,
    fun _ => rfl, fun _ => rfl, fun _ => rfl, fun _ => rfl, fun _ => rfl⟩
  case merged =>
    obtain ⟨⟨blocks, flat, merged⟩, -⟩ := mergeFrom_blocks es counted
    obtain ⟨others, account, covered⟩ := merged_keeps merged
    rw [← flat] at others account covered
    refine ⟨others, account, covered, ⟨blocks, flat, merged.imp fun block out m => ?_⟩, ?_⟩
    · refine m.imp_right fun ⟨r, rs, out, two, runs, formed⟩ => ?_
      exact ⟨r, rs, out, two, runs, formed.consecutive, formed.first, formed.total, formed.bound two, formed.agree,
        formed.least, formed.greatest⟩
    · intro before after a b ra rb split ha hb joins
      obtain ⟨chain, -⟩ := mergeFrom_apart_chain es counted
      rw [split] at chain
      have apart := (List.isChain_append.mp chain).2.1
      have no := (List.isChain_cons_cons.mp apart).1 ra rb ha hb
      rw [(RunEntry.joins_iff ra rb).mpr joins] at no
      cases no
  · simp [Entry.quietRun, value, grade, flags, contribution, draw, run]
  · refine if_neg fun ⟨grade, flags, contribution, draw, run⟩ => ?_
    rw [flags] at loud
    simp_all

end Sys2Proof.Machine

/-! The timebase: an idle step, retained time, quarter ends and the countdown (R15 to R23). -/

namespace Sys2Proof.Machine

/-! ### What `quiet` and `running` read -/

/-- A state is quiet by its request in service, its store, its journal store's state and the program in progress. -/
theorem quiet_congr {s t : State} (service : t.rqs.service = s.rqs.service) (store : t.store = s.store)
    (jst : t.jst = s.jst) (program : t.cmr.program = s.cmr.program) : quiet t = quiet s := by
  obtain ⟨_, _, _, _, _, _, _, _, _, _, _, ⟨_, _, _⟩, ⟨_, _, _, _, _⟩, _, _⟩ := s
  obtain ⟨_, _, _, _, _, _, _, _, _, _, _, ⟨_, _, _⟩, ⟨_, _, _, _, _⟩, _, _⟩ := t
  simp only at service store jst program
  subst service store jst program
  rfl

theorem not_running_of_stopped {s : State} (h : s.logic = .stopped) : running s = false := by simp [running, h]

/-! ### An idle step (R15, R16, R20, R23, R41) -/

theorem step_idle {s : State} (idle : s.pending = []) : step s = .next (tick s) := by simp only [step, idle]

/-- A tick with the logic running, from its four parts. -/
theorem tick_running {s a b c d : State} {quarter minute note stall : Bool} (valid : s.retValid = true)
    (runs : running s = true) (first : tickQuarter s = (a, quarter)) (second : tickMinute a = (b, minute))
    (third : tickNote b = (c, note)) (fourth : tickStall c = (d, stall)) :
    tick s = enqueue quarter minute note stall d := by
  simp only [tick, valid, runs, first, second, third, fourth, if_true]

theorem tick_stopped {s a b : State} {quarter minute : Bool} (valid : s.retValid = true) (stops : running s = false)
    (first : tickQuarter s = (a, quarter)) (second : tickMinute a = (b, minute)) :
    tick s = enqueue quarter minute false false b := by
  simp [tick, valid, stops, first, second]

theorem tickQuarter_within {s : State} (timed : s.ret.schedule = .running ∨ s.ret.schedule = .listening)
    (short : s.ret.position + 1 < s.cmr.epochLength) :
    tickQuarter s = (s.setRet { s.ret with position := s.ret.position + 1 }, false) := by
  rw [tickQuarter, if_pos timed.symm, if_neg (by omega)]

theorem tickQuarter_ends {s : State} (timed : s.ret.schedule = .running ∨ s.ret.schedule = .listening)
    (long : s.cmr.epochLength ≤ s.ret.position + 1) :
    tickQuarter s = (s.setRet { s.ret with position := 0 }, true) := by
  rw [tickQuarter, if_pos timed.symm, if_pos long]

theorem tickMinute_expired {s : State} (h : s.ret.countdown = .expired) : tickMinute s = (s, false) := by
  simp only [tickMinute, h]

theorem tickMinute_counting {s : State} {m p : Nat} (h : s.ret.countdown = .counting m p)
    (held : (running s && countdownHeld s) = false) : tickMinute s =
      if 240 ≤ p + 1 then (s.setRet { s.ret with countdown := .counting m 0 }, true)
      else (s.setRet { s.ret with countdown := .counting m (p + 1) }, false) := by
  simp only [tickMinute, h, held, Bool.false_eq_true, if_false]

theorem tickNote_none {s : State} (h : s.chc.schedule = .none) : tickNote s = (s, false) := by
  simp only [tickNote, h]

theorem tickNote_waiting {s : State} {e d : Nat} {arrived : Bool} (h : s.chc.schedule = .waiting e d arrived) :
    tickNote s = (s.setChc { s.chc with schedule := .waiting e (d - 1) arrived }, decide (d ≤ 1)) := by
  simp only [tickNote, h]

theorem tickStall_some {s : State} {n : Nat} (h : s.tmb.stall = some n) :
    tickStall s = (s.setTmb { s.tmb with stall := some (n - 1) }, decide (n ≤ 1)) := by
  simp only [tickStall, h]

/-- Settles O3: the parts of a tick, one by one. -/
theorem idleStepIsOneTimebaseStep : Obligations.IdleStepIsOneTimebaseStep := by
  intro n s idle valid
  rw [step_idle idle]
  refine ⟨fun schedule short expired => ⟨fun logic none stall long => ?_, fun logic none stall out => ?_,
    fun e d arrived logic waiting stall long => ⟨fun more => ?_, fun out => ?_⟩, fun logic => ?_⟩,
    fun schedule long expired logic none stall more => ?_,
    fun m p schedule short counting logic unconcluded none stall more => ⟨fun inside => ?_, fun ends => ?_⟩⟩
  · have more : ¬ n ≤ 1 := by omega
    rw [tick_running valid (running_of_logic logic) (tickQuarter_within (.inl schedule) short) (tickMinute_expired (s := s.setRet _) expired)
      (tickNote_none (s := s.setRet _) none) (tickStall_some (s := s.setRet _) stall)]
    simp [enqueue, more, State.setRet, State.setTmb]
  · rw [tick_running valid (running_of_logic logic) (tickQuarter_within (.inl schedule) short) (tickMinute_expired (s := s.setRet _) expired)
      (tickNote_none (s := s.setRet _) none) (tickStall_some (s := s.setRet _) stall)]
    simp [enqueue, out, State.setRet, State.setTmb, State.setPending, State.setFree]
  · have more' : ¬ n ≤ 1 ∧ ¬ d ≤ 1 := by omega
    rw [tick_running valid (running_of_logic logic) (tickQuarter_within (.inl schedule) short) (tickMinute_expired (s := s.setRet _) expired)
      (tickNote_waiting (s := s.setRet _) waiting) (tickStall_some (s := (s.setRet _).setChc _) stall)]
    simp [enqueue, more', State.setRet, State.setTmb, State.setChc]
  · have more : ¬ n ≤ 1 := by omega
    rw [tick_running valid (running_of_logic logic) (tickQuarter_within (.inl schedule) short) (tickMinute_expired (s := s.setRet _) expired)
      (tickNote_waiting (s := s.setRet _) waiting) (tickStall_some (s := (s.setRet _).setChc _) stall)]
    simp [enqueue, more, out, State.setRet, State.setTmb, State.setChc, State.setPending, State.setFree]
  · rw [tick_stopped valid (not_running_of_stopped logic) (tickQuarter_within (.inl schedule) short)
      (tickMinute_expired (s := s.setRet _) expired)]
    simp [enqueue, State.setRet]
  · have more' : ¬ n ≤ 1 := by omega
    rw [tick_running valid (running_of_logic logic) (tickQuarter_ends schedule long) (tickMinute_expired (s := s.setRet _) expired)
      (tickNote_none (s := s.setRet _) none) (tickStall_some (s := s.setRet _) stall)]
    simp [enqueue, more', State.setRet, State.setTmb, State.setPending, State.setFree]
  · have more' : ¬ n ≤ 1 ∧ ¬ 240 ≤ p + 1 := by omega
    have free : (running s && countdownHeld s) = false := by simp [countdownHeld, unconcluded]
    rw [tick_running valid (running_of_logic logic) (tickQuarter_within (.inr schedule) short)
      ((tickMinute_counting (s := s.setRet { s.ret with position := s.ret.position + 1 }) counting free).trans (if_neg more'.2)) (tickNote_none (s := (s.setRet _).setRet _) none)
      (tickStall_some (s := (s.setRet _).setRet _) stall)]
    simp [enqueue, more', State.setRet, State.setTmb]
  · have more' : ¬ n ≤ 1 := by omega
    have free : (running s && countdownHeld s) = false := by simp [countdownHeld, unconcluded]
    rw [tick_running valid (running_of_logic logic) (tickQuarter_within (.inr schedule) short)
      ((tickMinute_counting (s := s.setRet { s.ret with position := s.ret.position + 1 }) counting free).trans (if_pos ends)) (tickNote_none (s := (s.setRet _).setRet _) none)
      (tickStall_some (s := (s.setRet _).setRet _) stall)]
    simp [enqueue, more', State.setRet, State.setTmb, State.setPending, State.setFree]

/-! ### Retained time (R16 to R19) -/

section
variable {s : State} (env : Env) (logic : s.logic = .stopped)
include logic

theorem exec_quarterEnd_stopped (valid : s.retValid = true) :
    exec (.quarterEnd env) s = .next (s.setRet s.ret.quarterEnd) := by
  simp [exec_quarterEnd, execQuarterEnd, not_running_of_stopped logic, valid, done]

theorem exec_countdownStep_stopped (valid : s.retValid = true) (counting : s.ret.countdown.isCounting = true) :
    exec (.countdownStep env) s = .next (s.setRet
      { s.ret.countdownStep with expiredStopped := s.ret.countdownStep.countdown == .expired }) := by
  change done _ = _
  simp [done, counting, not_running_of_stopped logic, valid]

end

theorem Retention.quarterEnd_running {r : Retention} (h : r.schedule = .running) (q : r.quarter < 4) :
    r.quarterEnd = { r with position := 0, quarter := r.quarter + 1 } := by
  simp [Retention.quarterEnd, h, q]

theorem Retention.quarterEnd_epoch {r : Retention} (h : r.schedule = .running) (q : r.quarter = 4)
    (e : r.epoch < Config.maxEpoch) : r.quarterEnd = { r with position := 0, quarter := 1, epoch := r.epoch + 1 } := by
  simp [Retention.quarterEnd, h, q, e]

theorem Retention.quarterEnd_final {r : Retention} (h : r.schedule = .running) (q : r.quarter = 4)
    (e : ¬ r.epoch < Config.maxEpoch) : r.quarterEnd = { r with position := 0, schedule := .stopped } := by
  simp [Retention.quarterEnd, h, q, e]

theorem Retention.quarterEnd_listening {r : Retention} (h : r.schedule = .listening) (q : r.quarter < 4) :
    r.quarterEnd = { r with position := 0, quarter := r.quarter + 1 } := by
  simp [Retention.quarterEnd, h, q]

theorem Retention.quarterEnd_away {r : Retention} (h : r.schedule = .idle ∨ r.schedule = .stopped) : r.quarterEnd = r := by
  obtain h | h := h <;> simp [Retention.quarterEnd, h]

/-- Settles O20: with the logic stopped the two commands are the timing parts alone. -/
theorem retainedTimeRunsAlone : Obligations.RetainedTimeRunsAlone := by
  intro env s logic
  refine ⟨fun valid runs early => ?_, fun valid runs last more => ?_, fun valid runs last final => ?_,
    fun valid listens early => ?_, fun valid listens last => ?_, fun valid away => ?_, fun valid m p counting more => ?_,
    fun valid p counting => ?_, fun invalid => ⟨?_, ?_⟩⟩
  · rw [exec_quarterEnd_stopped env logic valid, Retention.quarterEnd_running runs early]
    rfl
  · rw [exec_quarterEnd_stopped env logic valid, Retention.quarterEnd_epoch runs last more]
    rfl
  · rw [exec_quarterEnd_stopped env logic valid, Retention.quarterEnd_final runs last (by omega)]
    rfl
  · rw [exec_quarterEnd_stopped env logic valid, Retention.quarterEnd_listening listens early]
    rfl
  · rw [exec_quarterEnd_stopped env logic valid, Retention.quarterEnd_listening_last listens last]
    rfl
  · rw [exec_quarterEnd_stopped env logic valid, Retention.quarterEnd_away away]
    rfl
  · have more' : ¬ m ≤ 1 := by omega
    rw [exec_countdownStep_stopped env logic valid (by rw [counting]; rfl)]
    simp only [Retention.countdownStep, counting, if_neg more']
    rfl
  · rw [exec_countdownStep_stopped env logic valid (by rw [counting]; rfl)]
    simp only [Retention.countdownStep, counting, le_refl, if_true]
    rfl
  · simp [exec_quarterEnd, execQuarterEnd, not_running_of_stopped logic, invalid, done]
  · change done _ = _
    simp [done, not_running_of_stopped logic, invalid]

end Sys2Proof.Machine

/-! Quarter ends and epoch ends of the trip, the countdown and activation (R3, R17, R19 to R21, R41, R59 to R64, R77, R78). -/

namespace Sys2Proof.Machine

/-! ### What an offer changes -/

theorem suspend_setJst (s : State) : suspend s = s.setJst (suspend s).jst := by
  unfold suspend
  split <;> rfl

/-- An offer changes the journal store's state alone. -/
theorem offer_setJst (e : Entry) (s : State) : (offer e s).1 = s.setJst (offer e s).1.jst := by
  unfold offer
  split
  · dsimp only
    conv_lhs => rw [suspend_setJst]
    rfl
  · rfl

theorem suspend_nextSeq (s : State) : (suspend s).jst.nextSeq = s.jst.nextSeq := (suspend_kept s).1.nextSeq

theorem offer_nextSeq (e : Entry) (s : State) : (offer e s).1.jst.nextSeq = s.jst.nextSeq := (offer_kept e s).1.nextSeq

/-! ### The inputs of a close (R85) -/

theorem handView_first {s : State} (key : Nat) (v : CloseView) (empty : s.eve.inputs = []) :
    handView key v s = s.setEve { s.eve with inputs := [⟨key, none, some v, none⟩] } := by
  simp [handView, handInput, empty, updateInputs, CloseInputs.joined]

theorem handDoor_second {s : State} (key : Nat) (v : CloseView) (d : DoorView)
    (held : s.eve.inputs = [⟨key, none, some v, none⟩]) :
    handDoor key d s = s.setEve { s.eve with inputs := [⟨key, none, some v, some d⟩] } := by
  simp [handDoor, handInput, held, updateInputs, CloseInputs.joined]

theorem handInput_frame (key : Nat) (f : CloseInputs → CloseInputs) (s : State) :
    ∃ e, handInput key f s = s.setEve e ∧ e.station = s.eve.station := by
  unfold handInput
  dsimp only
  split <;> exact ⟨_, rfl, rfl⟩

/-! ### A quarter end -/

theorem startConversions_eq (quarter : Nat) (s : State) : startConversions quarter s =
    s.setTch (if s.eve.station = .active ∧ s.tch.taking = true then { s.tch with
        probe := s.tch.probe.set quarter .converting
        air := s.tch.air.set quarter .converting }
      else s.tch) := by
  unfold startConversions
  split <;> rfl

theorem runningQuarterEnd_early (env : Env) {s : State} (schedule : s.ret.schedule = .running) (early : s.ret.quarter < 4) :
    runningQuarterEnd env s =
      startConversions s.ret.quarter (s.setRet { s.ret with position := 0, quarter := s.ret.quarter + 1 }) := by
  have stall : stopStall (s.setRet s.ret.quarterEnd) = s.setRet { s.ret with position := 0, quarter := s.ret.quarter + 1 } := by
    rw [Retention.quarterEnd_running schedule early]
    exact stopStall_of_ne_stopped (by simp [schedule])
  simp [runningQuarterEnd, stall, schedule, early]

/-- The retention domain and the stall timer after the end of an epoch (R17, R19). -/
def epochTurned (s : State) : State :=
  (s.setRet (if s.ret.epoch < Config.maxEpoch then { s.ret with position := 0, quarter := 1, epoch := s.ret.epoch + 1 }
    else { s.ret with position := 0, schedule := .stopped })).setTmb
      (if s.ret.epoch < Config.maxEpoch then s.tmb else { s.tmb with stall := none })

theorem runningQuarterEnd_last (env : Env) {s : State} (schedule : s.ret.schedule = .running) (last : s.ret.quarter = 4) :
    runningQuarterEnd env s = epochEnd env s.ret.epoch (startConversions 4 (epochTurned s)) := by
  have turned : stopStall (s.setRet s.ret.quarterEnd) = epochTurned s := by
    unfold epochTurned
    by_cases more : s.ret.epoch < Config.maxEpoch
    · rw [Retention.quarterEnd_epoch schedule last more, if_pos more, if_pos more]
      exact stopStall_of_ne_stopped (by simp [schedule])
    · rw [Retention.quarterEnd_final schedule last more, if_neg more, if_neg more]
      exact if_pos rfl
  simp [runningQuarterEnd, turned, schedule, last]

theorem exec_quarterEnd_running (env : Env) {s : State} (hr : running s = true) (schedule : s.ret.schedule = .running) :
    exec (.quarterEnd env) s = .next (settle env (runningQuarterEnd env s)) := by
  simp [exec_quarterEnd, execQuarterEnd, done, hr, schedule]

/-! ### What an epoch end leaves -/

/-- `t` has the clock, the station state, both media and the request in service of `s`. -/
structure SameTrip (s t : State) : Prop where
  logic : t.logic = s.logic
  ret : t.ret = s.ret
  tmb : t.tmb = s.tmb
  station : t.eve.station = s.eve.station
  store : t.store = s.store
  cmr : t.cmr = s.cmr
  rqs : t.rqs = s.rqs

theorem SameTrip.trans {s t u : State} (a : SameTrip s t) (b : SameTrip t u) : SameTrip s u :=
  ⟨b.logic.trans a.logic, b.ret.trans a.ret, b.tmb.trans a.tmb, b.station.trans a.station, b.store.trans a.store,
    b.cmr.trans a.cmr, b.rqs.trans a.rqs⟩

theorem SameTrip.refl (s : State) : SameTrip s s := ⟨rfl, rfl, rfl, rfl, rfl, rfl, rfl⟩
theorem SameTrip.setJst (s : State) (j : Jst) : SameTrip s (s.setJst j) := ⟨rfl, rfl, rfl, rfl, rfl, rfl, rfl⟩
theorem SameTrip.setPtb (s : State) (p : Ptb) : SameTrip s (s.setPtb p) := ⟨rfl, rfl, rfl, rfl, rfl, rfl, rfl⟩
theorem SameTrip.setDmn (s : State) (d : Dmn) : SameTrip s (s.setDmn d) := ⟨rfl, rfl, rfl, rfl, rfl, rfl, rfl⟩
theorem SameTrip.setChc (s : State) (c : Chc) : SameTrip s (s.setChc c) := ⟨rfl, rfl, rfl, rfl, rfl, rfl, rfl⟩
theorem SameTrip.setTch (s : State) (t : Tch) : SameTrip s (s.setTch t) := ⟨rfl, rfl, rfl, rfl, rfl, rfl, rfl⟩

theorem offer_sameTrip (e : Entry) (s : State) : SameTrip s (offer e s).1 := by
  rw [offer_setJst]
  exact .setJst ..

theorem handInput_sameTrip (key : Nat) (f : CloseInputs → CloseInputs) (s : State) : SameTrip s (handInput key f s) := by
  obtain ⟨e, eq, station⟩ := handInput_frame key f s
  rw [eq]
  exact ⟨rfl, rfl, rfl, station, rfl, rfl, rfl⟩

theorem closeTable_sameTrip (epoch : Nat) (s : State) : SameTrip s (closeTable epoch s) := by
  refine (SameTrip.setPtb s { s.ptb with peers := closePeers s.ptb.peers }).trans ?_
  unfold closeTable
  dsimp only
  split
  · unfold proposeTurnover
    dsimp only
    split
    · exact (offer_sameTrip ..).trans (.setPtb ..)
    · exact offer_sameTrip ..
  · exact .refl _

theorem offerClosing_sameTrip (s : State) : SameTrip s (offerClosing s) := by
  unfold offerClosing
  split
  · exact (offer_sameTrip ..).trans (.setDmn ..)
  · exact .refl s

theorem settleEpisode_sameTrip (epoch : Nat) (s : State) : SameTrip s (settleEpisode epoch s) := by
  unfold settleEpisode
  split
  · exact .refl s
  · split
    · exact (offerClosing_sameTrip s).trans (.setDmn ..)
    · exact .setDmn ..

theorem startSchedule_sameTrip (env : Env) (epoch : Nat) (s : State) : SameTrip s (startSchedule env epoch s) := .setChc ..

theorem epochEnd_sameTrip (env : Env) (epoch : Nat) {s : State} (light : serviceLight s = true) :
    SameTrip s (epochEnd env epoch s) := by
  have peers : SameTrip s (epochEndPeers epoch s) := by
    unfold epochEndPeers
    split
    · exact .refl s
    · exact (handInput_sameTrip ..).trans (closeTable_sameTrip ..)
  have door : SameTrip (epochEndPeers epoch s) (epochEndDoor epoch (epochEndPeers epoch s)) := by
    unfold epochEndDoor
    split
    · exact (SameTrip.setDmn ..).trans ((handInput_sameTrip ..).trans (settleEpisode_sameTrip ..))
    · exact .refl _
  have all := (peers.trans door).trans (startSchedule_sameTrip env epoch _)
  unfold epochEnd
  split
  · rw [lateRequests_other fun reader tag late service => ?_]
    · exact all
    · rw [all.rqs] at service
      simp [serviceLight, service] at light
  · exact .refl s

/-- Settles O17: a quarter end before the last starts the conversions (`runningQuarterEnd_early`); the last one of the last
epoch stops the schedule, and the epoch end leaves the clock, the station state and both media (`epochEnd_sameTrip`). -/
theorem quarterEndsOfTheTrip : Obligations.QuarterEndsOfTheTrip := by
  refine ⟨fun env s logic rests schedule early => ?_, fun env s logic light schedule last final => ?_⟩
  · have runs := running_of_logic logic
    rw [exec_quarterEnd_running env runs schedule, runningQuarterEnd_early env schedule early, startConversions_eq]
    exact congrArg Host.Outcome.next (settle_quiet env runs ((quiet_congr rfl rfl rfl rfl).trans rests))
  · have conversions : SameTrip (epochTurned s) (startConversions 4 (epochTurned s)) := by
      rw [startConversions_eq]
      exact .setTch ..
    have light' : serviceLight (startConversions 4 (epochTurned s)) = true := by
      rw [startConversions_eq]
      exact light
    have trip := conversions.trans (epochEnd_sameTrip env s.ret.epoch light')
    have served : serviceLight (epochEnd env s.ret.epoch (startConversions 4 (epochTurned s))) = true := by
      rw [serviceLight, trip.rqs]
      exact light
    have blocks := settle_blocks env served
    have core := settle_core env (epochEnd env s.ret.epoch (startConversions 4 (epochTurned s)))
    refine ⟨_, by rw [exec_quarterEnd_running env (running_of_logic logic) schedule, runningQuarterEnd_last env schedule last],
      ?_, ?_, blocks.station.trans trip.station, core.store.trans trip.store, core.cmr.trans trip.cmr⟩
    · rw [blocks.ret, trip.ret]
      exact if_neg (by omega)
    · rw [blocks.tmb, trip.tmb]
      exact if_neg (by omega)

end Sys2Proof.Machine

/-! The channel controller's own events, frames that leave no trace, and the requests that are answered at once
(R33 to R46, R71, R76, R165 to R172). -/

namespace Sys2Proof.Machine

/-! ### Carrier sense (R39, R40) -/

/-- Settles O35: the two senses of `Chc.kick`, by the transmitter's state and the report. -/
theorem carrierSense : Obligations.CarrierSense := by
  intro env f rest s
  refine ⟨fun idle queue clear => ?_, fun idle queue busy few => ?_, fun idle queue busy last => ?_,
    fun g idle queue busy last clear => ?_, fun idle queue => ?_, fun n backoff => ?_, fun x air => ?_⟩
  · simp [kick, Chc.kick, Chc.beginSense, Chc.endSense, Chc.senseReport, State.setChc, idle, queue, clear]
  · have more : ¬ s.chc.busy + 1 = 8 := by omega
    simp [kick, Chc.kick, Chc.beginSense, Chc.endSense, Chc.senseReport, State.setChc, idle, queue, busy, more]
  · simp [kick, Chc.kick, Chc.beginSense, Chc.endSense, Chc.senseReport, State.setChc, idle, queue, busy, last]
  · simp [kick, Chc.kick, Chc.beginSense, Chc.endSense, Chc.senseReport, State.setChc, idle, queue, busy, last, clear]
  · simp [kick, Chc.kick, Chc.beginSense, Chc.endSense, State.setChc, idle, queue]
  · simp [kick, Chc.kick, Chc.beginSense, Chc.endSense, State.setChc, backoff]
  · simp [kick, Chc.kick, Chc.beginSense, Chc.endSense, State.setChc, air]

/-! ### A reply at the tail of the queue (R38, R46) -/

theorem sendReply_eq (reader : PartyId) (r : Reply) (s : State) : sendReply reader r s = replied reader r s := by
  unfold sendReply Chc.offerReply replied
  rw [show Config.transmitRoom = 4 from rfl]
  split <;> rfl

theorem settle_reply (env : Env) (reader : PartyId) (r : Reply) {s : State} (hr : running s = true) (rests : quiet s = true) :
    settle env (sendReply reader r s) = kick env (replied reader r s) := by
  rw [← sendReply_eq]
  exact settle_quiet env hr ((quiet_congr rfl rfl rfl rfl).trans rests)

/-! ### The channel's events (R38, R39, R41, R43, R46) -/

theorem composeNote_regular (s : State) : composeNote (doorFlag s) s =
    { cls := s.cmr.cls
      air := s.chc.content.bind fun c => c.air.map airByte
      fit := (s.chc.content.map NoteContent.fit).getD false
      door := doorFlag s
      verdict := committedVerdict s
      leg := s.ptb.leg.getD 0 } := by
  unfold composeNote
  cases s.chc.content <;> rfl

theorem replaceNote_append (n old : Note) (after : List Frame) : ∀ before : List Frame, before.any Frame.isNote = false →
    replaceNote n (before ++ .note old :: after) = before ++ .note n :: after
  | [], _ => rfl
  | f :: before, plain => by
    obtain ⟨first, others⟩ := by simpa only [List.any_cons, Bool.or_eq_false_iff] using plain
    simp only [List.cons_append, replaceNote, first, Bool.false_eq_true, if_false, replaceNote_append n old after before others]

theorem offerNote_replaces (c : Chc) (n : Note) {before after : List Frame} {old : Note}
    (queue : c.queue = before ++ .note old :: after) (plain : before.any Frame.isNote = false) :
    c.offerNote n = { c with queue := before ++ .note n :: after } := by
  have held : c.queue.any Frame.isNote = true := by simp [queue, Frame.isNote]
  rw [Chc.offerNote, if_pos held, queue, replaceNote_append n old after before plain]

theorem offerNote_joins (c : Chc) (n : Note) (plain : c.queue.any Frame.isNote = false) (room : c.queue.length < 4) :
    c.offerNote n = { c with queue := c.queue ++ [.note n] } := by
  rw [Chc.offerNote, if_neg (by simp [plain]), if_pos (show c.queue.length < Config.transmitRoom from room)]

theorem offerNote_dropped (c : Chc) (n : Note) (plain : c.queue.any Frame.isNote = false) (full : 4 ≤ c.queue.length) :
    c.offerNote n = c := by
  rw [Chc.offerNote, if_neg (by simp [plain]), if_neg (show ¬ c.queue.length < Config.transmitRoom from full.not_gt)]

theorem exec_noteDelayExpiry_due (env : Env) {s : State} {e d : Nat} (hr : running s = true)
    (schedule : s.chc.schedule = .waiting e d true) :
    exec (.noteDelayExpiry env) s = .next (kick env (offerRegularNote s)) := by
  change execNoteDelayExpiry env s = _
  simp [execNoteDelayExpiry, done, hr, schedule]

/-- Settles O36. -/
theorem channelEvents : Obligations.ChannelEvents := by
  refine ⟨fun env s logic => ?_, fun c n => ?_, fun s => ?_⟩
  · have hr := running_of_logic logic
    refine ⟨fun n backoff => ?_, fun f air => ?_, fun h hold => ?_, fun e d schedule => ?_, fun e d schedule => ?_⟩
    · change execBackoffEnd env s = _
      simp [execBackoffEnd, done, hr, backoff, State.setChc]
    · change execTransmissionEnd env s = _
      simp [execTransmissionEnd, done, hr, air, State.setChc]
    · change execDiscoveryDelayExpiry env s = _
      simp [execDiscoveryDelayExpiry, done, hr, hold, sendReply_eq, State.setChc]
    · change execNoteDelayExpiry env s = _
      simp [execNoteDelayExpiry, done, hr, schedule, State.setChc]
    · rw [exec_noteDelayExpiry_due env hr schedule]
      simp only [offerRegularNote, composeNote_regular]
      refine ⟨fun plain room => ?_, fun plain full => ?_, fun old rest queue => ?_, rfl⟩
      · rw [offerNote_joins _ _ plain room]
        rfl
      · rw [offerNote_dropped _ _ plain full]
        rfl
      · rw [offerNote_replaces s.chc _ (before := []) queue rfl]
        rfl
  · exact ⟨fun before old after queue plain => offerNote_replaces c n queue plain, offerNote_joins c n, offerNote_dropped c n⟩
  · refine ⟨fun away => ?_, fun active light => ?_, fun e active dark episode => ?_, fun dark none => ?_⟩
    · simp [doorFlag, away]
    · simp [doorFlag, active, light]
    · simp [doorFlag, active, dark, episode]
    · simp [doorFlag, dark, none]

/-! ### Frames that leave no trace (R33 to R36, R48, R165) -/

theorem reaches_broadcast (a : PartyId) (env : Env) (s : State) : reaches ⟨a, true⟩ env s = false := by simp [reaches]

theorem reaches_of_undelivered {env : Env} {s : State} (req : Request) (lost : delivered env s = false) :
    reaches req env s = false := by simp [reaches, lost]

section
variable {req : Request} {env : Env} {s : State} (lost : reaches req env s = false) (fields : List Byte) (left : Leftover)
include lost

/-- A request that does not reach the request service changes nothing. -/
theorem exec_unreached (code : Option Byte) :
    exec (.unknownRequest req code fields env) s = .next s ∧
    exec (.commission req fields env) s = .next s ∧
    exec (.queryStatus req fields env) s = .next s ∧
    exec (.queryPeers req fields env) s = .next s ∧
    exec (.read req fields env) s = .next s ∧
    exec (.readOn req fields env) s = .next s ∧
    exec (.checkpoint req fields left env) s = .next s ∧
    exec (.conclude req fields left env) s = .next s := by
  have unmet : ¬ reaches req env s = true := by simp [lost]
  exact ⟨congrArg Host.Outcome.next (if_neg unmet), congrArg Host.Outcome.next (if_neg unmet),
    congrArg Host.Outcome.next (if_neg unmet), congrArg Host.Outcome.next (if_neg unmet),
    congrArg Host.Outcome.next (if_neg unmet), congrArg Host.Outcome.next (if_neg unmet),
    congrArg Host.Outcome.next (if_neg unmet), congrArg Host.Outcome.next (if_neg unmet)⟩

end

theorem undelivered {env : Env} {s : State}
    (lost : s.logic ≠ .running ∨ (∃ f, s.chc.transmitter = .onAir f) ∨ env.clipped = true) : delivered env s = false := by
  obtain stops | ⟨f, air⟩ | clipped := lost
  · simp [delivered, receiving, running, stops]
  · simp [delivered, receiving, air]
  · simp [delivered, clipped]

/-- Settles O37. -/
theorem discardedFramesLeaveNoTrace : Obligations.DiscardedFramesLeaveNoTrace := by
  refine ⟨fun a b level bytes fields code left env s => ⟨rfl, rfl, rfl, rfl,
      exec_unreached (reaches_broadcast a env s) fields left code⟩, fun req sender level bytes code left env s lost => ?_⟩
  have gone := undelivered lost
  refine ⟨congrArg Host.Outcome.next (if_neg ?_), congrArg Host.Outcome.next (if_neg ?_),
    exec_unreached (reaches_of_undelivered req gone) bytes left code⟩ <;> simp [gone]

/-! ### Requests that reach the request service (R165, R166) -/

theorem running_of_delivered {env : Env} {s : State} (h : delivered env s = true) : running s = true := by
  simp only [delivered, receiving, Bool.and_eq_true] at h
  exact h.1.1

theorem running_of_reaches {req : Request} {env : Env} {s : State} (h : reaches req env s = true) : running s = true := by
  simp only [reaches, Bool.and_eq_true] at h
  exact running_of_delivered h.1.1

section
variable {reader : PartyId} {code : Byte} {allowed : Bool} {go : State → State} {s : State}

theorem serve_busy (busy : serviceBusy s = true) : serve reader code allowed go s = refuse reader code .busy s := if_pos busy

theorem serve_allowed (idle : serviceBusy s = false) (ok : allowed = true) : serve reader code allowed go s = go s := by
  simp [serve, idle, ok]

theorem serve_denied (idle : serviceBusy s = false) (no : allowed = false) :
    serve reader code allowed go s = refuse reader code .state s := by
  simp [serve, idle, no]

end

section
variable {req : Request} {env : Env} {s : State} (reached : reaches req env s = true) {fields : List Byte} (left : Leftover)
include reached

theorem exec_commission_some {t : RawTerms} (parsed : parseCommission fields = some t) :
    exec (.commission req fields env) s = .next (settle env (serve req.reader codeCommission
      (s.eve.station == .blank && !s.rqs.spoilt) (fun s =>
        if t.clamped.acceptable then programByte req.reader t.clamped.programs false t.adjusted s
        else refuse req.reader codeCommission .terms s) s)) := by
  change execCommission req fields env s = _
  simp only [execCommission, done, reached, if_true, parsed]

theorem exec_queryStatus_one : exec (.queryStatus req [0x01] env) s = .next (settle env
    (serve req.reader codeQuery true (fun s => sendReply req.reader (.queryStatus (statusReply s)) s) s)) := by
  change execQueryStatus req [0x01] env s = _
  simp [execQueryStatus, done, reached, parseQuery]

theorem exec_queryPeers_two : exec (.queryPeers req [0x02] env) s = .next (settle env
    (serve req.reader codeQuery true (fun s => sendReply req.reader (.queryPeers (peersReply s)) s) s)) := by
  change execQueryPeers req [0x02] env s = _
  simp [execQueryPeers, done, reached, parseQuery]

theorem exec_read_some {l : Locator} (parsed : parseRead fields = some l) :
    exec (.read req fields env) s = .next (settle env (serve req.reader codeRead (readAllowed s) (fun s =>
      match startEpoch (journal s) l with
      | some start => beginFragment ⟨req.reader, start, l.stride, l.window, .unanchored⟩ (.read s.eve.station) s
      | none => refuse req.reader codeRead .range s) s)) := by
  change execRead req fields env s = _
  simp only [execRead, done, reached, if_true, parsed] <;> rfl

theorem exec_readOn_empty : exec (.readOn req [] env) s = .next (settle env
    (serve req.reader codeReadOn (readAllowed s) (fun s =>
      match s.rqs.cursor with
      | some c => if c.owner = req.reader then beginFragment c .readOn s else refuse req.reader codeReadOn .cursor s
      | none => refuse req.reader codeReadOn .cursor s) s)) := by
  change execReadOn req [] env s = _
  simp only [execReadOn, done, reached, if_true, List.isEmpty_nil] <;> rfl

theorem exec_checkpoint_empty : exec (.checkpoint req [] left env) s = .next (settle env
    (serve req.reader codeCheckpoint (s.eve.station == .active) (fun s =>
      if 32 ≤ s.rqs.checkpoints then refuse req.reader codeCheckpoint .limit s
      else if s.jst.condition = .journalFull then refuse req.reader codeCheckpoint .store s
      else takeCheckpoint req.reader left s) s)) := by
  change execCheckpoint req [] left env s = _
  simp only [execCheckpoint, done, reached, if_true, List.isEmpty_nil]

theorem exec_conclude_some {x : List Byte × List Byte} (parsed : parseConclude fields = some x) :
    exec (.conclude req fields left env) s = .next (settle env (serve req.reader codeConclude
      (s.eve.station == .dormant || s.eve.station == .active) (fun s =>
        if x.1 = s.cmr.reference then takeConclusion env req.reader x.2 left s
        else refuse req.reader codeConclude .mismatch s) s)) := by
  change execConclude req fields left env s = _
  simp only [execConclude, done, reached, if_true, parsed]

end

/-! ### Requests that are answered at once (R165 to R167) -/

/-- A request answered with a status, of a quiet station: the status joins the queue. -/
theorem settle_refuse (env : Env) (reader : PartyId) (code : Byte) (st : Status) {s : State} (hr : running s = true)
    (rests : quiet s = true) :
    settle env (refuse reader code st s) = kick env (replied reader (.status code st) s) := settle_reply env _ _ hr rests

theorem knownCode_eq_false {code : Byte} (unknown : code.toNat < 0x10 ∨ 0x16 < code.toNat) : knownCode code = false :=
  decide_eq_false (by omega)

theorem parseQuery_eq_none {fields : List Byte} (status : fields ≠ [0x01]) (peers : fields ≠ [0x02]) :
    parseQuery fields = none := by
  rw [parseQuery, if_neg status, if_neg peers]

theorem isEmpty_of_ne {fields : List Byte} (h : fields ≠ []) : fields.isEmpty = false := by simpa using h

theorem soundSender_of_ne {i : PartyId} (zero : i ≠ 0) (ones : i ≠ BitVec.allOnes 32) : soundSender i = true := by
  rw [soundSender, bne_iff_ne.mpr zero, bne_iff_ne.mpr ones]
  rfl

theorem exec_discover_sound {req : Request} {env : Env} {s : State} (deliver : delivered env s = true)
    (sound : soundSender req.reader = true) : exec (.discover req [] env) s = .next
      (if s.cmr.program = .none then holdDiscover env.discovery.val req.reader s
      else s.setRqs { s.rqs with discovers := s.rqs.discovers ++ [req.reader] }) := by
  change execDiscover req [] env s = _
  simp [execDiscover, done, deliver, sound]

/-- Settles O42. -/
theorem unknownRequestAndDiscover : Obligations.UnknownRequestAndDiscover := by
  refine ⟨fun req code fields env s reached rests unknown => ?_, fun req fields left env s reached rests => ?_,
    fun req fields env s deliver zero ones => ?_⟩
  · have hr := running_of_reaches reached
    have foreign : ¬ knownCode code = true := by simp [knownCode_eq_false unknown]
    refine congrArg Host.Outcome.next ((if_pos reached).trans ((if_neg foreign).trans ?_))
    exact settle_refuse env _ _ _ hr rests
  · have format (code : Byte) := settle_refuse env req.reader code .format (running_of_reaches reached) rests
    refine ⟨congrArg Host.Outcome.next ((if_pos reached).trans (format _)), fun status peers => ?_, fun some => ?_,
      fun unparsed => ?_, fun unparsed => ?_, fun unparsed => ?_⟩
    · have unparsed := parseQuery_eq_none status peers
      constructor
      · change execQueryStatus req fields env s = _
        simp only [execQueryStatus, done, reached, if_true, unparsed]
        exact congrArg Host.Outcome.next (format codeQuery)
      · change execQueryPeers req fields env s = _
        simp only [execQueryPeers, done, reached, if_true, unparsed]
        exact congrArg Host.Outcome.next (format codeQuery)
    · have filled := isEmpty_of_ne some
      constructor
      · change execReadOn req fields env s = _
        simp only [execReadOn, done, reached, if_true, filled, Bool.false_eq_true, if_false]
        exact congrArg Host.Outcome.next (format codeReadOn)
      · change execCheckpoint req fields left env s = _
        simp only [execCheckpoint, done, reached, if_true, filled, Bool.false_eq_true, if_false]
        exact congrArg Host.Outcome.next (format codeCheckpoint)
    · change execCommission req fields env s = _
      simp only [execCommission, done, reached, if_true, unparsed]
      exact congrArg Host.Outcome.next (format codeCommission)
    · change execRead req fields env s = _
      simp only [execRead, done, reached, if_true, unparsed]
      exact congrArg Host.Outcome.next (format codeRead)
    · change execConclude req fields left env s = _
      simp only [execConclude, done, reached, if_true, unparsed]
      exact congrArg Host.Outcome.next (format codeConclude)
  · have sound := soundSender_of_ne zero ones
    refine ⟨fun filled => ?_, fun busy => ?_, fun free => ?_⟩
    · change execDiscover req fields env s = _
      simp [execDiscover, done, filled]
    · rw [exec_discover_sound deliver sound, if_neg busy]
      rfl
    · rw [exec_discover_sound deliver sound, if_pos free]
      rfl

theorem readAllowed_iff {s : State} : readAllowed s = true ↔ s.eve.station ≠ .blank := by
  cases h : s.eve.station <;> simp [readAllowed, h]

/-- Settles O43. -/
theorem refusedRequestsNameTheirReason : Obligations.RefusedRequestsNameTheirReason := by
  refine ⟨fun req fields left env s reached rests taken => ?_, fun req fields left env s isFree rests => ?_⟩
  · have busy : serviceBusy s = true := by
      simpa [serviceBusy, Option.isSome_iff_ne_none] using taken
    have answer (code : Byte) := settle_refuse env req.reader code .busy (running_of_reaches reached) rests
    refine ⟨fun parsed => ?_, ?_, ?_, fun parsed => ?_, ?_, ?_, fun parsed => ?_⟩
    · obtain ⟨t, parsed⟩ := Option.isSome_iff_exists.mp parsed
      rw [exec_commission_some reached parsed, serve_busy busy]
      exact congrArg Host.Outcome.next (answer _)
    · rw [exec_queryStatus_one reached, serve_busy busy]
      exact congrArg Host.Outcome.next (answer _)
    · rw [exec_queryPeers_two reached, serve_busy busy]
      exact congrArg Host.Outcome.next (answer _)
    · obtain ⟨l, parsed⟩ := Option.isSome_iff_exists.mp parsed
      rw [exec_read_some reached parsed, serve_busy busy]
      exact congrArg Host.Outcome.next (answer _)
    · rw [exec_readOn_empty reached, serve_busy busy]
      exact congrArg Host.Outcome.next (answer _)
    · rw [exec_checkpoint_empty reached, serve_busy busy]
      exact congrArg Host.Outcome.next (answer _)
    · obtain ⟨x, parsed⟩ := Option.isSome_iff_exists.mp parsed
      rw [exec_conclude_some reached left parsed, serve_busy busy]
      exact congrArg Host.Outcome.next (answer _)
  · obtain ⟨reached, idle⟩ : reaches req env s = true ∧ serviceBusy s = false := by simpa [free] using isFree
    have answer (code : Byte) (st : Status) := settle_refuse env req.reader code st (running_of_reaches reached) rests
    obtain ⟨-, -, -, commission, read, conclude⟩ := unknownRequestAndDiscover.2.1 req fields left env s reached rests
    refine ⟨commission, fun t parsed away => ?_, fun t parsed blank clean terms => ?_, read, fun l parsed blank => ?_,
      fun l parsed station none => ?_, fun blank => ?_, fun station owner => ?_, fun away => ?_, fun active many => ?_,
      fun active few full => ?_, conclude, fun x parsed away => ?_, fun x parsed station other => ?_⟩
    · rw [exec_commission_some reached parsed, serve_denied idle (by
        obtain away | spoilt := away
        · simp [away]
        · simp [spoilt])]
      exact congrArg Host.Outcome.next (answer _ _)
    · rw [exec_commission_some reached parsed, serve_allowed idle (by simp [blank, clean])]
      simp only [terms, Bool.false_eq_true, if_false]
      exact congrArg Host.Outcome.next (answer _ _)
    · rw [exec_read_some reached parsed, serve_denied idle (by simp [readAllowed, blank])]
      exact congrArg Host.Outcome.next (answer _ _)
    · rw [exec_read_some reached parsed, serve_allowed idle (readAllowed_iff.mpr station)]
      simp only [none]
      exact congrArg Host.Outcome.next (answer _ _)
    · rw [exec_readOn_empty reached, serve_denied idle (by simp [readAllowed, blank])]
      exact congrArg Host.Outcome.next (answer _ _)
    · rw [exec_readOn_empty reached, serve_allowed idle (readAllowed_iff.mpr station)]
      cases cursor : s.rqs.cursor with
      | none => exact congrArg Host.Outcome.next (answer _ _)
      | some c =>
        simp only [owner c cursor, if_false]
        exact congrArg Host.Outcome.next (answer _ _)
    · rw [exec_checkpoint_empty reached, serve_denied idle (by simp [away])]
      exact congrArg Host.Outcome.next (answer _ _)
    · rw [exec_checkpoint_empty reached, serve_allowed idle (by simp [active])]
      simp only [many, if_true]
      exact congrArg Host.Outcome.next (answer _ _)
    · have few' : ¬ 32 ≤ s.rqs.checkpoints := by omega
      rw [exec_checkpoint_empty reached, serve_allowed idle (by simp [active])]
      simp only [few', full, if_true, if_false]
      exact congrArg Host.Outcome.next (answer _ _)
    · rw [exec_conclude_some reached left parsed, serve_denied idle (by
        obtain blank | concluded := away
        · simp [blank]
        · simp [concluded])]
      exact congrArg Host.Outcome.next (answer _ _)
    · rw [exec_conclude_some reached left parsed, serve_allowed idle (by
        obtain dormant | active := station
        · simp [dormant]
        · simp [active])]
      simp only [other, if_false]
      exact congrArg Host.Outcome.next (answer _ _)

/-! ### COMMISSION (R168, R169) -/

theorem clampInt_eq_max_min {lo hi : Int} (range : lo ≤ hi) (x : Int) : clampInt lo hi x = max lo (min hi x) := by
  obtain below | inside := lt_or_ge x lo
  · rw [clampInt_of_lt below]
    omega
  · obtain above | inside' := lt_or_ge hi x
    · rw [clampInt_of_gt range above]
      omega
    · rw [clampInt_of_mem inside inside']
      omega

/-- The class is programmed first, and the commit byte last. -/
theorem RawTerms.programs_cons (t : RawTerms) : ∃ rest, t.programs = (0, BitVec.ofNat 8 t.cls) :: rest ∧
    rest.getLast? = some (45, 0x00) := by
  obtain ⟨others, bytes⟩ : ∃ others, t.bytes = BitVec.ofNat 8 t.cls :: others :=
    ⟨_, by simp [RawTerms.bytes, beBytes]; rfl⟩
  refine ⟨((List.range others.length).map Nat.succ).zip others ++ [(commitAddress, 0x00)], ?_, ?_⟩
  · rw [RawTerms.programs, bytes, List.length_cons, List.range_succ_eq_map]
    rfl
  · rw [List.getLast?_concat]
    rfl

theorem clampLength_spec (l : Nat) : (l < 15 → clampLength l = 15) ∧ (600 < l → clampLength l = 600) ∧
    (15 ≤ l → l ≤ 600 → 15 ∣ clampLength l ∧ clampLength l ≤ l ∧ l < clampLength l + 15) := by
  unfold clampLength
  refine ⟨fun short => if_pos short, fun long => ?_, fun lo hi => ?_⟩
  · rw [if_neg (by omega), if_pos long]
  · rw [if_neg (by omega), if_neg (by omega)]
    exact ⟨Dvd.intro_left _ rfl, by omega, by omega⟩

theorem map_fst_adjusted_pairwise (t : RawTerms) : (t.adjusted.map Prod.fst).Pairwise (· < ·) := by
  have sub : (t.adjusted.map Prod.fst).Sublist [1, 2, 3, 4, 5, 6, 7, 8, 9, 10] := by
    have one {p : Prop} [Decidable p] (n : Nat) (v : Int) :
        ((if p then [] else [(n, v)] : List (Nat × Int)).map Prod.fst).Sublist [n] := by
      split
      · exact List.nil_sublist _
      · exact List.Sublist.refl _
    unfold RawTerms.adjusted
    simp only [List.map_append]
    exact (((((((((one ..).append (one ..)).append (one ..)).append (one ..)).append (one ..)).append (one ..)).append
      (one ..)).append (one ..)).append (one ..)).append (one ..)
  exact List.Pairwise.sublist sub (by decide)

theorem mem_adjusted (t : RawTerms) (code : Nat) (value : Int) :
    let c := t.clamped
    (code, value) ∈ t.adjusted ↔
      code = 1 ∧ c.upper ≠ t.upper ∧ value = c.upper ∨
      code = 2 ∧ c.lower ≠ t.lower ∧ value = c.lower ∨
      code = 3 ∧ c.ceiling ≠ t.ceiling ∧ value = c.ceiling ∨
      code = 4 ∧ c.floor ≠ t.floor ∧ value = c.floor ∨
      code = 5 ∧ c.budget ≠ t.budget ∧ value = c.budget * 64 ∨
      code = 6 ∧ c.allowance ≠ t.allowance ∧ value = c.allowance * 64 ∨
      code = 7 ∧ c.gap ≠ t.gap ∧ value = c.gap ∨
      code = 8 ∧ c.length ≠ t.length ∧ value = c.length ∨
      code = 9 ∧ c.delay ≠ t.delay ∧ value = c.delay ∨
      code = 10 ∧ c.link ≠ t.link ∧ value = c.link := by
  have one {p : Prop} [Decidable p] (n : Nat) (v : Int) :
      (code, value) ∈ (if p then [] else [(n, v)] : List (Nat × Int)) ↔ code = n ∧ ¬ p ∧ value = v := by
    split <;> simp [*]
  simp only [RawTerms.adjusted, List.mem_append, one, or_assoc, Nat.cast_mul, Nat.cast_ofNat, ne_eq]

/-- No request in service, or a commissioning's. -/
def plainService : Option Service → Bool
  | none => true
  | some (.commission _ _ _ _) => true
  | some (.opening _ _) => true
  | _ => false

/-- The journal store's own part of `quiet`. -/
def arrayRests (j : Jst) : Bool :=
  j.access != .none || (j.wantOpen.isNone && j.queue.isEmpty && (j.frozen || j.job.stopped ||
    (j.job.suspended.isNone && j.job.phase == .none && j.job.cleanup.isNone)))

/-- With a plain service `quiet` is about the journal store's state alone. -/
theorem quiet_plain {s : State} (plain : plainService s.rqs.service = true) : quiet s = arrayRests s.jst := by
  have clear : checkpointRests s = true ∧ serviceRests s.rqs.service = true ∧ serviceClear s = true := by
    unfold plainService at plain
    split at plain
    · rename_i service
      simp [checkpointRests, serviceRests, serviceClear, service]
    · rename_i service
      simp [checkpointRests, serviceRests, serviceClear, service]
    · rename_i service
      simp [checkpointRests, serviceRests, serviceClear, service]
    · cases plain
  cases access : s.jst.access == .none <;> cases queue : s.jst.queue.isEmpty <;>
    simp [quiet, arrayRests, jobRests, clearForJob, arrayFree, clear, access, queue, bne]

/-- Between plain services `quiet` follows the journal store's state. -/
theorem quiet_of_plain {s t : State} (before : plainService s.rqs.service = true)
    (after : plainService t.rqs.service = true) (jst : t.jst = s.jst) : quiet t = quiet s := by
  rw [quiet_plain before, quiet_plain after, jst]

/-- Settles O44. -/
theorem commissionBeginsPrograms : Obligations.CommissionBeginsPrograms := by
  refine ⟨fun req fields env t s isFree rests blank clean parsed ok => ?_, fun t => ?_⟩
  · obtain ⟨reached, idle⟩ : reaches req env s = true ∧ serviceBusy s = false := by simpa [free] using isFree
    obtain ⟨rest, programs, last⟩ := RawTerms.programs_cons t.clamped
    refine ⟨rest, programs, last, ?_⟩
    rw [exec_commission_some reached parsed, serve_allowed idle (by simp [blank, clean])]
    simp only [ok, if_true, programs]
    have unserved : s.rqs.service = none := (free_of_serviceBusy idle).1
    have before : plainService s.rqs.service = true := by rw [unserved]; rfl
    have still : quiet (programByte req.reader ((0, BitVec.ofNat 8 t.cls) :: rest) false t.adjusted s) = true :=
      (quiet_of_plain (t := programByte ..) before rfl rfl).trans rests
    exact congrArg Host.Outcome.next (settle_quiet env (running_of_reaches reached) still)
  · refine ⟨rfl, clampInt_eq_max_min (by decide) _, clampInt_eq_max_min (by decide) _, clampInt_eq_max_min (by decide) _,
      clampInt_eq_max_min (by decide) _, rfl, rfl, rfl, rfl, clampInt_eq_max_min (by decide) _, rfl,
      (clampLength_spec t.length).1, (clampLength_spec t.length).2.1, (clampLength_spec t.length).2.2, decide_eq_true_iff,
      map_fst_adjusted_pairwise t, fun code value => mem_adjusted t code value⟩

/-! ### QUERY (R71, R146, R172) -/

theorem blankCount_eq_zero_iff (s : State) : blankCount s = 0 ↔ ∀ i, i < 32 → statusAt s i ≠ .blank := by
  simp [blankCount, Config.segments]

/-- Settles O46. -/
theorem queriesChangeNothing : Obligations.QueriesChangeNothing := by
  refine ⟨fun s => ?_, fun req env s isFree rests => ?_⟩
  · refine ⟨?_, ?_, ?_, ?_, ?_, fun stopped => if_pos stopped, fun goes => ?_, fun away => ?_, fun concluded => ?_⟩
    · cases h : s.eve.station <;> cases k : s.rqs.spoilt <;> simp [reportedState, h, k]
    · cases h : s.eve.station <;> cases k : s.rqs.spoilt <;> simp [reportedState, h, k]
    · cases h : s.eve.station <;> cases k : s.rqs.spoilt <;> simp [reportedState, h, k]
    · cases h : s.eve.station <;> cases k : s.rqs.spoilt <;> simp [reportedState, h, k]
    · cases h : s.eve.station <;> cases k : s.rqs.spoilt <;> simp [reportedState, h, k]
    · refine ⟨fun none clean => ?_, fun none dirty => ?_, fun h => ?_, fun h => ?_, fun h => ?_, fun h => ?_, fun h => ?_,
        fun h => ?_⟩
      · simp [reportedPhase, goes, none, clean]
      · simp [reportedPhase, goes, none, Option.isSome_iff_ne_none, dirty]
      all_goals simp [reportedPhase, goes, h]
    · simp [reportedFull, away]
    · simp [reportedFull, concluded, blankCount_eq_zero_iff]
  · obtain ⟨reached, idle⟩ : reaches req env s = true ∧ serviceBusy s = false := by simpa [free] using isFree
    have hr := running_of_reaches reached
    constructor
    · rw [exec_queryStatus_one reached, serve_allowed idle rfl]
      exact congrArg Host.Outcome.next (settle_reply env _ _ hr rests)
    · rw [exec_queryPeers_two reached, serve_allowed idle rfl]
      exact congrArg Host.Outcome.next (settle_reply env _ _ hr rests)

/-! ### The byte programs of a commissioning (R46, R167, R169 to R171) -/

theorem foldl_holdDiscover (slots : Nat) (last : PartyId) : ∀ (readers : List PartyId) (s : State),
    (readers ++ [last]).foldl (fun s reader => holdDiscover slots reader s) s = holdDiscover slots last s
  | [], _ => rfl
  | reader :: readers, s => foldl_holdDiscover slots last readers (holdDiscover slots reader s)

theorem answerDiscovers_eq (env : Env) (s : State) : answerDiscovers env s = answered env s := by
  unfold answerDiscovers answered
  obtain none | ⟨readers, last, waiting⟩ := List.eq_nil_or_concat s.rqs.discovers
  · simp only [none, List.getLast?_nil, List.foldl_nil]
    rw [← none]
    rfl
  · rw [waiting, List.concat_eq_append, foldl_holdDiscover, List.getLast?_concat]
    rfl

theorem quiet_answered (env : Env) (s : State) : quiet (answered env s) = quiet s := by
  unfold answered
  split
  · rfl
  · exact quiet_congr rfl rfl rfl rfl

theorem answered_jst (env : Env) (s : State) : (answered env s).jst = s.jst := by
  unfold answered
  split <;> rfl

theorem answered_setJst (env : Env) (j : Jst) {s : State} :
    answered env (s.setJst j) = (answered env s).setJst j := by
  unfold answered
  rw [State.setJst_rqs]
  cases s.rqs.discovers.getLast? <;> rfl

/-- A command that ends with the DISCOVERs answered, of a state in which nothing waits for the array. -/
theorem settle_answered (env : Env) {s : State} (hr : running s = true) (rests : quiet s = true) :
    settle env (answerDiscovers env s) = kick env (answered env s) := by
  rw [answerDiscovers_eq]
  refine settle_quiet env ?_ ((quiet_answered env s).trans rests)
  unfold answered
  split <;> exact hr

/-- The state after the program of a commission byte, before what follows it. -/
def byteEnded (a : Nat) (v miss : Byte) (s : State) : State :=
  s.setCmr { s.cmr with consignment := Memory.program s.cmr.consignment a v miss, program := .none }

theorem exec_commissionByteProgrammed (miss : Byte) (env : Env) {a : Nat} {v : Byte} {reader : PartyId}
    {todo : List (Nat × Byte)} {again : Bool} {adjusted : List (Nat × Int)} {s : State} (hr : running s = true)
    (program : s.cmr.program = .commissionByte a v) (service : s.rqs.service = some (.commission reader todo again adjusted)) :
    exec (.commissionByteProgrammed miss env) s = .next (settle env (answerDiscovers env
      (if byteTaken (byteEnded a v miss s).cmr a v then
        match todo.tail with
        | [] => completeCommission reader adjusted (byteEnded a v miss s)
        | next => programByte reader next false adjusted (byteEnded a v miss s)
      else if again then
        complete reader (.status codeCommission .store)
          ((byteEnded a v miss s).setRqs { (byteEnded a v miss s).rqs with spoilt := true })
      else programByte reader todo true adjusted (byteEnded a v miss s)))) := by
  change execCommissionByteProgrammed miss env s = _
  simp only [execCommissionByteProgrammed, done, hr, program, service] <;> rfl

/-- A commission byte reads back as composed, the commit byte once any part of it is programmed. -/
theorem byteTaken_iff (c : Cmr) (a : Nat) (v : Byte) :
    byteTaken c a v = true ↔ (a ≠ 45 ∧ c.byte a = v) ∨ (a = 45 ∧ c.byte a ≠ 0xFF) := by
  unfold byteTaken Cmr.markSet
  rw [show commitAddress = 45 from rfl]
  split
  · rename_i commit
    simp [commit, erasedByte]
  · rename_i term
    simp [term]

theorem not_taken {c : Cmr} {a : Nat} {v : Byte} (missed : a ≠ 45 ∧ c.byte a ≠ v ∨ a = 45 ∧ c.byte a = 0xFF) :
    ¬ byteTaken c a v = true := by
  rw [byteTaken_iff]
  obtain ⟨term, other⟩ | ⟨commit, clear⟩ := missed
  · simp [term, other]
  · subst commit
    simp [clear]

/-- With a start delay the station is DORMANT and the reply stands (R20, R170). -/
theorem completeCommission_delayed (reader : PartyId) (adjusted : List (Nat × Int)) {s : State} (delayed : 0 < s.cmr.startDelay) :
    completeCommission reader adjusted s = replied reader (.commission .dormant adjusted) { s with
      ret := { s.ret with
        schedule := .listening
        epoch := 0
        quarter := 1
        position := 0
        countdown := .counting s.cmr.startDelay 0
        restarts := 0
        cause := .none
        expiredStopped := false
        firstEpoch := 0 }
      tmb := { s.tmb with stall := some 480 }
      eve := .initial .dormant 0
      ptb := .initial
      rqs := { s.rqs with service := none, checkpoints := 0 } } := by
  have late : ¬ s.cmr.startDelay = 0 := by omega
  simp only [completeCommission, Retention.commissioned, if_neg late, complete, sendReply_eq]
  rfl

/-- Without one the station is ACTIVE, and its OPEN segment is asked for (R61, R170). -/
theorem completeCommission_atOnce (reader : PartyId) (adjusted : List (Nat × Int)) {s : State} (atOnce : s.cmr.startDelay = 0) :
    completeCommission reader adjusted s = State.setJst { s with
      ret := s.ret.commissioned 0
      tmb := { s.tmb with stall := some (8 * s.cmr.epochLength) }
      eve := .initial .active 0
      ptb := .initial
      rqs := { s.rqs with service := some (.opening reader adjusted), checkpoints := 0 } }
      { s.jst with wantOpen := some .commissioning } := by
  simp only [completeCommission, atOnce, if_true]
  rfl

/-- Settles O45. -/
theorem commissionBytesFollow : Obligations.CommissionBytesFollow := by
  intro miss env a v reader todo again adjusted s logic rests program service
  have hr := running_of_logic logic
  have before : plainService s.rqs.service = true := by rw [service]; rfl
  have still (t : State) (after : plainService t.rqs.service = true) (jst : t.jst = s.jst) : quiet t = true :=
    (quiet_of_plain before after jst).trans rests
  have ended := exec_commissionByteProgrammed miss env hr program service
  refine ⟨fun b w more term same next => ?_, fun missed first => ?_, fun missed second => ?_, fun commit last set =>
    ⟨fun delayed => ?_, fun atOnce => ?_⟩⟩
  · have taken := (byteTaken_iff (byteEnded a v miss s).cmr a v).mpr (.inl ⟨term, same⟩)
    rw [ended, if_pos taken, List.tail_cons, next]
    exact congrArg Host.Outcome.next (settle_answered env (s := programByte ..) hr (still _ rfl rfl))
  · rw [ended, if_neg (not_taken missed), first, if_neg (by decide)]
    refine (congrArg Host.Outcome.next (settle_answered env (s := programByte reader ((a, v) :: todo) true adjusted (byteEnded a v miss s)) hr
      (still _ rfl rfl))).trans ?_
    exact congrArg (fun p => Host.Outcome.next (kick env (answered env { s with
      rqs := { s.rqs with service := some (.commission reader ((a, v) :: todo) true adjusted) }
      cmr := { s.cmr with consignment := Memory.program s.cmr.consignment a v miss, program := p } }))) program.symm
  · rw [ended, if_neg (not_taken missed), second, if_pos rfl, complete, sendReply_eq]
    exact congrArg Host.Outcome.next (settle_answered env (s := replied ..) hr (still _ rfl rfl))
  · have taken := (byteTaken_iff (byteEnded a v miss s).cmr a v).mpr (.inr ⟨commit, set⟩)
    rw [ended, if_pos taken, List.tail_cons, last]
    dsimp only
    rw [completeCommission_delayed reader adjusted (s := byteEnded a v miss s) delayed]
    exact congrArg Host.Outcome.next (settle_answered env (s := replied ..) hr (still _ rfl rfl))
  · have taken := (byteTaken_iff (byteEnded a v miss s).cmr a v).mpr (.inr ⟨commit, set⟩)
    rw [ended, if_pos taken, List.tail_cons, last]
    dsimp only
    rw [completeCommission_atOnce reader adjusted (s := byteEnded a v miss s) atOnce]
    refine ⟨_, rfl, ?_⟩
    rw [answerDiscovers_eq, answered_setJst]
    refine SameCore.trans ?_ (settle_core env _)
    refine (Kept.setJst _ _ ?_).1
    rw [answered_jst]
    rfl

end Sys2Proof.Machine

/-! Stops of the logic (R16, R23, R24, R48, R123). -/

namespace Sys2Proof.Machine

/-! ### What an interrupted access and a dropped step leave (R123, R143) -/

theorem putPage_setStore (slots : List Slot) (s : State) : ∃ g, putPage slots s = s.setStore g := by
  unfold putPage
  split
  · exact ⟨_, rfl⟩
  · exact ⟨s.store, rfl⟩

theorem interruptAccess_setStore (left : Leftover) (s : State) :
    interruptAccess left s = s.setStore (interruptAccess left s).store := by
  obtain ⟨g, eq⟩ : ∃ g, interruptAccess left s = s.setStore g := by
    unfold interruptAccess
    split
    case h_2 => split <;> exact ⟨_, rfl⟩
    case h_3 => split <;> exact ⟨_, rfl⟩
    case h_5 => exact putPage_setStore ..
    case h_6 => split <;> exact ⟨_, rfl⟩
    all_goals exact ⟨_, rfl⟩
  rw [eq]
  rfl

theorem interruptAccess_setRet (left : Leftover) (r : Retention) (s : State) :
    interruptAccess left (s.setRet r) = (interruptAccess left s).setRet r := by
  unfold interruptAccess
  simp only [State.setRet_jst]
  cases s.jst.access with
  | entry i n => cases s.jst.queue <;> rfl
  | alloc why i f => cases left.header <;> rfl
  | pageProgram =>
    simp only [putPage, State.setRet_jst]
    cases s.jst.job.targetSeg <;> rfl
  | commitMark => cases s.jst.job.targetSeg <;> rfl
  | _ => rfl

theorem dropSuspended_eq (left : Leftover) (s : State) : dropSuspended left s =
    (s.setStore (dropSuspended left s).store).setJst { s.jst with job := { s.jst.job with suspended := none } } := by
  obtain ⟨g, eq⟩ : ∃ g, dropSuspended left s =
      (s.setStore g).setJst { s.jst with job := { s.jst.job with suspended := none } } := by
    unfold dropSuspended
    split
    case h_1 =>
      obtain ⟨g, page⟩ := putPage_setStore (leftSlots (jobPage s) left.page) s
      rw [page]
      exact ⟨g, rfl⟩
    all_goals exact ⟨_, rfl⟩
  rw [eq]
  rfl

theorem dropSuspended_setRet (left : Leftover) (r : Retention) (s : State) :
    dropSuspended left (s.setRet r) = (dropSuspended left s).setRet r := by
  unfold dropSuspended
  simp only [State.setRet_jst]
  cases s.jst.job.suspended with
  | none => rfl
  | some step =>
    cases step with
    | page =>
      simp only [putPage, State.setRet_jst]
      cases s.jst.job.targetSeg <;> rfl
    | _ => rfl

/-- What a stop leaves of the access in progress and of the suspended step. -/
theorem dropSuspended_interruptAccess (left : Leftover) (s : State) : dropSuspended left (interruptAccess left s) =
    (s.setStore (dropSuspended left (interruptAccess left s)).store).setJst
      { s.jst with job := { s.jst.job with suspended := none } } := by
  obtain ⟨g, eq⟩ : ∃ g, interruptAccess left s = s.setStore g := ⟨_, interruptAccess_setStore left s⟩
  rw [eq]
  exact dropSuspended_eq left (s.setStore g)

/-- The state after the logic has stopped, but for the cause. -/
theorem stopLogic_eq (left : Leftover) (s : State) : stopLogic left s = { s with
    logic := .stopped
    chc := .initial
    store := (dropSuspended left (interruptAccess left s)).store
    jst := { s.jst with access := .none, job := { s.jst.job with suspended := none } }
    cmr := { s.cmr with consignment := (interruptProgram left.bits s).cmr.consignment, program := .none } } := by
  unfold stopLogic
  dsimp only
  have dropped := dropSuspended_interruptAccess left s
  generalize dropSuspended left (interruptAccess left s) = d at dropped ⊢
  generalize d.store = g at dropped ⊢
  rw [dropped, interruptProgram_eq, interruptProgram_eq]
  rfl

theorem latchCause_eq (cause : PendingCause) (s : State) : latchCause cause s =
    s.setRet { s.ret with cause := if s.ret.cause = .none then cause else s.ret.cause } := by
  unfold latchCause
  by_cases pending : s.ret.cause = .none
  · simp only [pending, if_true]
  · simp only [pending, if_false]
    rfl

/-- A stop with its cause. -/
theorem stopLogic_latchCause (left : Leftover) (cause : PendingCause) (s : State) : stopLogic left (latchCause cause s) =
    (stopLogic left s).setRet { s.ret with cause := if s.ret.cause = .none then cause else s.ret.cause } := by
  rw [latchCause_eq, stopLogic_eq, stopLogic_eq, interruptAccess_setRet, dropSuspended_setRet, interruptProgram_eq,
    interruptProgram_eq]
  rfl

theorem exec_retentionLoss_stopped (left : Leftover) {s : State} (stopped : s.logic = .stopped) :
    exec (.retentionLoss left) s =
      .next { s with ret := Config.lostRetention s.free, retValid := false, free := s.free + 1 } := by
  change execRetentionLoss left s = _
  rw [execRetentionLoss, if_pos stopped]
  rfl

/-- Settles O22. -/
theorem stopsLatchTheirCause : Obligations.StopsLatchTheirCause := by
  refine ⟨fun left s => ⟨fun runs => ?_, fun logic out => ?_, fun more => ?_, fun runs => ?_, fun stopped => ⟨?_, ?_⟩⟩,
    fun left s => ⟨fun undropped => ?_, fun free => ?_⟩, fun bits s => ?_⟩
  · change execBrownout left s = _
    rw [execBrownout, if_neg runs, stopLogic_latchCause, stopLogic_eq]
    rfl
  · change execStallExpiry left s = _
    rw [execStallExpiry, if_pos (by simp [running, logic, out]), stopLogic_latchCause, stopLogic_eq]
    rfl
  · change execStallExpiry left s = _
    rw [execStallExpiry, if_neg (by simp [more])]
    rfl
  · change execRetentionLoss left s = _
    rw [execRetentionLoss, if_neg runs, stopLogic_eq]
    rfl
  · exact congrArg Host.Outcome.next (if_pos stopped)
  · exact exec_retentionLoss_stopped left stopped
  · have store : (dropSuspended left (interruptAccess left s)).store = (interruptAccess left s).store := by
      rw [interruptAccess_setStore]
      simp only [dropSuspended, State.setStore_jst, undropped]
      rfl
    rw [store]
    unfold interruptAccess
    refine ⟨fun idle => ?_, fun i n e rest access queue => ?_, fun why i f access => ?_, fun t q access target => ?_,
      fun t q access target => ?_, fun i access => ?_, fun i access => ?_, fun i access => ?_⟩
    · obtain access | access := idle <;> simp only [access]
    · simp only [access, queue]
      rfl
    · simp only [access]
      cases left.header <;> rfl
    · simp only [access, putPage, Job.targetSeg, target]
      rfl
    · simp only [access, Job.targetSeg, target]
      rfl
    · simp only [access]
      rfl
    · simp only [access]
      rfl
    · obtain access | access | access := access <;> simp only [access] <;> rfl
  · have still : interruptAccess left s = s := by simp only [interruptAccess, free]
    rw [still]
    unfold dropSuspended
    refine ⟨fun t q step target => ?_, fun i step => ?_⟩
    · simp only [step, putPage, Job.targetSeg, target]
      rfl
    · obtain step | step := step <;> simp only [step] <;> rfl
  · rw [interruptProgram_eq]
    unfold interrupted
    refine ⟨fun program => ?_, fun v program => ?_, fun a v program => ?_, fun program => ?_, fun i a bs program => ?_⟩
    all_goals
      simp only [program]
      rfl

end Sys2Proof.Machine

/-! Notes taken into the peer table (R51 to R55), and light: the latch, the episode and its DOOR entries (R45, R73 to R81). -/

namespace Sys2Proof.Machine

/-! ### The record of a sender (R52 to R54) -/

theorem withoutPeer_split {before after : List Peer} {p : Peer} (apart : ∀ x ∈ before ++ after, x.id ≠ p.id) :
    withoutPeer p.id (before ++ p :: after) = before ++ after := by
  have stays (ps : List Peer) (sub : ∀ x ∈ ps, x ∈ before ++ after) : ps.filter (fun x => x.id != p.id) = ps :=
    List.filter_eq_self.mpr fun x hx => by simpa using apart x (sub x hx)
  unfold withoutPeer
  rw [List.filter_append, List.filter_cons_of_neg (by simp), stays before fun x hx => List.mem_append_left _ hx,
    stays after fun x hx => List.mem_append_right _ hx]

theorem find_sender {before after : List Peer} {p : Peer} (apart : ∀ x ∈ before ++ after, x.id ≠ p.id) :
    (before ++ p :: after).find? (fun x => x.id == p.id) = some p := by
  rw [List.find?_append, List.find?_eq_none.mpr fun x hx => by simpa using apart x (List.mem_append_left _ hx)]
  simp

theorem find_unknown {ps : List Peer} {sender : PartyId} (unknown : ∀ x ∈ ps, x.id ≠ sender) :
    ps.find? (fun x => x.id == sender) = none :=
  List.find?_eq_none.mpr fun x hx => by simpa using unknown x hx

section
variable (level : Int) (n : Note)

theorem peersAfter_known {before after : List Peer} {p : Peer} (apart : ∀ x ∈ before ++ after, x.id ≠ p.id) :
    peersAfter (before ++ p :: after) p.id level n = before ++ after ++ [p.take level n] := by
  simp only [peersAfter, find_sender apart, withoutPeer_split apart]

variable {ps : List Peer} {sender : PartyId} (unknown : ∀ x ∈ ps, x.id ≠ sender)
include unknown

theorem peersAfter_new (room : ps.length < 12) : peersAfter ps sender level n = ps ++ [.create sender level n] := by
  simp only [peersAfter, find_unknown unknown]
  exact if_pos room

theorem peersAfter_full (full : ps.length = 12) : peersAfter ps sender level n = match replaceable ps with
    | some old => withoutPeer old.id ps ++ [.create sender level n]
    | none => ps := by
  have noRoom : ¬ ps.length < Config.peerRoom := by simp [full, Config.peerRoom]
  simp only [peersAfter, find_unknown unknown, noRoom, if_false] <;> rfl

end

/-- The least recent of the records of lowest score. -/
theorem lowestScore_split {old : Peer} {after : List Peer} (later : ∀ x ∈ after, hearingScore old ≤ hearingScore x) :
    ∀ before : List Peer, (∀ x ∈ before, hearingScore old < hearingScore x) →
      lowestScore (before ++ old :: after) = some old
  | [], _ => by
    simp only [List.nil_append, lowestScore]
    split
    · rename_i q lowest
      exact if_neg (later q (lowestScore_mem lowest)).not_gt
    · rfl
  | x :: before, earlier => by
    have rest := lowestScore_split later before fun y hy => earlier y (List.mem_cons_of_mem _ hy)
    simp only [List.cons_append, lowestScore, rest]
    exact if_pos (earlier x List.mem_cons_self)

theorem lowestScore_filter {before after : List Peer} {old : Peer}
    (chosen : (∀ x ∈ before, x.state = old.state → hearingScore old < hearingScore x) ∧
      (∀ x ∈ after, x.state = old.state → hearingScore old ≤ hearingScore x)) :
    lowestScore ((before ++ old :: after).filter fun p => p.state == old.state) = some old := by
  rw [List.filter_append, List.filter_cons_of_pos (by simp)]
  refine lowestScore_split (fun x hx => ?_) _ fun x hx => ?_
  · obtain ⟨mem, same⟩ := List.mem_filter.mp hx
    exact chosen.2 x mem (by simpa using same)
  · obtain ⟨mem, same⟩ := List.mem_filter.mp hx
    exact chosen.1 x mem (by simpa using same)

/-- The record a newcomer replaces: a LAPSING one, or a HEARD one where none is LAPSING. -/
theorem replaceable_split {before after : List Peer} {old : Peer}
    (chosen : (∀ x ∈ before, x.state = old.state → hearingScore old < hearingScore x) ∧
      (∀ x ∈ after, x.state = old.state → hearingScore old ≤ hearingScore x))
    (which : old.state = .lapsing ∨ old.state = .heard ∧ ∀ x ∈ before ++ old :: after, x.state ≠ .lapsing) :
    replaceable (before ++ old :: after) = some old := by
  have lowest := lowestScore_filter chosen
  obtain lapsing | ⟨heard, none⟩ := which
  · rw [lapsing] at lowest
    simp only [replaceable, lowest]
  · have empty : (before ++ old :: after).filter (fun p => p.state == .lapsing) = [] :=
      List.filter_eq_nil_iff.mpr fun x hx => by simpa using none x hx
    rw [heard] at lowest
    simp only [replaceable, empty, lowest, lowestScore]

theorem replaceable_none {ps : List Peer} (near : ∀ x ∈ ps, x.state = .coLocated) : replaceable ps = none := by
  have empty (st : PeerState) (other : st ≠ .coLocated) : ps.filter (fun p => p.state == st) = [] :=
    List.filter_eq_nil_iff.mpr fun x hx => by simp [near x hx, other.symm]
  simp only [replaceable, empty .lapsing (by decide), empty .heard (by decide), lowestScore]

/-! ### A note and its sender (R34 to R36, R48, R51, R55) -/

/-- The score that R54 compares, as the statement writes it. -/
theorem hearingScore_eq (p : Peer) : hearingScore p = (p.history.filter id).length + (if p.heard = true then 1 else 0) := by
  cases h : p.heard <;> simp [hearingScore, hearingCount, h]

theorem noteAccepted_iff (s : State) (sender : PartyId) (level : Int) (n : Note) : noteAccepted s sender level n = true ↔
    sender ≠ s.cmr.stationId ∧ n.cls = s.cmr.cls ∧ s.cmr.linkThreshold ≤ level ∧ s.ptb.viewTaken = false ∧
      opening s = false := by
  simp [noteAccepted, and_assoc]

/-- A delivered note that parses, in DORMANT or ACTIVE, goes to the peer table. -/
theorem exec_chillNote {sender : PartyId} {level : Int} {payload : List Byte} {env : Env} {n : Note} {s : State}
    (deliver : delivered env s = true) (sound : soundSender sender = true)
    (station : s.eve.station = .dormant ∨ s.eve.station = .active) (parsed : parseNote payload = some n) :
    exec (.chillNote sender level payload env) s = .next (kick env (takeNote sender (noteLevel level) n s)) := by
  have inTrip : (s.eve.station == .dormant || s.eve.station == .active) = true := by
    simpa using station
  change execChillNote sender level payload env s = _
  simp only [execChillNote, done, deliver, sound, inTrip, Bool.and_self, if_true, parsed]

theorem takeNote_rejected {s : State} {sender : PartyId} {level : Int} {n : Note}
    (no : noteAccepted s sender level n = false) : takeNote sender level n s = s := if_neg (by simp [no])

theorem takeNote_accepted {s : State} {sender : PartyId} {level : Int} {n : Note}
    (ok : noteAccepted s sender level n = true) : takeNote sender level n s =
      if reportsLight s sender n then
        lightHeard (s.setPtb { s.ptb with peers := peersAfter s.ptb.peers sender level n })
      else s.setPtb { s.ptb with peers := peersAfter s.ptb.peers sender level n } := if_pos ok

theorem reportsLight_unknown {s : State} {sender : PartyId} (n : Note) (unknown : ∀ x ∈ s.ptb.peers, x.id ≠ sender) :
    reportsLight s sender n = false := by
  have none : (s.ptb.peers.any fun p => p.id == sender && p.state == .coLocated) = false :=
    List.any_eq_false.mpr fun x hx => by simp [unknown x hx]
  simp [reportsLight, none]

theorem reportsLight_known {s : State} {before after : List Peer} {p : Peer} (n : Note)
    (peers : s.ptb.peers = before ++ p :: after) (apart : ∀ x ∈ before ++ after, x.id ≠ p.id) :
    reportsLight s p.id n = true ↔ s.eve.station = .active ∧ n.door = .light ∧ p.state = .coLocated := by
  have others (ps : List Peer) (sub : ∀ x ∈ ps, x ∈ before ++ after) :
      (ps.any fun x => x.id == p.id && x.state == .coLocated) = false :=
    List.any_eq_false.mpr fun x hx => by simp [apart x (sub x hx)]
  rw [reportsLight, peers, List.any_append, List.any_cons, others before fun x hx => List.mem_append_left _ hx,
    others after fun x hx => List.mem_append_right _ hx]
  simp [and_assoc]

theorem lightHeard_taking {s : State} (taking : s.dmn.taking = true) : lightHeard s = s.setDmn { s.dmn with
    episode := match s.dmn.episode with
      | some e => some { e with heardMark := true, relay := true }
      | none => some (.begin .heard s.ret.epoch) } := by
  unfold lightHeard
  rw [if_pos taking]
  cases h : s.dmn.episode <;> rfl

/-- Settles O39. -/
theorem chillNoteUpdatesItsRecord : Obligations.ChillNoteUpdatesItsRecord := by
  refine ⟨fun sender level payload env s lost => ?_, fun sender level payload env n s deliver zero ones station parsed => ?_⟩
  · change execChillNote sender level payload env s = _
    obtain lost | blank | concluded | unparsed := lost
    · simp [execChillNote, done, lost]
    · simp [execChillNote, done, blank]
    · simp [execChillNote, done, concluded]
    · simp [execChillNote, done, unparsed]
  · have taken := exec_chillNote (level := level) deliver (soundSender_of_ne zero ones) station parsed
    rw [show noteLevel level = (if level < -120 then -120 else if -20 < level then -20 else level) from rfl] at taken
    generalize (if level < -120 then -120 else if -20 < level then -20 else level : Int) = heardAt at taken ⊢
    refine ⟨fun away => ?_, fun other cls link view opens => ?_⟩
    · have no : noteAccepted s sender heardAt n = false := by
        rw [Bool.eq_false_iff, ne_eq, noteAccepted_iff]
        rintro ⟨other, cls, link, view, opens⟩
        obtain own | foreign | weak | closed | opening := away
        · exact other own
        · exact foreign cls
        · exact absurd link weak.not_ge
        · simp [view] at closed
        · simp [opens] at opening
      rw [taken, takeNote_rejected no]
    · have ok := (noteAccepted_iff s sender heardAt n).mpr ⟨other, cls, link, view, opens⟩
      rw [takeNote_accepted ok] at taken
      rw [taken]
      refine ⟨fun before p after peers same apart dark => ?_, fun unknown room => ?_, fun near full => ?_,
        fun before old after peers full unknown apart chosen => ?_, fun before p after peers same apart light => ⟨?_, ?_⟩⟩
      · subst same
        rw [if_neg (by simp [reportsLight, dark]), peers, peersAfter_known heardAt n apart]
        rfl
      · rw [if_neg (by simp [reportsLight_unknown n unknown]), peersAfter_new heardAt n unknown room]
        rfl
      · rw [if_neg (by simp [reportsLight_unknown n fun x hx => (near x hx).1]),
          peersAfter_full heardAt n (fun x hx => (near x hx).1) full, replaceable_none fun x hx => (near x hx).2]
        rfl
      · simp only [← hearingScore_eq] at chosen
        have replaced : replaceable s.ptb.peers = some old := by
          rw [peers]
          obtain ⟨lapsing, least⟩ | ⟨heard, none, least⟩ := chosen
          · exact replaceable_split least (.inl lapsing)
          · exact replaceable_split least (.inr ⟨heard, peers ▸ none⟩)
        rw [if_neg (by simp [reportsLight_unknown n unknown]), peersAfter_full heardAt n unknown full, replaced]
        simp only [peers, withoutPeer_split apart]
        rfl
      · intro quiet
        subst same
        have dark : reportsLight s p.id n = true → s.dmn.taking = false := fun h => by
          obtain ⟨active, -, near⟩ := (reportsLight_known n peers apart).mp h
          obtain dormant | far | done := quiet
          · rw [active] at dormant
            cases dormant
          · exact absurd near far
          · exact done
        have heard : peersAfter s.ptb.peers p.id heardAt n = before ++ after ++ [p.take heardAt n] := by
          rw [peers, peersAfter_known heardAt n apart]
        rw [heard]
        by_cases h : reportsLight s p.id n = true
        · rw [if_pos h, lightHeard, if_neg (by simpa using dark h)]
          rfl
        · rw [if_neg h]
          rfl
      · intro active near taking
        subst same
        have h := (reportsLight_known n peers apart).mpr ⟨active, light, near⟩
        rw [if_pos h, peers, peersAfter_known heardAt n apart]
        refine congrArg (fun s => Host.Outcome.next (kick env s)) ((lightHeard_taking ?_).trans ?_)
        · exact taking
        rw [State.setPtb_dmn]
        cases s.dmn.episode <;> rfl

/-! ### Light (R45, R73, R74) -/

theorem markOwn_eq (s : State) : markOwn s = s.setDmn { s.dmn with
    episode := match s.dmn.episode with
      | some e => some { e with ownMark := true }
      | none => some (.begin .own s.ret.epoch) } := by
  unfold markOwn
  cases s.dmn.episode <;> rfl

theorem composeNote_light (s : State) : composeNote .light s =
    { cls := s.cmr.cls
      air := s.chc.content.bind fun c => c.air.map airByte
      fit := (s.chc.content.map NoteContent.fit).getD false
      door := .light
      verdict := committedVerdict s
      leg := s.ptb.leg.getD 0 } := by
  unfold composeNote
  cases s.chc.content <;> rfl

section
variable {light : Bool} (env : Env) {s : State}

theorem exec_lightEvent_still (still : s.logic = .stopped ∨ s.dmn.latch = light) :
    exec (.lightEvent light env) s = .next s := congrArg Host.Outcome.next (if_pos still)

theorem exec_lightEvent_latch (moves : ¬ (s.logic = .stopped ∨ s.dmn.latch = light))
    (alone : ¬ (light = true ∧ running s = true ∧ s.eve.station = .active ∧ s.dmn.taking = true)) :
    exec (.lightEvent light env) s = .next { s with dmn := { s.dmn with latch := light } } := by
  change execLightEvent light env s = _
  rw [execLightEvent, if_neg moves]
  exact congrArg Host.Outcome.next (if_neg alone)

theorem exec_lightEvent_rise (logic : s.logic = .running) (dark : s.dmn.latch = false) (active : s.eve.station = .active)
    (taking : s.dmn.taking = true) :
    exec (.lightEvent true env) s = .next (kick env (rise (s.setDmn { s.dmn with latch := true }))) := by
  change execLightEvent true env s = _
  rw [execLightEvent, if_neg (by simp [logic, dark])]
  exact congrArg Host.Outcome.next (if_pos ⟨rfl, running_of_logic logic, active, taking⟩)

end

theorem rise_eq (s : State) : rise s = { s with
    dmn := { s.dmn with
      episode := match s.dmn.episode with
        | some e => some { e with ownMark := true }
        | none => some
          { start := s.ret.epoch
            origin := .own
            age := 0
            ownMark := true
            heardMark := false
            relay := false
            quiet := 0
            overrun := false
            drawn := 0
            stop := none } }
    chc := s.chc.offerNote (composeNote .light s) } := by
  rw [rise, markOwn_eq, offerDoorNote]
  cases s.dmn.episode <;> rfl

/-! ### The episode at an epoch end, and its DOOR entries (R77 to R79, R81) -/

theorem suspend_setDmn (d : Dmn) (s : State) : suspend (s.setDmn d) = (suspend s).setDmn d := by
  unfold suspend
  simp only [State.setDmn_jst]
  cases s.jst.access <;> rfl

/-- An offer neither reads nor changes the door monitor. -/
theorem offer_setDmn (e : Entry) (d : Dmn) (s : State) : (offer e (s.setDmn d)).1 = (offer e s).1.setDmn d := by
  unfold offer
  by_cases h : offerAccepted s = true
  · rw [if_pos h, if_pos (show offerAccepted (s.setDmn d) = true from h)]
    exact suspend_setDmn d (s.setJst _)
  · rw [if_neg h, if_neg (show ¬ offerAccepted (s.setDmn d) = true from h)]

theorem offer_dmn (e : Entry) (s : State) : (offer e s).1.dmn = s.dmn := by
  rw [offer_setJst]
  rfl

theorem offerDoor_setDmn (e : Episode) (stop : Nat) (conclusion : Bool) (d : Dmn) (s : State) :
    offerDoor e stop conclusion (s.setDmn d) = (offerDoor e stop conclusion s).setDmn d := offer_setDmn _ d s

theorem offerDoor_dmn (e : Episode) (stop : Nat) (conclusion : Bool) (s : State) :
    (offerDoor e stop conclusion s).dmn = s.dmn := offer_dmn _ s

theorem offerClosing_none {s : State} (none : s.dmn.closing = none) : offerClosing s = s := by
  simp only [offerClosing, none]

theorem offerClosing_some {s : State} {c : Episode} {stop : Nat} (closing : s.dmn.closing = some c) (ends : c.stop = some stop) :
    offerClosing s = (offerDoor c stop false s).setDmn { s.dmn with closing := none } := by
  simp only [offerClosing, closing, ends, Option.getD_some]

theorem two_le_quietAfter_iff (e : Episode) : 2 ≤ e.quietAfter ↔ e.ownMark = false ∧ e.heardMark = false ∧ 1 ≤ e.quiet := by
  unfold Episode.quietAfter
  cases e.ownMark <;> cases e.heardMark <;> simp

theorem settleEpisode_closes (epoch : Nat) {e : Episode} {s : State} (episode : s.dmn.episode = some e)
    (own : e.ownMark = false) (heard : e.heardMark = false) (quiet : 1 ≤ e.quiet) : settleEpisode epoch s =
    (offerClosing s).setDmn { (offerClosing s).dmn with
      episode := none
      closing := some { e with quiet := e.quiet + 1, stop := some epoch } } := by
  have ends := (two_le_quietAfter_iff e).mpr ⟨own, heard, quiet⟩
  have count : e.quietAfter = e.quiet + 1 := by simp [Episode.quietAfter, own, heard]
  simp only [settleEpisode, episode, if_pos ends]
  rw [count]

theorem settleEpisode_ages (epoch : Nat) {e : Episode} {s : State} (episode : s.dmn.episode = some e)
    (goes : ¬ (e.ownMark = false ∧ e.heardMark = false ∧ 1 ≤ e.quiet)) : settleEpisode epoch s =
    { s with dmn := { s.dmn with
      episode := some { e with
        quiet := if e.ownMark = true ∨ e.heardMark = true then 0 else e.quiet + 1
        age := min 65535 (e.age + 1)
        ownMark := s.dmn.latch
        heardMark := false } } } := by
  have open' : ¬ 2 ≤ e.quietAfter := fun h => goes ((two_le_quietAfter_iff e).mp h)
  have count : e.quietAfter = if e.ownMark = true ∨ e.heardMark = true then 0 else e.quiet + 1 := by
    simp [Episode.quietAfter]
  simp only [settleEpisode, episode, if_neg open']
  rw [count]
  rfl

/-- The draw report of the closing record's last epoch: its DOOR entry is offered. -/
theorem drawReport_last {epoch : Nat} (draw : Nat) {c : Episode} {s : State} (closing : s.dmn.closing = some c)
    (ends : c.stop = some epoch) : drawReport epoch draw s =
      { offerDoor { c with drawn := c.drawn + draw } epoch false s with dmn := { s.dmn with closing := none } } := by
  simp only [drawReport, closing, if_pos ends]
  refine (offerClosing_some (c := { c with drawn := c.drawn + draw }) rfl ends).trans ?_
  rw [offerDoor_setDmn]
  rfl

section
variable {draw : Nat} {final : Option Nat} {c : Episode} {stop : Nat} {s : State}

/-- The state after the closing record's part of a conclusion's close, with the draw that goes to that record. -/
def closingOffered (c : Episode) (draw stop : Nat) (s : State) : State :=
  (offerDoor { c with drawn := c.drawn + draw } stop false s).setDmn { s.dmn with closing := none }

/-- The open record's part of a conclusion's close. -/
def closeOpenRecord (draw : Nat) (final : Option Nat) (s : State) : State :=
  match s.dmn.episode with
  | some e =>
    (offerDoor { e with drawn := e.drawn + draw } (match final with
      | some f => max f e.start
      | none => e.start) true s).setDmn { s.dmn with episode := none }
  | none => s

theorem closeForConclusion_none (none : s.dmn.closing = none) :
    closeForConclusion draw final s = closeOpenRecord draw final s := by
  simp only [closeForConclusion, none, Bool.false_eq_true, if_false, offerClosing_none none, closeOpenRecord] <;>
    cases s.dmn.episode <;> rfl

theorem closeForConclusion_last (closing : s.dmn.closing = some c) (ends : c.stop = some stop) (last : final = some stop) :
    closeForConclusion draw final s = closeOpenRecord 0 final (closingOffered c draw stop s) := by
  have yes : (final.isSome && c.stop == final) = true := by simp [ends, last]
  have offered : offerClosing (s.setDmn { s.dmn with closing := some { c with drawn := c.drawn + draw } }) =
      closingOffered c draw stop s := by
    refine (offerClosing_some (c := { c with drawn := c.drawn + draw }) rfl ends).trans ?_
    rw [offerDoor_setDmn]
    rfl
  simp only [closeForConclusion, closing, yes, if_true, Option.map_some, offered, closeOpenRecord] <;>
    cases (closingOffered c draw stop s).dmn.episode <;> rfl

theorem closeForConclusion_other (closing : s.dmn.closing = some c) (ends : c.stop = some stop) (other : final ≠ some stop) :
    closeForConclusion draw final s = closeOpenRecord draw final (closingOffered c 0 stop s) := by
  have no : (final.isSome && c.stop == final) = false := by simp [ends, other.symm]
  simp only [closeForConclusion, closing, no, Bool.false_eq_true, if_false, offerClosing_some closing ends, closeOpenRecord] <;> rfl

theorem closeOpenRecord_none (none : s.dmn.episode = none) : closeOpenRecord draw final s = s := by
  simp only [closeOpenRecord, none]

theorem closeOpenRecord_some {e : Episode} (episode : s.dmn.episode = some e) : closeOpenRecord draw final s =
    (offerDoor { e with drawn := e.drawn + draw } (match final with
      | some f => max f e.start
      | none => e.start) true s).setDmn { s.dmn with episode := none } := by
  simp only [closeOpenRecord, episode]

end

/-- Settles O41. -/
theorem lightMovesTheLatchAndTheEpisode : Obligations.LightMovesTheLatchAndTheEpisode := by
  refine ⟨fun light env s => ⟨fun stopped => exec_lightEvent_still env (.inl stopped),
      fun same => exec_lightEvent_still env (.inr same), fun runs moves alone => ?_,
      fun logic dark active taking plain room => ?_, fun logic dark active taking => ?_, fun idle moves => ?_⟩,
    fun epoch e s episode none => ?_, fun e stop conclusion s => rfl,
    fun epoch stop c e s closing ends episode own heard quiet => ?_, fun epoch draw s => ?_, fun draw final s => ?_⟩
  · refine exec_lightEvent_latch env (by simp [runs, moves]) fun ⟨rises, _, active, _⟩ => ?_
    obtain falls | away := alone
    · rw [falls] at rises
      cases rises
    · exact away active
  · rw [exec_lightEvent_rise env logic dark active taking, rise_eq, State.setDmn_chc, offerNote_joins _ _ plain room,
      composeNote_light]
    rfl
  · rw [exec_lightEvent_rise env logic dark active taking, rise_eq, composeNote_light]
    rfl
  · refine exec_lightEvent_latch env ?_ fun ⟨_, runs, _, taking⟩ => ?_
    · obtain start | ⟨logic, -⟩ := idle
      · simp [start, moves]
      · simp [logic, moves]
    · obtain start | ⟨-, done⟩ := idle
      · simp [running, start] at runs
      · simp [done] at taking
  · split
    · rename_i ends
      obtain ⟨own, heard, quiet⟩ := ends
      rw [settleEpisode_closes epoch episode own heard quiet, offerClosing_none none]
      rfl
    · rename_i goes
      exact settleEpisode_ages epoch episode goes
  · rw [settleEpisode_closes epoch episode own heard quiet, offerClosing_some closing ends]
    rfl
  · refine ⟨fun c closing ends => drawReport_last draw closing ends, fun c stop closing ends starts before => ?_,
      fun c stop e closing ends past episode => ?_, fun e none episode => ?_, fun closing episode => ?_⟩
    · have other : ¬ c.stop = some epoch := by simp [ends, before.ne']
      have inside : c.start ≤ epoch ∧ epoch < c.stop.getD 0 := ⟨starts, by simpa [ends] using before⟩
      simp only [drawReport, closing, if_neg other, if_pos inside]
      rfl
    · have other : ¬ c.stop = some epoch := by simp [ends, past.ne]
      have outside : ¬ (c.start ≤ epoch ∧ epoch < c.stop.getD 0) := by simp [ends, past.le]
      simp only [drawReport, closing, if_neg other, if_neg outside, episode]
      rw [← closing]
      rfl
    · simp only [drawReport, none, episode]
      rw [← none]
      rfl
    · simp only [drawReport, closing, episode]
  · refine ⟨fun e none episode => ?_, fun c stop closing ends => ⟨fun shut last => ?_, fun shut other => ?_,
      fun e episode last => ?_, fun e episode other => ?_⟩, fun closing episode => ?_⟩
    · rw [closeForConclusion_none none, closeOpenRecord_some episode]
      exact congrArg (fun c => State.setDmn _ { s.dmn with episode := _, closing := c }) none
    · refine (closeForConclusion_last closing ends last).trans ((closeOpenRecord_none ?_).trans ?_)
      · exact shut
      · exact congrArg (fun e => State.setDmn _ { s.dmn with episode := e, closing := none }) shut
    · refine (closeForConclusion_other closing ends other).trans ((closeOpenRecord_none ?_).trans ?_)
      · exact shut
      · exact congrArg (fun e => State.setDmn _ { s.dmn with episode := e, closing := none }) shut
    · refine (closeForConclusion_last closing ends last).trans ((closeOpenRecord_some (e := e) ?_).trans ?_)
      · exact episode
      · rw [closingOffered, offerDoor_setDmn]
        rfl
    · refine (closeForConclusion_other closing ends other).trans ((closeOpenRecord_some (e := e) ?_).trans ?_)
      · exact episode
      · rw [closingOffered, offerDoor_setDmn]
        rfl
    · rw [closeForConclusion_none closing, closeOpenRecord_none episode]

end Sys2Proof.Machine

/-! Reads and their fragments (R115, R140, R165, R173 to R180). -/

namespace Sys2Proof.Machine

/-! ### Where a read starts (R173) -/

theorem find_first {α β : Type} (f : α → Option β) (p : β → Bool) {before after : List α} {a : α} {b : β} (hit : f a = some b)
    (ok : p b = true) (earlier : ∀ x ∈ before, ∀ y, f x = some y → p y = false) :
    ((before ++ a :: after).filterMap f).find? p = some b := by
  have none : (before.filterMap f).find? p = none := List.find?_eq_none.mpr fun y hy => by
    obtain ⟨x, mem, eq⟩ := List.mem_filterMap.mp hy
    simp [earlier x mem y eq]
  rw [List.filterMap_append, List.find?_append, none, List.filterMap_cons_some hit]
  simp [ok]

theorem find_absent {α β : Type} (f : α → Option β) (p : β → Bool) {xs : List α} (absent : ∀ x ∈ xs, ∀ y, f x = some y → p y = false) :
    (xs.filterMap f).find? p = none := List.find?_eq_none.mpr fun y hy => by
  obtain ⟨x, mem, eq⟩ := List.mem_filterMap.mp hy
  simp [absent x mem y eq]

theorem asLeg_eq_some {e : Entry} {x : LegEntry} : e.asLeg = some x ↔ e = .leg x := by
  cases e <;> simp [Entry.asLeg]

theorem asCheckpoint_eq_some {e : Entry} {x : CheckpointEntry} : e.asCheckpoint = some x ↔ e = .checkpoint x := by
  cases e <;> simp [Entry.asCheckpoint]

theorem legBase_first {n : Nat} {before after : List Entry} {x : LegEntry} (leg : x.leg = n)
    (earlier : ∀ y, Entry.leg y ∈ before → y.leg ≠ n) : legBase n (before ++ .leg x :: after) = some x.start := by
  have found := find_first Entry.asLeg (fun e => e.leg == n) (after := after) (a := .leg x) rfl (by simp [leg])
    fun e he y hy => by simpa using earlier y (asLeg_eq_some.mp hy ▸ he)
  rw [legBase, found]
  rfl

theorem legBase_absent {n : Nat} {es : List Entry} (absent : ∀ y, Entry.leg y ∈ es → y.leg ≠ n) : legBase n es = none := by
  rw [legBase, find_absent Entry.asLeg _ fun e he y hy => by simpa using absent y (asLeg_eq_some.mp hy ▸ he)]
  rfl

theorem checkpointBase_first {n : Nat} {before after : List Entry} {x : CheckpointEntry} (number : x.number = n)
    (earlier : ∀ y, Entry.checkpoint y ∈ before → y.number ≠ n) :
    checkpointBase n (before ++ .checkpoint x :: after) = some x.epoch := by
  have found := find_first Entry.asCheckpoint (fun e => e.number == n) (after := after) (a := .checkpoint x) rfl
    (by simp [number]) fun e he y hy => by simpa using earlier y (asCheckpoint_eq_some.mp hy ▸ he)
  rw [checkpointBase, found]
  rfl

theorem checkpointBase_absent {n : Nat} {es : List Entry} (absent : ∀ y, Entry.checkpoint y ∈ es → y.number ≠ n) :
    checkpointBase n es = none := by
  rw [checkpointBase,
    find_absent Entry.asCheckpoint _ fun e he y hy => by simpa using absent y (asCheckpoint_eq_some.mp hy ▸ he)]
  rfl

theorem startEpoch_of_base {es : List Entry} {l : Locator} {b : Nat} (base : baseEpoch es l.base = some b) : startEpoch es l =
    if 16777215 < b + l.displacement then none
    else match l.window with
      | some w => if w < b + l.displacement then none else some (b + l.displacement)
      | none => some (b + l.displacement) := by
  simp only [startEpoch, base, Config.maxEpoch] <;> rfl

/-! ### Where a walk begins (R175) -/

/-- A coverage entry that ends below an epoch. -/
def EndsBelow (epoch : Nat) (e : Entry) : Prop := ∃ first last, e.coverage = some (first, last) ∧ last < epoch

theorem afterCoverageBelow_absent {epoch : Nat} {xs : List Entry} (absent : ∀ e ∈ xs, ¬ EndsBelow epoch e) (i best : Nat) :
    afterCoverageBelow epoch i best xs = best :=
  afterCoverageBelow_none (fun e he first last covered => not_lt.mp fun below => absent e he ⟨first, last, covered, below⟩) i best

/-- The place after the last coverage entry that ends below an epoch. -/
theorem afterCoverageBelow_last {epoch : Nat} {before after : List Entry} {e : Entry} (below : EndsBelow epoch e)
    (later : ∀ x ∈ after, ¬ EndsBelow epoch x) :
    afterCoverageBelow epoch 0 0 (before ++ e :: after) = before.length + 1 := by
  obtain ⟨first, last, covered, ends⟩ := below
  rw [afterCoverageBelow_append, afterCoverageBelow, afterCoverageBelow_absent later]
  simp only [covered, if_pos ends]
  omega

theorem firstStamped_absent {epoch : Nat} : ∀ {xs : List Entry} (i : Nat),
    (∀ e ∈ xs, ¬ (e.coverage = none ∧ epoch ≤ e.stamp)) → firstStamped epoch i xs = none
  | [], _, _ => rfl
  | x :: xs, i, absent => by
    have no : ¬ (x.covers = false ∧ epoch ≤ x.stamp) := by
      simpa [Entry.covers] using absent x List.mem_cons_self
    rw [firstStamped, if_neg no]
    exact firstStamped_absent (i + 1) fun e he => absent e (List.mem_cons_of_mem _ he)

theorem firstStamped_first {epoch : Nat} {e : Entry} {after : List Entry} (stamped : e.coverage = none ∧ epoch ≤ e.stamp) :
    ∀ {before : List Entry} (i : Nat), (∀ x ∈ before, ¬ (x.coverage = none ∧ epoch ≤ x.stamp)) →
      firstStamped epoch i (before ++ e :: after) = some (i + before.length)
  | [], i, _ => by
    have yes : e.covers = false ∧ epoch ≤ e.stamp := by simpa [Entry.covers] using stamped
    rw [List.nil_append, firstStamped, if_pos yes]
    rfl
  | x :: before, i, earlier => by
    have no : ¬ (x.covers = false ∧ epoch ≤ x.stamp) := by
      simpa [Entry.covers] using earlier x List.mem_cons_self
    rw [List.cons_append, firstStamped, if_neg no,
      firstStamped_first stamped (i + 1) fun y hy => earlier y (List.mem_cons_of_mem _ hy), List.length_cons]
    congr 1
    omega

theorem passCarry_min (rest : List Entry) (stops : ∀ x, rest.head? = some x → x.coverage ≠ none) :
    ∀ (k : Nat) {others : List Entry}, (∀ e ∈ others, e.coverage = none) →
      passCarry k (others ++ rest) = min k others.length
  | 0, _, _ => by simp [passCarry]
  | k + 1, [], _ => by
    cases rest with
    | nil => rfl
    | cons x rest =>
      have covers : x.covers = true := Option.isSome_iff_ne_none.mpr (stops x rfl)
      simp [passCarry, covers]
  | k + 1, e :: others, plain => by
    have uncovered : e.covers = false := by simp [Entry.covers, plain e List.mem_cons_self]
    rw [List.cons_append, passCarry, passCarry_min rest stops k fun x hx => plain x (List.mem_cons_of_mem _ hx)]
    simp only [uncovered, List.length_cons]
    exact (Nat.succ_min_succ k others.length).symm

theorem walkStart_unanchored (es : List Entry) {c : Cursor} (position : c.position = .unanchored) : walkStart es c =
    match firstStamped c.start 0 es with
    | some i => min (afterCoverageBelow c.start 0 0 es) i
    | none => afterCoverageBelow c.start 0 0 es := by
  simp only [walkStart, position] <;> rfl

theorem walkStart_anchored (es : List Entry) {c : Cursor} {epoch carry : Nat} (position : c.position = .anchored epoch carry) :
    walkStart es c = afterCoverageBelow epoch 0 0 es + passCarry carry (es.drop (afterCoverageBelow epoch 0 0 es)) := by
  simp only [walkStart, position]

/-! ### A turn with a fragment in service (R115, R175, R180) -/

section
variable {c : Cursor} {asked : Asked} {s : State} (service : s.rqs.service = some (.fragment c asked none none))
  (free : s.jst.access = .none)

/-- The state in which the walk has begun. -/
def walking (c : Cursor) (asked : Asked) (seen : Option Nat) (s : State) : State :=
  setService (some (.fragment c asked (some (walkStart (journal s) c)) seen)) s

include service in
theorem readStage_waits (taken : s.jst.access ≠ .none) (first : Bool) : readStage first s = s := by
  have busy : arrayFree s = false := by simpa [arrayFree] using taken
  simp [readStage, service, busy]

include service free in
theorem readStage_begins (first : Bool) : readStage first s =
    walking c asked (if first && !s.jst.queue.isEmpty then some (journal s).length else none) s := by
  have idle := (arrayFree_iff s).mpr free
  simp only [readStage, service, idle, if_true, Option.getD_none]
  rfl

end

/-- A turn that a fragment's own stages leave alone. -/
theorem turn_fragment (env : Env) {c : Cursor} {asked : Asked} {start : Option Nat} {seen : Option Nat} {s : State}
    (service : s.rqs.service = some (.fragment c asked start seen)) (want : s.jst.wantOpen = none) :
    turn env s = jobStage (markStage (readStage false (headStage
      (if env.readFirst && !s.jst.secondTry then readStage true s else s)))) := by
  have checkpoint : checkpointStage s = s := by simp [checkpointStage, service]
  simp only [turn, checkpoint, openStage_unasked want]

theorem markStage_fragment {c : Cursor} {asked : Asked} {start : Option Nat} {seen : Option Nat} {s : State}
    (service : s.rqs.service = some (.fragment c asked start seen)) : markStage s = s := by
  simp [markStage, service]

theorem jobStage_fragment {c : Cursor} {asked : Asked} {start : Option Nat} {seen : Option Nat} {s : State}
    (service : s.rqs.service = some (.fragment c asked start seen)) : jobStage s = s := by
  simp [jobStage, clearForJob, serviceClear, service]

theorem quiet_walking {c : Cursor} {asked : Asked} {start : Nat} {seen : Option Nat} {s : State}
    (service : s.rqs.service = some (.fragment c asked (some start) seen)) (want : s.jst.wantOpen = none)
    (queue : s.jst.queue = []) : quiet s = true := by
  simp [quiet, checkpointRests, serviceRests, jobRests, clearForJob, serviceClear, service, want, queue]

/-- A walk that has begun with nothing else waiting stays as it is. -/
theorem readStage_begun {c : Cursor} {asked : Asked} {start : Nat} {s : State}
    (service : s.rqs.service = some (.fragment c asked (some start) none)) (queue : s.jst.queue = []) (first : Bool) :
    readStage first s = s := by
  simp only [readStage, service, queue, List.isEmpty_nil, Bool.not_true, Bool.and_false, Option.getD_some, Bool.false_eq_true,
    if_false]
  split
  · simp only [setService, ← service]
    rfl
  · rfl

/-- With the array free and nothing else waiting, a fragment's walk begins at the end of the command. -/
theorem settle_read (env : Env) {c : Cursor} {asked : Asked} {s : State} (hr : running s = true)
    (service : s.rqs.service = some (.fragment c asked none none)) (free : s.jst.access = .none)
    (want : s.jst.wantOpen = none) (queue : s.jst.queue = []) :
    settle env s = kick env (walking c asked none s) := by
  have begins (first : Bool) : readStage first s = walking c asked none s := by
    rw [readStage_begins service free, queue]
    simp
  have begun : (walking c asked none s).rqs.service = some (.fragment c asked (some (walkStart (journal s) c)) none) := rfl
  have turned : turn env s = walking c asked none s := by
    rw [turn_fragment env service want]
    split
    · rw [begins, headStage_empty (s := walking c asked none s) queue, readStage_begun begun queue, markStage_fragment begun, jobStage_fragment begun]
    · rw [headStage_empty queue, begins, markStage_fragment begun, jobStage_fragment begun]
  have still := turn_quiet env (quiet_walking begun want queue)
  simp only [settle, hr, if_true, turned, still]

/-- With the array free and an entry waiting that fits, the order drawn decides which of walk and entry is first (R115). -/
theorem settle_read_entry (env : Env) {c : Cursor} {asked : Asked} {e : Entry} {rest : List Entry} {i : Nat} {s : State}
    (hr : running s = true) (service : s.rqs.service = some (.fragment c asked none none)) (free : s.jst.access = .none)
    (want : s.jst.wantOpen = none) (queue : s.jst.queue = e :: rest) (opened : openSeg s = some i)
    (fits : (segAt s i).fits e = true) : settle env s = kick env (setAccess (.entry i (segAt s i).fill)
      (if env.readFirst && !s.jst.secondTry then walking c asked (some (journal s).length) s else s)) := by
  have busy (t : State) : (setAccess (.entry i (segAt s i).fill) t).jst.access ≠ .none := fun h => by cases h
  have turned : turn env s = setAccess (.entry i (segAt s i).fill)
      (if env.readFirst && !s.jst.secondTry then walking c asked (some (journal s).length) s else s) := by
    rw [turn_fragment env service want]
    split
    · have begun : readStage true s = walking c asked (some (journal s).length) s := by
        rw [readStage_begins service free, queue]
        simp
      have served : (setAccess (.entry i (segAt s i).fill) (walking c asked (some (journal s).length) s)).rqs.service =
        some (.fragment c asked (some (walkStart (journal s) c)) (some (journal s).length)) := rfl
      have seen : readStage false (setAccess (.entry i (segAt s i).fill) (walking c asked (some (journal s).length) s)) =
          setAccess (.entry i (segAt s i).fill) (walking c asked (some (journal s).length) s) := by
        simp only [readStage, served]
      rw [begun, headStage_fits (s := walking c asked (some (journal s).length) s) queue free opened fits]
      exact (congrArg (fun t => jobStage (markStage t)) seen).trans
        ((congrArg jobStage (markStage_fragment served)).trans (jobStage_fragment served))
    · have served : (setAccess (.entry i (segAt s i).fill) s).rqs.service = some (.fragment c asked none none) := service
      rw [headStage_fits queue free opened fits, readStage_waits served (busy s), markStage_fragment served,
        jobStage_fragment served]
  have rests : quiet (turn env s) = true := by
    rw [turned]
    split <;> simp [quiet, checkpointRests, arrayFree, setAccess, walking, setService, service]
  simp only [settle, hr, if_true]
  rw [turn_quiet env rests, turned]

/-! ### A read that is taken (R140, R173, R179) -/

theorem quiet_free {s : State} (rests : quiet s = true) (free : s.jst.access = .none) :
    s.jst.wantOpen = none ∧ s.jst.queue = [] := by
  have idle := (arrayFree_iff s).mpr free
  simp only [quiet, idle, Bool.not_true, Bool.false_or, Bool.and_eq_true, List.isEmpty_iff, Option.isNone_iff_eq_none] at rests
  exact ⟨rests.2.1.1.1, rests.2.1.1.2⟩

/-- A page program or an erase in flight, and the suspended step that a read makes of it (R140). -/
def Suspends (a : Access) (x : Suspended) : Prop :=
  (a = .pageProgram ∧ x = .page) ∨ (∃ i, a = .sourceErase i ∧ x = .sourceErase i) ∨
    (∃ i, a = .cleanupErase i ∧ x = .cleanupErase i)

theorem suspend_step {s : State} {x : Suspended} (step : Suspends s.jst.access x) : suspend s =
    s.setJst { s.jst with access := .none, job := { s.jst.job with suspended := some x } } := by
  obtain ⟨access, rfl⟩ | ⟨i, access, rfl⟩ | ⟨i, access, rfl⟩ := step <;> simp only [suspend, access]

theorem suspend_free {s : State} (free : s.jst.access = .none) : suspend s = s := by
  simp only [suspend, free]

theorem beginFragment_free (c : Cursor) (asked : Asked) {s : State} (free : s.jst.access = .none) :
    beginFragment c asked s = setService (some (.fragment c asked none none)) s := suspend_free free

theorem beginFragment_step (c : Cursor) (asked : Asked) {s : State} {x : Suspended} (step : Suspends s.jst.access x) :
    beginFragment c asked s = setService (some (.fragment c asked none none))
      (s.setJst { s.jst with access := .none, job := { s.jst.job with suspended := some x } }) :=
  suspend_step (s := setService (some (.fragment c asked none none)) s) step

/-- A served READ begins a fragment with a new cursor. -/
theorem exec_read_served {req : Request} {fields : List Byte} {env : Env} {l : Locator} {start : Nat} {s : State}
    (isFree : free req env s = true) (station : s.eve.station ≠ .blank) (parsed : parseRead fields = some l)
    (found : startEpoch (journal s) l = some start) : exec (.read req fields env) s = .next (settle env
      (beginFragment ⟨req.reader, start, l.stride, l.window, .unanchored⟩ (.read s.eve.station) s)) := by
  obtain ⟨reached, idle⟩ : reaches req env s = true ∧ serviceBusy s = false := by simpa [free] using isFree
  rw [exec_read_some reached parsed, serve_allowed idle (readAllowed_iff.mpr station)]
  simp only [found]

/-- A served READ-ON begins a fragment with the cursor kept. -/
theorem exec_readOn_served {req : Request} {env : Env} {c : Cursor} {s : State} (isFree : free req env s = true)
    (station : s.eve.station ≠ .blank) (cursor : s.rqs.cursor = some c) (owner : c.owner = req.reader) :
    exec (.readOn req [] env) s = .next (settle env (beginFragment c .readOn s)) := by
  obtain ⟨reached, idle⟩ : reaches req env s = true ∧ serviceBusy s = false := by simpa [free] using isFree
  rw [exec_readOn_empty reached, serve_allowed idle (readAllowed_iff.mpr station)]
  simp only [cursor, owner, if_true]

theorem running_of_free {req : Request} {env : Env} {s : State} (isFree : free req env s = true) : running s = true := by
  obtain ⟨reached, -⟩ : reaches req env s = true ∧ serviceBusy s = false := by simpa [free] using isFree
  exact running_of_reaches reached

/-- Settles O47. -/
theorem readsBeginAFragment : Obligations.ReadsBeginAFragment := by
  refine ⟨fun es l => ⟨fun absolute => by rw [absolute]; rfl, fun n leg => ?_, fun n checkpoint => ?_, fun none => ?_,
      fun b base => ⟨fun late => ?_, fun w window past => ?_, fun inRange inside => ?_⟩⟩,
    fun es c => ⟨fun j position after => ?_, fun epoch carry j others rest position after split plain stops => ?_⟩,
    fun req fields env s isFree rests idle station => ?_,
    fun req fields env suspended s isFree want queue station step => ?_⟩
  · rw [leg]
    refine ⟨fun before x after split number earlier => ?_, legBase_absent⟩
    rw [split]
    exact legBase_first number earlier
  · rw [checkpoint]
    refine ⟨fun before x after split number earlier => ?_, checkpointBase_absent⟩
    rw [split]
    exact checkpointBase_first number earlier
  · simp only [startEpoch, none]
  · rw [startEpoch_of_base base, if_pos late]
  · rw [startEpoch_of_base base, window]
    split
    · rfl
    · exact if_pos past
  · rw [startEpoch_of_base base, if_neg inRange.not_gt]
    cases window : l.window with
    | none => rfl
    | some w => exact if_neg (inside w window).not_gt
  · have place : afterCoverageBelow c.start 0 0 es = j := by
      obtain ⟨rfl, absent⟩ | ⟨before, e, after, rfl, below, later, rfl⟩ := after
      · exact afterCoverageBelow_absent absent 0 0
      · exact afterCoverageBelow_last below later
    refine ⟨fun absent => ?_, fun before e after split stamped earlier => ?_⟩
    · rw [walkStart_unanchored es position, firstStamped_absent 0 absent]
      exact place
    · rw [walkStart_unanchored es position, place, split, firstStamped_first stamped 0 earlier, Nat.zero_add]
  · have place : afterCoverageBelow epoch 0 0 es = j := by
      obtain ⟨rfl, absent⟩ | ⟨before, e, after, rfl, below, later, rfl⟩ := after
      · exact afterCoverageBelow_absent absent 0 0
      · exact afterCoverageBelow_last below later
    rw [walkStart_anchored es position, place, split, passCarry_min rest stops carry plain]
  · have hr := running_of_free isFree
    obtain ⟨want, queue⟩ := quiet_free rests idle
    have begins (c : Cursor) (asked : Asked) :
        settle env (beginFragment c asked s) = kick env (walking c asked none s) := by
      rw [beginFragment_free c asked idle]
      exact settle_read env hr rfl idle want queue
    refine ⟨fun l start parsed found => ?_, fun c cursor owner => ?_⟩
    · rw [exec_read_served isFree station parsed found, begins]
      rfl
    · rw [exec_readOn_served isFree station cursor owner, begins]
      rfl
  · have hr := running_of_free isFree
    have begins (c : Cursor) (asked : Asked) : settle env (beginFragment c asked s) = kick env (walking c asked none
        (s.setJst { s.jst with access := .none, job := { s.jst.job with suspended := some suspended } })) := by
      rw [beginFragment_step c asked step]
      exact settle_read env hr rfl rfl want queue
    refine ⟨fun l start parsed found => ?_, fun c cursor owner => ?_⟩
    · rw [exec_read_served isFree station parsed found, begins]
      rfl
    · rw [exec_readOn_served isFree station cursor owner, begins]
      rfl

/-! ### A composed fragment (R165, R173, R177) -/

/-- The reply and the cursor of a composed fragment. -/
def fragmentReplied (c : Cursor) (asked : Asked) (g : Fragment) (s : State) : State :=
  replied c.owner
    (.fragment (asked == .readOn)
      { state := reportedState s
        verdict := committedVerdict s
        entries := g.entries.length
        more := g.more
        cursorEpoch := Cursor.epoch { c with position := g.position } }
      g.entries)
    { s with rqs := { s.rqs with service := none, cursor := some { c with position := g.position } } }

theorem finishFragment_sent {c : Cursor} {asked : Asked} {start : Nat} {seen : Option Nat} {s : State}
    (sends : asked = .readOn ∨ (composeFragment (walked seen (journal s)) c start).entries ≠ [] ∨ asked = .read .active) :
    finishFragment c asked start seen s = fragmentReplied c asked (composeFragment (walked seen (journal s)) c start) s := by
  have goes : ¬ ((composeFragment (walked seen (journal s)) c start).entries.isEmpty && asked.emptyIsRange) = true := by
    obtain readOn | found | active := sends
    · simp [readOn, Asked.emptyIsRange]
    · simp [found]
    · simp [active, Asked.emptyIsRange]
  have on : asked.on = (asked == .readOn) := by
    cases asked <;> rfl
  simp only [finishFragment, if_neg goes, complete, sendReply_eq, on]
  rfl

theorem finishFragment_range {c : Cursor} {asked : Asked} {start : Nat} {seen : Option Nat} {s : State}
    (station : asked = .read .dormant ∨ asked = .read .concluded)
    (empty : (composeFragment (walked seen (journal s)) c start).entries = []) :
    finishFragment c asked start seen s = replied c.owner (.status 0x13 .range) (setService none s) := by
  have range : ((composeFragment (walked seen (journal s)) c start).entries.isEmpty && asked.emptyIsRange) = true := by
    obtain dormant | concluded := station
    · simp [dormant, empty, Asked.emptyIsRange]
    · simp [concluded, empty, Asked.emptyIsRange]
  simp only [finishFragment, if_pos range, complete, sendReply_eq]
  rfl

section
variable {env : Env} {c : Cursor} {asked : Asked} {start : Nat} {seen : Option Nat} {s : State} (hr : running s = true)
  (service : s.rqs.service = some (.fragment c asked (some start) seen))
include hr service

theorem exec_fragmentComposed_waits (busy : s.jst.access ≠ .none) (unseen : seen = none) :
    exec (.fragmentComposed env) s = .next s := by
  have taken : arrayFree s = false := by simpa [arrayFree] using busy
  change execFragmentComposed env s = _
  simp [execFragmentComposed, done, hr, service, unseen, taken]

theorem exec_fragmentComposed_ready (ready : s.jst.access = .none ∨ seen ≠ none) : exec (.fragmentComposed env) s = .next
    (if s.cmr.program = .none then settle env (finishFragment c asked start seen s)
    else setService (some (.statusLine c asked start (seen.getD (journal s).length))) s) := by
  have composed : (arrayFree s || seen.isSome) = true := by
    obtain free | some := ready
    · simp [arrayFree, free]
    · simp [Option.isSome_iff_ne_none, some]
  change execFragmentComposed env s = _
  simp only [execFragmentComposed, done, hr, service, composed, if_true]

end

/-! ### The end of a verdict mark's program (R95, R165) -/

/-- The state after the program of a verdict mark, before what waits for it. -/
def markEnded (v : Verdict) (miss : Byte) (s : State) : State :=
  programmed (Memory.program s.cmr.consignment (verdictMarkAddress v) 0x00 miss) s

theorem exec_verdictMarkProgrammed {miss : Byte} {env : Env} {v : Verdict} {w : Waiting} {s : State} (hr : running s = true)
    (program : s.cmr.program = .verdictMark v) (current : s.eve.current = some w) :
    exec (.verdictMarkProgrammed miss env) s = .next (settle env (answerDiscovers env
      (if (recordStages (markEnded v miss s)).cmr.markSet (verdictMarkAddress v) then
        nextProgram env w.marks.tail.head? (markIsSet w (recordStages (markEnded v miss s)))
      else nextProgram env (some v) (recordStages (markEnded v miss s))))) := by
  change execVerdictMarkProgrammed miss env s = _
  simp only [execVerdictMarkProgrammed, done, hr, program, current]
  rfl

section
variable {miss : Byte} {env : Env} {v : Verdict} {w : Waiting} {s : State} (hr : running s = true)
  (program : s.cmr.program = .verdictMark v) (current : s.eve.current = some w)
include hr program current

/-- A mark that reads clear is programmed again. -/
theorem exec_verdictMark_clear
    (clear : Memory.read (Memory.program s.cmr.consignment (verdictMarkAddress v) 0x00 miss) (verdictMarkAddress v) = 0xFF) :
    exec (.verdictMarkProgrammed miss env) s = .next (settle env (answerDiscovers env
      (nextProgram env (some v) (recordStages (markEnded v miss s))))) := by
  have unset : ¬ (recordStages (markEnded v miss s)).cmr.markSet (verdictMarkAddress v) = true := by
    rw [recordStages_cmr, Cmr.markSet, Cmr.byte_def]
    exact fun h => bne_iff_ne.mp h clear
  rw [exec_verdictMarkProgrammed hr program current, if_neg unset]

/-- A mark that reads set is followed by the next one, or by the piece that waited. -/
theorem exec_verdictMark_set
    (set : Memory.read (Memory.program s.cmr.consignment (verdictMarkAddress v) 0x00 miss) (verdictMarkAddress v) ≠ 0xFF) :
    exec (.verdictMarkProgrammed miss env) s = .next (settle env (answerDiscovers env
      (nextProgram env w.marks.tail.head? (markIsSet w (recordStages (markEnded v miss s)))))) := by
  have isSet : (recordStages (markEnded v miss s)).cmr.markSet (verdictMarkAddress v) = true := by
    rw [recordStages_cmr, Cmr.markSet, Cmr.byte_def]
    exact bne_iff_ne.mpr set
  rw [exec_verdictMarkProgrammed hr program current, if_pos isSet]

end

/-- A fragment's status line that waits for the byte program is read at its end. -/
theorem recordStages_statusLine {c : Cursor} {asked : Asked} {start seen : Nat} {s : State}
    (service : s.rqs.service = some (.statusLine c asked start seen)) (program : s.cmr.program = .none) :
    recordStages s = finishFragment c asked start (some seen) s := by
  have figures : figuresStage s = s := figuresStage_other (by simp [service])
  have checkpoint : checkpointStage s = s := by simp [checkpointStage, service]
  rw [recordStages, figures, checkpoint, fragmentStage_line service program]

theorem conclusionDue_unserved {s : State} (service : s.rqs.service = none) : conclusionDue s = none := by
  simp [conclusionDue, service]

/-- Settles O48. -/
theorem fragmentMovesTheCursor : Obligations.FragmentMovesTheCursor := by
  refine ⟨fun env c asked start seen s logic program ready service rests => ?_,
    fun env c asked start seen s logic service => ?_,
    fun miss env v w c asked start seen s logic program current service rests => ?_,
    fun env c asked e rest i s logic free want queue opened fits service => ?_⟩
  · have hr := running_of_logic logic
    have ready := exec_fragmentComposed_ready (env := env) hr service ready
    rw [if_pos program] at ready
    refine ⟨fun sends => ?_, fun station empty => ?_⟩
    · rw [ready, finishFragment_sent sends]
      exact congrArg Host.Outcome.next (settle_quiet env (s := fragmentReplied ..) hr
        ((quiet_congr rfl rfl rfl rfl).trans rests))
    · rw [ready, finishFragment_range station empty]
      exact congrArg Host.Outcome.next (settle_quiet env (s := replied ..) hr ((quiet_congr rfl rfl rfl rfl).trans rests))
  · have hr := running_of_logic logic
    refine ⟨exec_fragmentComposed_waits hr service, fun programming ready => ?_⟩
    rw [exec_fragmentComposed_ready hr service ready, if_neg programming]
    cases seen <;> rfl
  · have hr := running_of_logic logic
    intro m g moved read sends served
    have sent : recordStages (markEnded v miss s) = fragmentReplied c asked g (markEnded v miss s) := by
      rw [recordStages_statusLine (s := markEnded v miss s) service rfl]
      exact finishFragment_sent (s := markEnded v miss s) sends
    have array : arrayRests s.jst = true := (quiet_plain (s := setService none s) rfl).symm.trans rests
    have still (t : State) (unserved : t.rqs.service = none) (jst : t.jst = s.jst) : quiet t = true := by
      rw [quiet_plain (by rw [unserved]; rfl), jst]
      exact array
    have due : conclusionDue (fragmentReplied c asked g (markEnded v miss s)) = none := conclusionDue_unserved rfl
    refine ⟨fun clear => ?_, fun x rest set marks => ?_⟩
    · rw [exec_verdictMark_clear hr program current clear, sent, nextProgram_mark env v rfl due]
      refine (congrArg Host.Outcome.next (settle_answered env ?_ (still _ ?_ ?_))).trans ?_
      · exact hr
      · rfl
      · rfl
      · have held : ({ s.eve with current := some w } : Eve) = s.eve := by rw [← current]
        simp only [served]
        rw [held]
        rfl
    · rw [exec_verdictMark_set hr program current set, sent, marks, List.tail_cons, List.head?_cons,
        markIsSet_more _ (by rw [marks]; rfl)]
      refine congrArg Host.Outcome.next ((congrArg (fun t => settle env (answerDiscovers env t))
        (nextProgram_mark env x ?_ ?_)).trans (settle_answered env ?_ (still _ ?_ ?_)))
      · rfl
      · exact due
      · exact hr
      · rfl
      · rfl
  · have hr := running_of_logic logic
    have fits' := (fits_iff (segAt s i) e).mpr fits
    refine ⟨fun first fresh => ?_, fun last => ?_⟩
    · rw [settle_read_entry env hr service free want queue opened fits', first, fresh]
      rfl
    · have second : (env.readFirst && !s.jst.secondTry) = false := by
        obtain last | again := last
        · simp [last]
        · simp [again]
      rw [settle_read_entry env hr service free want queue opened fits', second]
      rfl

end Sys2Proof.Machine

/-! The pieces of the evidence engine: ordinary closes and late refusals (R86, R95, R97, R98, R100). -/

namespace Sys2Proof.Machine

/-! ### What `quiet` reads, once more -/

theorem marksDone_congr {s t : State} (store : t.store = s.store) (status : t.jst.status = s.jst.status)
    (access : t.jst.access = s.jst.access) (tried : List Nat) : marksDone t tried = marksDone s tried := by
  have seg : segAt t = segAt s := by funext i; rw [segAt, segAt, store]
  have stat : statusAt t = statusAt s := by funext i; rw [statusAt, statusAt, status]
  have live : liveMap t = liveMap s := by rw [liveMap, liveMap, seg, stat]
  rw [marksDone, marksDone, nextProtect, nextProtect, live, seg, access]

/-- A checkpoint that does not offer its entry waits on, where its marks are as they were and no program has ended. -/
theorem checkpointRests_of_same {s t : State} (rests : checkpointRests s = true) (service : t.rqs.service = s.rqs.service)
    (store : t.store = s.store) (status : t.jst.status = s.jst.status) (access : t.jst.access = s.jst.access)
    (program : t.cmr.program = s.cmr.program ∨ t.cmr.program ≠ .none) : checkpointRests t = true := by
  unfold checkpointRests at rests ⊢
  rw [service]
  split at rests
  · simpa only [marksDone_congr store status access] using rests
  · obtain same | busy := program
    · rw [same]
      exact rests
    · exact bne_iff_ne.mpr busy
  · simp only

/-- A quiet state stays quiet when a byte program begins, or the record's bytes change under the same program. -/
theorem quiet_of_program {s t : State} (rests : quiet s = true) (service : t.rqs.service = s.rqs.service)
    (store : t.store = s.store) (jst : t.jst = s.jst) (program : t.cmr.program = s.cmr.program ∨ t.cmr.program ≠ .none) :
    quiet t = true := by
  have u : quiet { t with cmr := s.cmr } = true := (quiet_congr (s := s) (t := { t with cmr := s.cmr }) service store jst rfl).trans rests
  rw [quiet, Bool.and_eq_true] at u ⊢
  refine ⟨?_, u.2⟩
  exact checkpointRests_of_same (s := { t with cmr := s.cmr }) u.1 rfl rfl rfl rfl program

/-- With an access in progress a command ends with the transmitter, unless a checkpoint's entry is due. -/
theorem settle_busy (env : Env) {s : State} (hr : running s = true) (busy : s.jst.access ≠ .none)
    (rests : checkpointRests s = true) : settle env s = kick env s := by
  have taken : arrayFree s = false := by simpa [arrayFree] using busy
  exact settle_quiet env hr (by simp [quiet, rests, taken])

/-! ### Verdicts and marks (R95, R96) -/

theorem Verdict.higher_of_le {v w : Verdict} (h : w.rank ≤ v.rank) : v.higher w = v := if_neg h.not_gt

theorem Verdict.higher_of_lt {v w : Verdict} (h : v.rank < w.rank) : v.higher w = w := if_pos h

theorem Verdict.higher_self (v : Verdict) : v.higher v = v := Verdict.higher_of_le le_rfl

theorem Cmr.highestMark_intact {c : Cmr} (h : c.highestMark = .intact) :
    c.markSet 46 = false ∧ c.markSet 47 = false ∧ c.markSet 48 = false := by
  unfold Cmr.highestMark at h
  cases h48 : c.markSet 48 <;> cases h47 : c.markSet 47 <;> cases h46 : c.markSet 46 <;> simp_all

theorem Cmr.highestMark_strained {c : Cmr} (h : c.highestMark = .strained) :
    c.markSet 46 = true ∧ c.markSet 47 = false ∧ c.markSet 48 = false := by
  unfold Cmr.highestMark at h
  cases h48 : c.markSet 48 <;> cases h47 : c.markSet 47 <;> cases h46 : c.markSet 46 <;> simp_all

theorem Cmr.highestMark_unproven {c : Cmr} (h : c.highestMark = .unproven) : c.markSet 47 = true ∧ c.markSet 48 = false := by
  unfold Cmr.highestMark at h
  cases h48 : c.markSet 48 <;> cases h47 : c.markSet 47 <;> cases h46 : c.markSet 46 <;> simp_all

theorem marksFor_eq (c : Cmr) (v : Verdict) : marksFor c v =
    (if 1 ≤ v.rank ∧ c.markSet 46 = false then [.strained] else []) ++
    (if 2 ≤ v.rank ∧ c.markSet 47 = false then [.unproven] else []) ++
    (if 3 ≤ v.rank ∧ c.markSet 48 = false then [.broken] else []) := by
  have rank : Verdict.strained.rank = 1 ∧ Verdict.unproven.rank = 2 ∧ Verdict.broken.rank = 3 := ⟨rfl, rfl, rfl⟩
  simp only [marksFor, List.filter_cons, List.filter_nil, verdictMarkAddress, rank, Bool.and_eq_true, decide_eq_true_eq,
    Bool.not_eq_true']
  split_ifs <;> rfl

/-- The marks that a rise to a level sets, from the level that the marks show. -/
theorem marksFor_from {c : Cmr} :
    (c.highestMark = .intact → marksFor c .strained = [.strained] ∧ marksFor c .unproven = [.strained, .unproven] ∧
      marksFor c .broken = [.strained, .unproven, .broken]) ∧
    (c.highestMark = .strained → marksFor c .unproven = [.unproven] ∧ marksFor c .broken = [.unproven, .broken]) ∧
    (c.highestMark = .unproven → c.markSet 46 = true → marksFor c .broken = [.broken]) := by
  refine ⟨fun h => ?_, fun h => ?_, fun h strained => ?_⟩
  · obtain ⟨h46, h47, h48⟩ := Cmr.highestMark_intact h
    simp [marksFor_eq, h46, h47, h48, Verdict.rank]
  · obtain ⟨h46, h47, h48⟩ := Cmr.highestMark_strained h
    simp [marksFor_eq, h46, h47, h48, Verdict.rank]
  · obtain ⟨h47, h48⟩ := Cmr.highestMark_unproven h
    simp [marksFor_eq, strained, h47, h48, Verdict.rank]

/-- The state in which the marks of a rise are being programmed. -/
def marking (target : Verdict) (m : Verdict) (ms : List Verdict) (next : Continuation) (s : State) : State :=
  (s.setEve { s.eve with current := some ⟨target, m :: ms, next⟩ }).setCmr { s.cmr with program := .verdictMark m }

section
variable {v : Verdict} {next : Continuation} {s : State}

theorem raise_stands (low : v.rank ≤ s.eve.verdict.rank) : raise v next s = (s, true) := by
  rw [raise, Verdict.higher_of_le low]
  exact if_pos rfl

theorem raise_set (rises : s.eve.verdict.rank < v.rank) (set : marksFor s.cmr v = []) :
    raise v next s = (s.setEve { s.eve with verdict := v }, true) := by
  have other : v ≠ s.eve.verdict := fun h => absurd rises (by rw [h]; exact lt_irrefl _)
  simp only [raise, Verdict.higher_of_lt rises, if_neg other, set]

theorem raise_marks {m : Verdict} {ms : List Verdict} (rises : s.eve.verdict.rank < v.rank)
    (marks : marksFor s.cmr v = m :: ms) : raise v next s = (marking v m ms next s, false) := by
  have other : v ≠ s.eve.verdict := fun h => absurd rises (by rw [h]; exact lt_irrefl _)
  simp only [raise, Verdict.higher_of_lt rises, if_neg other, marks]
  rfl

end

/-! ### Taking a piece (R86) -/

section
variable {p : Piece} {rest : List Piece} {s : State} (hr : running s = true) (current : s.eve.current = none)
  (program : s.cmr.program = .none) (work : s.eve.work = p :: rest)

/-- The state with the head of the work list taken. -/
def pieceTaken (rest : List Piece) (s : State) : State := s.setEve { s.eve with work := rest }

include work in
theorem takePiece_eq : takePiece s = pieceTaken rest s := by
  rw [takePiece, work]
  rfl

include hr current program work in
theorem nextPiece_head : nextPiece s = some p := by simp [nextPiece, hr, current, program, work]

end

section
variable {env : Env} {j : Joined} {rest : List Piece} {s : State} (hr : running s = true) (current : s.eve.current = none)
  (program : s.cmr.program = .none)
include hr current program

theorem exec_ordinaryClose (work : s.eve.work = .ordinary j :: rest) :
    exec (.ordinaryClose env) s = .next (settle env (lateConcluding (runClose j (pieceTaken rest s)))) := by
  change execOrdinaryClose env s = _
  simp only [execOrdinaryClose, done, nextPiece_head hr current program work, takePiece_eq work]

theorem exec_partialClose (work : s.eve.work = .partialClose j :: rest) :
    exec (.partialClose env) s = .next (settle env (runPartial j (pieceTaken rest s))) := by
  change execPartialClose env s = _
  simp only [execPartialClose, done, nextPiece_head hr current program work, takePiece_eq work]

theorem exec_lateRefusal (work : s.eve.work = .lateRefusal :: rest) :
    exec (.lateRefusal env) s = .next (settle env (lateConcluding (runLateRefusal (pieceTaken rest s)))) := by
  change execLateRefusal env s = _
  simp only [execLateRefusal, done, nextPiece_head hr current program work, takePiece_eq work]

theorem exec_restartRestoration {r : Report} {f : Facts} (work : s.eve.work = .restoration r f :: rest) :
    exec (.restartRestoration env) s = .next (settle env (runRestoration r f (pieceTaken rest s))) := by
  change execRestartRestoration env s = _
  simp only [execRestartRestoration, done, nextPiece_head hr current program work, takePiece_eq work]

end

/-- The state with the figures of a close taken, all but the verdict. -/
def accounted (rest : List Piece) (k : Close) (s : State) : State := s.setEve { k.eve with work := rest }

/-- The computation of a close does not read the work list. -/
theorem computeClose_pieceTaken (rest : List Piece) (j : Joined) (s : State) :
    (computeClose (pieceTaken rest s).cmr (pieceTaken rest s).eve j).entry = (computeClose s.cmr s.eve j).entry ∧
    (computeClose (pieceTaken rest s).cmr (pieceTaken rest s).eve j).rest = (computeClose s.cmr s.eve j).rest ∧
    (pieceTaken rest s).setEve (computeClose (pieceTaken rest s).cmr (pieceTaken rest s).eve j).eve =
      accounted rest (computeClose s.cmr s.eve j) s := ⟨rfl, rfl, rfl⟩

theorem computeClose_verdict (c : Cmr) (e : Eve) (j : Joined) : (computeClose c e j).eve.verdict = e.verdict := rfl

/-- A close that raises no verdict goes on to its entry at once. -/
theorem runClose_stands {rest : List Piece} {j : Joined} {s : State}
    (same : (computeClose s.cmr s.eve j).entry.verdict = s.eve.verdict) : runClose j (pieceTaken rest s) =
      offerEpoch (computeClose s.cmr s.eve j).entry (computeClose s.cmr s.eve j).rest
        (accounted rest (computeClose s.cmr s.eve j) s) := by
  have stands := raise_stands (v := (computeClose s.cmr s.eve j).entry.verdict)
    (next := .offerEpoch (computeClose s.cmr s.eve j).entry (computeClose s.cmr s.eve j).rest)
    (s := accounted rest (computeClose s.cmr s.eve j) s) (by rw [same]; exact le_rfl)
  have computed := congrArg (fun r : State × Bool =>
    if r.2 then offerEpoch (computeClose s.cmr s.eve j).entry (computeClose s.cmr s.eve j).rest r.1 else r.1) stands
  exact computed

/-- A close that raises the verdict programs its marks first. -/
theorem runClose_marks {rest : List Piece} {j : Joined} {s : State} {m : Verdict} {ms : List Verdict}
    (rises : s.eve.verdict.rank < (computeClose s.cmr s.eve j).entry.verdict.rank)
    (marks : marksFor s.cmr (computeClose s.cmr s.eve j).entry.verdict = m :: ms) : runClose j (pieceTaken rest s) =
      marking (computeClose s.cmr s.eve j).entry.verdict m ms
        (.offerEpoch (computeClose s.cmr s.eve j).entry (computeClose s.cmr s.eve j).rest)
        (accounted rest (computeClose s.cmr s.eve j) s) := by
  have raised := raise_marks (v := (computeClose s.cmr s.eve j).entry.verdict)
    (next := .offerEpoch (computeClose s.cmr s.eve j).entry (computeClose s.cmr s.eve j).rest)
    (s := accounted rest (computeClose s.cmr s.eve j) s) rises marks
  have computed := congrArg (fun r : State × Bool =>
    if r.2 then offerEpoch (computeClose s.cmr s.eve j).entry (computeClose s.cmr s.eve j).rest r.1 else r.1) raised
  exact computed

/-! ### Rises of the verdict (R95, R97, R100) -/

/-- With marks being programmed nothing is left for the third row of R156 while the close views are not taken. -/
theorem lateConcluding_untaken {s : State} (view : s.ptb.viewTaken = false) : lateConcluding s = s :=
  lateConcluding_waits (.inr (.inl view))

theorem quiet_marking {target m : Verdict} {ms : List Verdict} {next : Continuation} {s t : State} (rests : quiet s = true)
    (service : t.rqs.service = s.rqs.service) (store : t.store = s.store) (jst : t.jst = s.jst) :
    quiet (marking target m ms next t) = true :=
  quiet_of_program rests (t := marking target m ms next t) service store jst (.inr fun h => by cases h)

/-- A close of a quiet station that raises the verdict. -/
theorem exec_ordinaryClose_rises (env : Env) {j : Joined} {rest : List Piece} {s : State} (hr : running s = true)
    (rests : quiet s = true) (current : s.eve.current = none) (program : s.cmr.program = .none)
    (work : s.eve.work = .ordinary j :: rest) (view : s.ptb.viewTaken = false) {k : Close}
    (computed : computeClose s.cmr s.eve j = k) {m : Verdict} {ms : List Verdict}
    (rises : s.eve.verdict.rank < k.entry.verdict.rank) (marks : marksFor s.cmr k.entry.verdict = m :: ms) :
    exec (.ordinaryClose env) s =
      .next (kick env (marking k.entry.verdict m ms (.offerEpoch k.entry k.rest) (accounted rest k s))) := by
  subst computed
  rw [exec_ordinaryClose hr current program work, runClose_marks rises marks]
  refine congrArg Host.Outcome.next ((congrArg (settle env) (lateConcluding_untaken ?_)).trans (settle_quiet env ?_ ?_))
  · exact view
  · exact hr
  · exact quiet_marking rests rfl rfl rfl

theorem runLateRefusal_stands {s : State} (high : 2 ≤ s.eve.verdict.rank) : runLateRefusal s = endPiece s := by
  simp only [runLateRefusal, raise_stands (v := .unproven) (next := .done) high, if_true]

theorem runLateRefusal_set {s : State} (low : s.eve.verdict.rank < 2) (set : marksFor s.cmr .unproven = []) :
    runLateRefusal s = endPiece (s.setEve { s.eve with verdict := .unproven }) := by
  simp only [runLateRefusal, raise_set (v := .unproven) (next := .done) low set, if_true]

theorem runLateRefusal_marks {s : State} {m : Verdict} {ms : List Verdict} (low : s.eve.verdict.rank < 2)
    (marks : marksFor s.cmr .unproven = m :: ms) : runLateRefusal s = marking .unproven m ms .done s := by
  simp only [runLateRefusal, raise_marks (v := .unproven) (next := .done) low marks, Bool.false_eq_true, if_false]

/-- A piece that no mark makes wait leaves none under way. -/
theorem endPiece_eq {s : State} (current : s.eve.current = none) : endPiece s = s := by
  rw [endPiece, ← current]
  rfl

/-- Settles O31. -/
theorem raisesProgramMarksFirst : Obligations.RaisesProgramMarksFirst := by
  refine ⟨?_, ?_, fun env rest s logic rests current program work calm => ?_⟩
  · intro env j rest s logic rests current program work view intact highest
    generalize computed : computeClose s.cmr s.eve j = k
    intro _ marks level
    obtain ⟨strained, unproven, broken⟩ := marksFor_from.1 highest
    have close {v : Verdict} {ms : List Verdict} (verdict : k.entry.verdict = v) (high : 0 < v.rank)
        (marks : marksFor s.cmr v = .strained :: ms) :=
      exec_ordinaryClose_rises env (running_of_logic logic) rests current program work view computed
        (by rw [intact]; exact verdict.symm ▸ high) ((congrArg (marksFor s.cmr) verdict).trans marks)
    obtain ⟨verdict, rfl⟩ | ⟨verdict, rfl⟩ | ⟨verdict, rfl⟩ := level
    · exact close verdict (by decide) strained
    · exact close verdict (by decide) unproven
    · exact close verdict (by decide) broken
  · intro env j rest s logic rests current program work view
    generalize computed : computeClose s.cmr s.eve j = k
    intro _ m ms level
    have close {v w : Verdict} (old : s.eve.verdict = w) (verdict : k.entry.verdict = v) (high : w.rank < v.rank)
        (marks : marksFor s.cmr v = m :: ms) :=
      exec_ordinaryClose_rises env (running_of_logic logic) rests current program work view computed
        (by rw [old]; exact verdict.symm ▸ high) ((congrArg (marksFor s.cmr) verdict).trans marks)
    obtain ⟨old, highest, level⟩ | ⟨old, highest, set, verdict, first, others⟩ := level
    · obtain ⟨unproven, broken⟩ := marksFor_from.2.1 highest
      obtain ⟨verdict, first, others⟩ | ⟨verdict, first, others⟩ := level
      · exact close old verdict (by decide) (by rw [unproven, first, others])
      · exact close old verdict (by decide) (by rw [broken, first, others])
    · exact close old verdict (by decide) (by rw [marksFor_from.2.2 highest set, first, others])
  · have hr := running_of_logic logic
    have taken := exec_lateRefusal (env := env) hr current program work
    have ends (t : State) (run : runLateRefusal (pieceTaken rest s) = t) (late : emptyEpochWaits t = false)
        (runs : running t = true) (still : quiet t = true) : exec (.lateRefusal env) s = .next (kick env t) := by
      rw [taken, run, lateConcluding_calm late]
      exact congrArg Host.Outcome.next (settle_quiet env runs still)
    refine ⟨fun high => ?_, fun low highest => ?_, fun low strained unproven => ?_, fun low strained unproven => ?_⟩
    · exact ends (pieceTaken rest s) ((runLateRefusal_stands (s := pieceTaken rest s) high).trans
        (endPiece_eq (s := pieceTaken rest s) current)) calm hr
        ((quiet_congr rfl rfl rfl rfl).trans rests)
    · exact ends (marking .unproven .strained [.unproven] .done (pieceTaken rest s))
        (runLateRefusal_marks low (marksFor_from.1 highest).2.1) calm hr (quiet_marking rests rfl rfl rfl)
    · have marks : marksFor s.cmr .unproven = [.unproven] := by simp [marksFor_eq, strained, unproven, Verdict.rank]
      exact ends (marking .unproven .unproven [] .done (pieceTaken rest s)) (runLateRefusal_marks low marks) calm hr
        (quiet_marking rests rfl rfl rfl)
    · have marks : marksFor s.cmr .unproven = [] := by simp [marksFor_eq, strained, unproven, Verdict.rank]
      exact ends _ ((runLateRefusal_set (s := pieceTaken rest s) low marks).trans
        (endPiece_eq (s := (pieceTaken rest s).setEve _) current)) calm hr
        ((quiet_congr rfl rfl rfl rfl).trans rests)

/-! ### The end of a close (R98) -/

/-- The figures that a close computes are those of its entry. -/
theorem computeClose_eve (c : Cmr) (e : Eve) (j : Joined) : (computeClose c e j).eve = { e with
    exposure := (computeClose c e j).entry.exposure
    drawn := (computeClose c e j).entry.drawn
    run := (computeClose c e j).entry.run
    suspect := (computeClose c e j).entry.flags.suspect
    discord := (computeClose c e j).eve.discord
    concord := (computeClose c e j).eve.concord } := rfl

theorem computeClose_rest (c : Cmr) (e : Eve) (j : Joined) : (computeClose c e j).rest =
    { epoch := j.epoch
      quarters := j.readings.quarters
      inEpisode := j.door.inEpisode
      draw := (computeClose c e j).entry.draw
      air := j.readings.air.map Reading.value
      fit := j.readings.air.isSome && !(computeClose c e j).entry.flags.suspect } := rfl

/-- An entry joins the queue while an access that is not suspended is in progress. -/
theorem offer_entry (e : Entry) {i n : Nat} {s : State} (access : s.jst.access = .entry i n)
    (normal : s.jst.condition = .normal) (thawed : s.jst.frozen = false) (room : s.jst.queue.length < 6) :
    offer e s = (s.setJst { s.jst with queue := s.jst.queue ++ [e] }, true) := by
  rw [offer_accepted normal thawed room,
    suspend_other (s := s.setJst _) (by simp [access]) (by simp [access])]

section
variable {e : EpochEntry} {r : CloseEnd} {s : State}

theorem offerEpoch_accepted {i n : Nat} (access : s.jst.access = .entry i n) (normal : s.jst.condition = .normal)
    (thawed : s.jst.frozen = false) (room : s.jst.queue.length < 6) : offerEpoch e r s =
      finishClose r (s.setJst { s.jst with queue := s.jst.queue ++ [.epoch { e with verdict := s.eve.verdict }] }) := by
  simp only [offerEpoch, offer_entry _ access normal thawed room, if_true]

variable (full : s.jst.condition ≠ .normal ∨ s.jst.frozen = true ∨ 6 ≤ s.jst.queue.length)
include full

theorem offerEpoch_refused_stands (high : 2 ≤ s.eve.verdict.rank) : offerEpoch e r s = finishClose r s := by
  simp only [offerEpoch, offer_refused full, Bool.false_eq_true, if_false, raise_stands (v := .unproven) high, if_true]

theorem offerEpoch_refused_marks {m : Verdict} {ms : List Verdict} (low : s.eve.verdict.rank < 2)
    (marks : marksFor s.cmr .unproven = m :: ms) : offerEpoch e r s = marking .unproven m ms (.endClose r) s := by
  simp only [offerEpoch, offer_refused full, Bool.false_eq_true, if_false, raise_marks (v := .unproven) low marks]

end

theorem offerNote_content (c : Chc) (n : Note) (x : Option NoteContent) :
    Chc.offerNote { c with content := x } n = { c.offerNote n with content := x } := by
  unfold Chc.offerNote
  dsimp only
  split_ifs <;> rfl

section
variable {c : NoteContent} {s : State}

theorem takeContent_none (schedule : s.chc.schedule = .none) : takeContent c s = s.setChc { s.chc with content := some c } := by
  simp only [takeContent, State.setChc_chc, schedule]

theorem takeContent_waiting {e d : Nat} {arrived : Bool} (schedule : s.chc.schedule = .waiting e d arrived) :
    takeContent c s = s.setChc
      { s.chc with content := some c, schedule := .waiting e d (arrived || e == c.epoch) } := by
  simp only [takeContent, State.setChc_chc, schedule]
  rfl

theorem takeContent_due_other {e : Nat} (schedule : s.chc.schedule = .due e) (other : e ≠ c.epoch) :
    takeContent c s = s.setChc { s.chc with content := some c } := by
  simp only [takeContent, State.setChc_chc, schedule, if_neg other]

/-- A note due for the epoch of the content is offered at once. -/
theorem takeContent_due (schedule : s.chc.schedule = .due c.epoch) : takeContent c s = s.setChc
    { s.chc.offerNote
        { cls := s.cmr.cls
          air := c.air.map airByte
          fit := c.fit
          door := doorFlag s
          verdict := committedVerdict s
          leg := s.ptb.leg.getD 0 } with
      schedule := .none
      content := some c } := by
  have offered : takeContent c s = offerRegularNote (s.setChc { s.chc with content := some c }) := by
    simp only [takeContent, State.setChc_chc, schedule, if_true]
  rw [offered, offerRegularNote, composeNote_regular, State.setChc_chc, offerNote_content]
  rfl

theorem takeContent_frame (c : NoteContent) (s : State) : ∃ x, takeContent c s = s.setChc x := by
  unfold takeContent
  dsimp only
  split
  · exact ⟨_, rfl⟩
  · exact ⟨_, rfl⟩
  · split <;> exact ⟨_, rfl⟩

end

theorem offerClosing_frame (s : State) : ∃ j d, offerClosing s = (s.setJst j).setDmn d := by
  unfold offerClosing
  split
  · exact ⟨_, _, congrArg (fun t => State.setDmn t _) (offer_setJst _ s)⟩
  · exact ⟨s.jst, s.dmn, rfl⟩

theorem drawReport_frame (epoch draw : Nat) (s : State) : ∃ j d, drawReport epoch draw s = (s.setJst j).setDmn d := by
  unfold drawReport
  have opened : ∃ j d, (match s.dmn.episode with
      | some e => if e.start ≤ epoch then setEpisode (some { e with drawn := e.drawn + draw }) s else s
      | none => s) = (s.setJst j).setDmn d := by
    split
    · split
      · exact ⟨s.jst, _, rfl⟩
      · exact ⟨s.jst, s.dmn, rfl⟩
    · exact ⟨s.jst, s.dmn, rfl⟩
  dsimp only
  split
  · split
    · obtain ⟨j, d, offered⟩ := offerClosing_frame (s.setDmn _)
      exact ⟨j, d, offered⟩
    · split
      · exact ⟨s.jst, _, rfl⟩
      · exact opened
  · exact opened

/-- The end of an ordinary close with the schedule running: its draw report, its note content, the stall timer. -/
theorem finishClose_ordinary {r : CloseEnd} {s : State} (quarters : r.quarters = 4) (current : s.eve.current = none)
    (schedule : s.ret.schedule = .running) : finishClose r s =
      (takeContent ⟨r.epoch, r.air, r.fit⟩ (if r.inEpisode then drawReport r.epoch r.draw s else s)).setTmb
        { s.tmb with stall := some (8 * s.cmr.epochLength) } := by
  obtain ⟨j, d, reported⟩ : ∃ j d, (if r.inEpisode then drawReport r.epoch r.draw s else s) = (s.setJst j).setDmn d := by
    split
    · exact drawReport_frame ..
    · exact ⟨s.jst, s.dmn, rfl⟩
  obtain ⟨x, taken⟩ := takeContent_frame ⟨r.epoch, r.air, r.fit⟩ ((s.setJst j).setDmn d)
  have goes : ¬ (((s.setJst j).setDmn d).setChc x).ret.schedule = .stopped := by simp [schedule]
  rw [finishClose, if_pos quarters, finishOrdinary, reported]
  dsimp only
  rw [taken, startStall, if_neg goes, endPiece_eq]
  · rfl
  · exact current

/-! ### An ordinary close that raises no verdict (R97, R98) -/

/-- The state after an ordinary close with its figures taken and its entry offered or refused. -/
def closeEnded (rest : List Piece) (k : Close) (content : NoteContent) (chc : Chc) (dmn : Dmn) (offered : List Entry)
    (s : State) : State :=
  { accounted rest k s with
    jst := { s.jst with queue := s.jst.queue ++ offered }
    dmn := dmn
    chc := { chc with content := some content }
    tmb := { s.tmb with stall := some (8 * s.cmr.epochLength) } }

section
variable {rest : List Piece} {k : Close} {content : NoteContent} {s : State}

/-- The state in which a close's EPOCH entry has joined the queue. -/
def closeOffered (rest : List Piece) (k : Close) (s : State) : State :=
  (accounted rest k s).setJst { s.jst with queue := s.jst.queue ++ [.epoch k.entry] }

theorem offerEpoch_closeOffered {i n : Nat} (access : s.jst.access = .entry i n) (normal : s.jst.condition = .normal)
    (thawed : s.jst.frozen = false) (room : s.jst.queue.length < 6) (verdict : k.entry.verdict = k.eve.verdict) :
    offerEpoch k.entry k.rest (accounted rest k s) = finishClose k.rest (closeOffered rest k s) := by
  have entry : ({ k.entry with verdict := k.eve.verdict } : EpochEntry) = k.entry := by rw [← verdict]
  refine (offerEpoch_accepted (s := accounted rest k s) access normal thawed room).trans ?_
  exact congrArg (fun e => finishClose k.rest ((accounted rest k s).setJst
    { s.jst with queue := s.jst.queue ++ [.epoch e] })) entry

end

/-- Settles O30. -/
theorem ordinaryCloseAccounts : Obligations.OrdinaryCloseAccounts := by
  intro env j rest i n s logic current program work quarters calm access rests schedule
  have eve := computeClose_eve s.cmr s.eve j
  have close := computeClose_rest s.cmr s.eve j
  have verdict := computeClose_verdict s.cmr s.eve j
  have stands := runClose_stands (rest := rest) (j := j) (s := s)
  generalize computeClose s.cmr s.eve j = k at eve close verdict stands ⊢
  intro _ content figures closed same
  have hr := running_of_logic logic
  have free : k.eve.current = none := by
    rw [eve]
    exact current
  have inputs : k.eve.inputs = s.eve.inputs := by rw [eve]
  have whole : k.rest.quarters = 4 := by
    rw [close]
    exact quarters
  have taken := exec_ordinaryClose (env := env) hr current program work
  rw [stands same] at taken
  have ended (chc : Chc) (dmn : Dmn) (offered : List Entry) (taking : dmn.taking = s.dmn.taking)
      (run : offerEpoch k.entry k.rest (accounted rest k s) = closeEnded rest k content chc dmn offered s) :
      exec (.ordinaryClose env) s = .next (kick env (closed chc dmn offered)) := by
    have late : emptyEpochWaits (closeEnded rest k content chc dmn offered s) = false := by
      rw [← calm]
      simp only [emptyEpochWaits, closeEnded, accounted, State.setEve, taking, inputs]
    have state : closeEnded rest k content chc dmn offered s = closed chc dmn offered := by
      rw [closeEnded, accounted, eve]
      rfl
    rw [taken, run, lateConcluding_calm late, ← state]
    refine congrArg Host.Outcome.next (settle_busy env ?_ ?_ ?_)
    · exact hr
    · exact fun h => by simp [closeEnded, access] at h
    · exact checkpointRests_of_same rests rfl rfl rfl rfl (.inl rfl)
  refine ⟨fun normal thawed room => ?_, fun full outside waiting => ⟨fun high => ?_, fun marks level => ?_⟩⟩
  · have run := (offerEpoch_closeOffered (rest := rest) access normal thawed room (same.trans verdict.symm)).trans
      (finishClose_ordinary whole free schedule)
    have inEpisode : k.rest.inEpisode = j.door.inEpisode := by rw [close]
    have epoch : k.rest.epoch = j.epoch := by rw [close]
    have draw : k.rest.draw = k.entry.draw := by rw [close]
    have note : (⟨k.rest.epoch, k.rest.air, k.rest.fit⟩ : NoteContent) = content := by rw [close]
    rw [note, inEpisode, draw, epoch] at run
    have outsideEnds (chc : Chc) (outside : j.door.inEpisode = false) (take : takeContent content (closeOffered rest k s) =
        (closeOffered rest k s).setChc { chc with content := some content }) :
        exec (.ordinaryClose env) s = .next (kick env (closed chc s.dmn [.epoch k.entry])) := by
      rw [if_neg (by simp [outside]), take] at run
      exact ended _ _ _ rfl run
    have insideEnds (j' : Jst) (dmn : Dmn) (offered : List Entry) (inside : j.door.inEpisode = true)
        (waiting : s.chc.schedule = .none) (taking : dmn.taking = s.dmn.taking)
        (queue : j' = { s.jst with queue := s.jst.queue ++ offered })
        (report : drawReport j.epoch k.entry.draw (closeOffered rest k s) =
          ((closeOffered rest k s).setJst j').setDmn dmn) :
        exec (.ordinaryClose env) s = .next (kick env (closed s.chc dmn offered)) := by
      subst queue
      rw [if_pos inside, report] at run
      exact ended _ _ _ taking (run.trans (congrArg (fun t => State.setTmb t _)
        (takeContent_none (s := ((closeOffered rest k s).setJst _).setDmn dmn) waiting)))
    have reports := lightMovesTheLatchAndTheEpisode.2.2.2.2.1 j.epoch k.entry.draw (closeOffered rest k s)
    refine ⟨fun outside waiting => ?_, fun e d arrived outside waiting => ?_, fun e outside due other => ?_,
      fun outside due => ?_, fun e inside waiting closing episode starts => ?_, fun c inside waiting closing =>
        ⟨fun ends space => ?_, fun stop ends starts before => ?_⟩⟩
    · exact outsideEnds _ outside (takeContent_none (s := closeOffered rest k s) waiting)
    · exact outsideEnds { s.chc with schedule := .waiting e d (arrived || e == j.epoch) } outside
        (takeContent_waiting (s := closeOffered rest k s) waiting)
    · exact outsideEnds _ outside (takeContent_due_other (s := closeOffered rest k s) due other)
    · have door : doorFlag (closeOffered rest k s) = doorFlag s := by
        rw [closeOffered, accounted, eve]
        rfl
      have standing : committedVerdict (closeOffered rest k s) = committedVerdict s := by
        rw [closeOffered, accounted, eve]
        rfl
      have air : content.air.map airByte = j.readings.air.map fun r => airByte r.value := Option.map_map ..
      have take := takeContent_due (c := content) (s := closeOffered rest k s) due
      rw [door, standing, air] at take
      exact outsideEnds { s.chc.offerNote _ with schedule := .none } outside take
    · exact insideEnds _ _ _ inside waiting rfl rfl ((reports.2.2.2.1 e closing episode).trans (if_pos starts))
    · have door := offer_entry (.door ⟨c.start, j.epoch, c.origin, c.overrun, c.drawn + k.entry.draw, false, s.ret.epoch⟩)
        (s := closeOffered rest k s) access normal thawed (by
          simp only [closeOffered, State.setJst_jst, List.length_append, List.length_singleton]
          omega)
      refine insideEnds { s.jst with queue := s.jst.queue ++ [.epoch k.entry] ++ [.door _] } _
        [.epoch k.entry, .door _] inside waiting rfl (by rw [List.append_assoc]; rfl) ((reports.1 c closing ends).trans ?_)
      exact congrArg (fun o : State × Bool => State.setDmn o.1 { s.dmn with closing := none }) door
    · exact insideEnds _ _ _ inside waiting rfl rfl (reports.2.1 c stop closing ends starts before)
  · have verdict' : 2 ≤ (accounted rest k s).eve.verdict.rank := by
      rw [accounted, State.setEve_eve]
      exact verdict ▸ high
    have run := (offerEpoch_refused_stands (e := k.entry) (r := k.rest) (s := accounted rest k s) full verdict').trans
      (finishClose_ordinary whole free schedule)
    have inEpisode : k.rest.inEpisode = false := by
      rw [close]
      exact outside
    have note : (⟨k.rest.epoch, k.rest.air, k.rest.fit⟩ : NoteContent) = content := by rw [close]
    rw [if_neg (by simp [inEpisode]), note, takeContent_none (s := accounted rest k s) waiting] at run
    refine ended s.chc s.dmn [] rfl (run.trans ?_)
    rw [closeEnded, List.append_nil]
    rfl
  · have marked (m : Verdict) (ms : List Verdict) (low : s.eve.verdict.rank < 2) (set : marksFor s.cmr .unproven = m :: ms) :
        exec (.ordinaryClose env) s = .next (kick env (marking .unproven m ms (.endClose k.rest) (accounted rest k s))) := by
      have low' : (accounted rest k s).eve.verdict.rank < 2 := by
        rw [accounted, State.setEve_eve]
        exact verdict.symm ▸ low
      have late : emptyEpochWaits (marking .unproven m ms (.endClose k.rest) (accounted rest k s)) = false := by
        rw [← calm]
        simp only [emptyEpochWaits, marking, accounted, State.setEve, State.setCmr, inputs]
      rw [taken, offerEpoch_refused_marks (s := accounted rest k s) full low' set, lateConcluding_calm late]
      refine congrArg Host.Outcome.next (settle_busy env ?_ ?_ ?_)
      · exact hr
      · exact fun h => by simp [marking, accounted, access] at h
      · exact checkpointRests_of_same rests rfl rfl rfl rfl (.inr fun h => by cases h)
    have state (m : Verdict) (ms : List Verdict) : marking .unproven m ms (.endClose k.rest) (accounted rest k s) =
        { figures with
          eve := { figures.eve with current := some ⟨.unproven, m :: ms, .endClose k.rest⟩ }
          cmr := { s.cmr with program := .verdictMark m } } := by
      rw [marking, accounted, eve]
      rfl
    obtain ⟨old, highest, rfl⟩ | ⟨old, highest, rfl⟩ := level
    · exact (marked _ _ (by rw [old]; decide) (marksFor_from.1 highest).2.1).trans
        (congrArg (fun t => Host.Outcome.next (kick env t)) (state _ _))
    · exact (marked _ _ (by rw [old]; decide) (marksFor_from.2.1 highest).1).trans
        (congrArg (fun t => Host.Outcome.next (kick env t)) (state _ _))

end Sys2Proof.Machine

/-! Restorations and partial closes (R101 to R104, R156). -/

namespace Sys2Proof.Machine

/-! ### The GAP entries of a known stretch (R103) -/

theorem sum_pieces (n m : Nat) : ∀ k, ((List.range k).map fun i => min m (n - i * m)).sum = min n (k * m)
  | 0 => by simp
  | k + 1 => by
    have next : (k + 1) * m = k * m + m := by ring
    rw [List.range_succ, List.map_append, List.sum_append, sum_pieces n m k, next]
    simp only [List.map_cons, List.map_nil, List.sum_cons, List.sum_nil]
    omega

theorem knownGaps_count (first n : Nat) (cause : GapCause) :
    (knownGaps first n cause).map (fun g => g.count.getD 0) =
      (List.range ((n + 65534) / 65535)).map fun i => min 65535 (n - i * 65535) := by
  rw [knownGaps, List.map_map]
  rfl

/-- A stretch of known length is cut into consecutive GAP entries, all full but the last. -/
theorem knownGaps_spec (first n : Nat) (cause : GapCause) :
    ((knownGaps first n cause).map fun g => g.count.getD 0).sum = n ∧
    (∀ g ∈ knownGaps first n cause, ∃ m, g.count = some m ∧ 1 ≤ m ∧ m ≤ 65535 ∧ g.cause = cause) ∧
    (∀ i, (h : i + 1 < (knownGaps first n cause).length) →
      (knownGaps first n cause)[i].count = some 65535 ∧
      (knownGaps first n cause)[i + 1].first = (knownGaps first n cause)[i].first + 65535) ∧
    (∀ g, (knownGaps first n cause).head? = some g → g.first = first) := by
  have length : (knownGaps first n cause).length = (n + 65534) / 65535 := by
    rw [knownGaps, List.length_map, List.length_range]
    rfl
  refine ⟨?_, fun g hg => ?_, fun i hi => ?_, fun g hg => ?_⟩
  · rw [knownGaps_count, sum_pieces]
    omega
  · obtain ⟨i, hi, rfl⟩ := List.mem_map.mp hg
    have below : i < (n + 65534) / 65535 := List.mem_range.mp hi
    refine ⟨_, rfl, ?_, Nat.min_le_left .., rfl⟩
    simp only [Config.maxRun]
    omega
  · rw [length] at hi
    simp only [knownGaps, List.getElem_map, List.getElem_range, Config.maxRun, Option.some.injEq]
    omega
  · rw [knownGaps, List.head?_map] at hg
    obtain ⟨i, hi, rfl⟩ := Option.map_eq_some_iff.mp hg
    have zero : i = 0 := by
      cases hk : (n + Config.maxRun - 1) / Config.maxRun with
      | zero => simp [hk] at hi
      | succ k => simpa [hk, List.range_succ_eq_map] using hi.symm
    simp [zero]

theorem knownGaps_one {first n : Nat} (cause : GapCause) (some1 : 1 ≤ n) (few : n ≤ 65535) :
    knownGaps first n cause = [⟨first, some n, cause, 0, .intact⟩] := by
  have one : (n + Config.maxRun - 1) / Config.maxRun = 1 := by
    simp only [Config.maxRun]
    omega
  rw [knownGaps, one]
  simp [Config.maxRun, few]

/-! ### GAP entries one by one (R97, R100, R103, R104) -/

section
variable {g : GapEntry} {rest : List GapEntry} {s : State}

theorem offerGap_accepted {i n : Nat} (access : s.jst.access = .entry i n) (normal : s.jst.condition = .normal)
    (thawed : s.jst.frozen = false) (room : s.jst.queue.length < 6) : offerGap g rest s =
      (s.setJst { s.jst with queue := s.jst.queue ++ [.gap { g with verdict := s.eve.verdict }] }, true) := by
  simp only [offerGap, offer_entry _ access normal thawed room, if_true]

theorem offerGap_refused (full : s.jst.condition ≠ .normal ∨ s.jst.frozen = true ∨ 6 ≤ s.jst.queue.length)
    (high : 2 ≤ s.eve.verdict.rank) : offerGap g rest s = (s, true) := by
  simp only [offerGap, offer_refused full, Bool.false_eq_true, if_false, raise_stands (v := .unproven) high]

/-- The state with a GAP's epochs added to the run. -/
def gapCounted (g : GapEntry) (s : State) : State := s.setEve { s.eve with run := gapRun s.eve.run g.count }

/-- A GAP whose candidate raises nothing is offered at once. -/
theorem runGaps_stands (low : (gapCandidate s.cmr.gapAllowance (gapRun s.eve.run g.count) g.count).rank ≤ s.eve.verdict.rank) :
    runGaps (g :: rest) s =
      if (offerGap { g with run := gapRun s.eve.run g.count } rest (gapCounted g s)).2 then
        runGaps rest (offerGap { g with run := gapRun s.eve.run g.count } rest (gapCounted g s)).1
      else (offerGap { g with run := gapRun s.eve.run g.count } rest (gapCounted g s)).1 := by
  have stands := raise_stands (v := gapCandidate s.cmr.gapAllowance (gapRun s.eve.run g.count) g.count)
    (next := .offerGap { g with run := gapRun s.eve.run g.count } rest) (s := gapCounted g s) low
  rw [runGaps]
  exact congrArg (fun r : State × Bool => if r.2 then
      if (offerGap { g with run := gapRun s.eve.run g.count } rest r.1).2 then
        runGaps rest (offerGap { g with run := gapRun s.eve.run g.count } rest r.1).1
      else (offerGap { g with run := gapRun s.eve.run g.count } rest r.1).1
    else r.1) stands

section
variable (low : (gapCandidate s.cmr.gapAllowance (gapRun s.eve.run g.count) g.count).rank ≤ s.eve.verdict.rank)
include low

/-- A GAP that raises nothing joins the queue, and the next one follows. -/
theorem runGaps_offered {i n : Nat} (access : s.jst.access = .entry i n) (normal : s.jst.condition = .normal)
    (thawed : s.jst.frozen = false) (room : s.jst.queue.length < 6) : runGaps (g :: rest) s =
      runGaps rest ((gapCounted g s).setJst { s.jst with
        queue := s.jst.queue ++ [.gap { g with run := gapRun s.eve.run g.count, verdict := s.eve.verdict }] }) := by
  rw [runGaps_stands low, offerGap_accepted (s := gapCounted g s) access normal thawed room]
  exact if_pos rfl

/-- A GAP refused at the offer leaves a verdict of UNPROVEN or BROKEN as it is, and the next one follows. -/
theorem runGaps_refused (full : s.jst.condition ≠ .normal ∨ s.jst.frozen = true ∨ 6 ≤ s.jst.queue.length)
    (high : 2 ≤ s.eve.verdict.rank) : runGaps (g :: rest) s = runGaps rest (gapCounted g s) := by
  rw [runGaps_stands low, offerGap_refused (s := gapCounted g s) full high]
  exact if_pos rfl

end

theorem runGaps_nil (current : s.eve.current = none) : runGaps [] s = s := by
  rw [runGaps, endPiece_eq current]

/-- A GAP that asks for UNPROVEN programs its marks first. -/
theorem runGaps_marks (candidate : gapCandidate s.cmr.gapAllowance (gapRun s.eve.run g.count) g.count = .unproven)
    (low : s.eve.verdict.rank < 2) {m : Verdict} {ms : List Verdict} (marks : marksFor s.cmr .unproven = m :: ms) :
    runGaps (g :: rest) s =
      marking .unproven m ms (.offerGap { g with run := gapRun s.eve.run g.count } rest) (gapCounted g s) := by
  have raised := raise_marks (v := .unproven) (next := .offerGap { g with run := gapRun s.eve.run g.count } rest)
    (s := gapCounted g s) low marks
  rw [runGaps]
  rw [candidate]
  exact congrArg (fun r : State × Bool => if r.2 then
      if (offerGap { g with run := gapRun s.eve.run g.count } rest r.1).2 then
        runGaps rest (offerGap { g with run := gapRun s.eve.run g.count } rest r.1).1
      else (offerGap { g with run := gapRun s.eve.run g.count } rest r.1).1
    else r.1) raised

end

/-! ### A restoration (R102) -/

/-- The state with the figures of a restoration. -/
def restored (rest : List Piece) (r : Report) (f : Facts) (s : State) : State :=
  s.setEve (restoredEve s.cmr { s.eve with work := rest } r.station f)

theorem runRestoration_eq (rest : List Piece) (r : Report) (f : Facts) (s : State) :
    runRestoration r f (pieceTaken rest s) = runGaps (gapsOf r f) (restored rest r f s) := rfl

theorem restoredEve_current (c : Cmr) (e : Eve) (station : Station) (f : Facts) : (restoredEve c e station f).current = e.current := by
  cases station <;> rfl

/-- A restoration without GAP entries is done at once. -/
theorem exec_restartRestoration_done (env : Env) {r : Report} {f : Facts} {rest : List Piece} {s : State}
    (hr : running s = true) (rests : quiet s = true) (current : s.eve.current = none) (program : s.cmr.program = .none)
    (work : s.eve.work = .restoration r f :: rest) (gaps : gapsOf r f = []) :
    exec (.restartRestoration env) s = .next (kick env (restored rest r f s)) := by
  rw [exec_restartRestoration hr current program work, runRestoration_eq, gaps, runGaps, endPiece_eq]
  · exact congrArg Host.Outcome.next (settle_quiet env (s := restored rest r f s) hr
      ((quiet_congr rfl rfl rfl rfl).trans rests))
  · exact (restoredEve_current ..).trans current

theorem gapsOf_away {r : Report} (f : Facts) (away : r.station ≠ .active) : gapsOf r f = [] := by
  unfold gapsOf
  cases station : r.station <;> simp_all

/-- The standing of the last coverage entry, by its kind. -/
theorem coverageStanding_eq {f : Facts} {run : Nat} {last : Verdict}
    (covered : (f.lastCoverage = none ∧ run = 0 ∧ last = .intact) ∨
      (∃ e, f.lastCoverage = some (.epoch e) ∧ run = e.run ∧ last = e.verdict) ∨
      (∃ e, f.lastCoverage = some (.run e) ∧ run = 0 ∧ last = e.verdict) ∨
      (∃ e, f.lastCoverage = some (.gap e) ∧ run = e.run ∧ last = e.verdict)) :
    coverageStanding f.lastCoverage = (run, last) := by
  obtain ⟨none, rfl, rfl⟩ | ⟨e, some, rfl, rfl⟩ | ⟨e, some, rfl, rfl⟩ | ⟨e, some, rfl, rfl⟩ := covered
  · rw [none]
    rfl
  all_goals
    rw [some]
    rfl

theorem gapRun_some (run n : Nat) : gapRun run (some n) = min 65535 (run + n) := rfl

theorem gapCandidate_some (allowance run n : Nat) :
    gapCandidate allowance run (some n) = if allowance < run then .unproven else .intact := rfl

theorem gapCandidate_le_unproven (allowance run : Nat) (count : Option Nat) : (gapCandidate allowance run count).rank ≤ 2 := by
  cases count with
  | none => exact le_rfl
  | some n =>
    rw [gapCandidate_some]
    split <;> decide

/-- The figures of a restoration in ACTIVE, with a run. -/
def rebuiltActive (rest : List Piece) (account : Nat × Nat) (run : Nat) (last working : Verdict) (s : State) : State :=
  s.setEve { s.eve with
    work := rest
    exposure := account.1
    drawn := account.2
    run := run
    verdict := working
    committedExposure := account.1
    committedDrawn := account.2
    lastVerdict := last
    suspect := false
    discord := 0
    concord := 0 }

theorem restored_active {rest : List Piece} {r : Report} {f : Facts} {s : State} {run : Nat} {last : Verdict}
    (station : r.station = .active) (standing : coverageStanding f.lastCoverage = (run, last)) :
    restored rest r f s =
      rebuiltActive rest (f.lastAccount.getD (0, 0)) run last (last.higher s.cmr.highestMark) s := by
  simp only [restored, restoredEve, station, standing] <;> rfl

/-- Settles O33. -/
theorem restorationRebuildsFigures : Obligations.RestorationRebuildsFigures := by
  refine ⟨?_, knownGaps_spec⟩
  intro env r f rest s logic current program work rebuilt account
  have hr := running_of_logic logic
  refine ⟨fun rests away => ?_, ?_⟩
  · have gaps : gapsOf r f = [] := gapsOf_away f (by
      obtain blank | dormant := away
      · simp [blank]
      · simp [dormant])
    rw [exec_restartRestoration_done env hr rests current program work gaps]
    obtain blank | dormant := away
    · simp only [restored, restoredEve, blank] <;> rfl
    · simp only [restored, restoredEve, dormant] <;> rfl
  · intro run last covered working next
    have standing := coverageStanding_eq covered
    refine ⟨fun rests station none => ?_, ?_, ?_⟩
    · have gaps : gapsOf r f = [] := by simp only [gapsOf, station, none]
      rw [exec_restartRestoration_done env hr rests current program work gaps, restored_active station standing]
      rfl
    · intro rests station final
      have gaps : gapsOf r f = [] := gapsOf_away f (by simp [station])
      rw [exec_restartRestoration_done env hr rests current program work gaps]
      simp only [restored, restoredEve, station, standing] <;> rfl
    · intro i n m cause run' station access rests finding gap offered
      obtain ⟨gaps, rfl, unknown⟩ : gapsOf r f = [⟨next, if m = 0 then none else some m, cause, 0, .intact⟩] ∧
          gapRun run (if m = 0 then none else some m) = run' ∧
          gapCandidate s.cmr.gapAllowance run' (if m = 0 then none else some m) =
            if m = 0 ∨ s.cmr.gapAllowance < run' then .unproven else .intact := by
        obtain ⟨count, some1, few, rfl, kind⟩ | ⟨unknown, rfl, rfl, rfl⟩ := finding
        · have positive : ¬ m = 0 := by omega
          have same : GapCause.ofRestart r.cause = cause := by
            obtain ⟨h, rfl⟩ | ⟨h, rfl⟩ := kind <;> rw [h] <;> rfl
          simp only [gapsOf, station, count, same, knownGaps_one _ some1 few, positive, if_false, false_or]
          exact ⟨rfl, rfl, rfl⟩
        · simp only [gapsOf, station, unknown, if_true, true_or]
          exact ⟨rfl, rfl, rfl⟩
      have taken := exec_restartRestoration (env := env) hr current program work
      rw [runRestoration_eq, gaps, restored_active station standing] at taken
      refine ⟨fun low normal thawed room => ?_, fun marks level high => ?_⟩
      · have low' : (gapCandidate s.cmr.gapAllowance (gapRun run (if m = 0 then none else some m))
            (if m = 0 then none else some m)).rank ≤ working.rank := by
          rw [unknown]
          by_cases high : m = 0 ∨ s.cmr.gapAllowance < gapRun run (if m = 0 then none else some m)
          · rw [if_pos high]
            exact low.resolve_left (by omega)
          · rw [if_neg high]
            exact Nat.zero_le _
        have gone := (runGaps_offered (g := ⟨next, if m = 0 then none else some m, cause, 0, .intact⟩) (rest := [])
          (s := rebuiltActive rest account run last working s) low' access normal thawed
          room).trans (runGaps_nil current)
        rw [taken, gone]
        have state : (gapCounted ⟨next, if m = 0 then none else some m, cause, 0, .intact⟩
            (rebuiltActive rest account run last working s)).setJst { s.jst with queue := s.jst.queue ++ [.gap ⟨next,
              if m = 0 then none else some m, cause, gapRun run (if m = 0 then none else some m), working⟩] } =
            offered (rebuilt account.1 account.2 (gapRun run (if m = 0 then none else some m)) last working) working := rfl
        refine congrArg Host.Outcome.next ((settle_busy env ?_ ?_ ?_).trans (congrArg (kick env) state))
        · exact hr
        · exact fun h => by cases access.symm.trans h
        · exact checkpointRests_of_same rests rfl rfl rfl rfl (.inl rfl)
      · have candidate : gapCandidate s.cmr.gapAllowance (gapRun run (if m = 0 then none else some m))
            (if m = 0 then none else some m) = .unproven := by
          rw [unknown, if_pos high]
        have marked (v : Verdict) (ms : List Verdict) (low : working.rank < 2) (set : marksFor s.cmr .unproven = v :: ms) :
            exec (.restartRestoration env) s = .next (kick env (marking .unproven v ms (.offerGap (gap .intact) [])
              (rebuilt account.1 account.2 (gapRun run (if m = 0 then none else some m)) last
                working))) := by
          have gone := runGaps_marks (g := ⟨next, if m = 0 then none else some m, cause, 0, .intact⟩) (rest := [])
            (s := rebuiltActive rest account run last working s) candidate low set
          have state : marking .unproven v ms (.offerGap ⟨next, if m = 0 then none else some m, cause,
              gapRun run (if m = 0 then none else some m), .intact⟩ []) (gapCounted
                ⟨next, if m = 0 then none else some m, cause, 0, .intact⟩ (rebuiltActive rest account run last working s)) =
              marking .unproven v ms (.offerGap (gap .intact) []) (rebuilt account.1 account.2
                (gapRun run (if m = 0 then none else some m)) last working) := rfl
          rw [taken, gone]
          refine congrArg Host.Outcome.next ((settle_busy env ?_ ?_ ?_).trans (congrArg (kick env) state))
          · exact hr
          · exact fun h => by cases access.symm.trans h
          · exact checkpointRests_of_same rests rfl rfl rfl rfl (.inr fun h => by cases h)
        obtain ⟨old, highest, rfl⟩ | ⟨strained, highest, rfl⟩ := level
        · have intact : working = .intact := by
            simp only [working, old, highest]
            rfl
          exact marked _ _ (by rw [intact]; decide) (marksFor_from.1 highest).2.1
        · exact marked _ _ (by rw [strained]; decide) (marksFor_from.2.1 highest).1

end Sys2Proof.Machine


/-! The close of a conclusion, and the end of a verdict mark's program (R95 to R104, R156, R157). -/

namespace Sys2Proof.Machine

/-! ### What the door monitor's close changes (R81, R157) -/

theorem offerDoor_frame (e : Episode) (stop : Nat) (conclusion : Bool) (s : State) :
    offerDoor e stop conclusion s = s.setJst (offerDoor e stop conclusion s).jst := offer_setJst _ s

theorem offer_access_entry (e : Entry) {i n : Nat} {s : State} (access : s.jst.access = .entry i n) :
    (offer e s).1.jst.access = .entry i n := by
  unfold offer
  split
  · dsimp only
    rw [suspend_other (s := s.setJst _) (by simp [access]) (by simp [access])]
    exact access
  · exact access

theorem offerDoor_access_entry (e : Episode) (stop : Nat) (conclusion : Bool) {i n : Nat} {s : State}
    (access : s.jst.access = .entry i n) : (offerDoor e stop conclusion s).jst.access = .entry i n :=
  offer_access_entry _ access

theorem offerClosing_access_entry {i n : Nat} {s : State} (access : s.jst.access = .entry i n) :
    (offerClosing s).jst.access = .entry i n := by
  unfold offerClosing
  split
  · exact offerDoor_access_entry _ _ _ access
  · exact access

theorem offerClosing_nextSeq (s : State) : (offerClosing s).jst.nextSeq = s.jst.nextSeq := by
  unfold offerClosing
  split
  · exact offer_nextSeq _ s
  · rfl

/-- A conclusion's close: the waiting record, which takes the draw where it ends in the final epoch, and then the open
one. -/
theorem closeForConclusion_eq (draw : Nat) (final : Option Nat) (s : State) : ∃ d draw',
    closeForConclusion draw final s = closeOpenRecord draw' final (offerClosing (s.setDmn d)) := by
  cases closing : s.dmn.closing with
  | none =>
    refine ⟨s.dmn, draw, (closeForConclusion_none closing).trans (congrArg (closeOpenRecord draw final) ?_)⟩
    exact (offerClosing_none closing).symm
  | some c =>
    by_cases last : (final.isSome && c.stop == final) = true
    · refine ⟨{ s.dmn with closing := some { c with drawn := c.drawn + draw } }, 0, ?_⟩
      simp only [closeForConclusion, closing, last, if_true, Option.map_some, closeOpenRecord] <;> rfl
    · refine ⟨s.dmn, draw, ?_⟩
      simp only [closeForConclusion, closing, last, Bool.false_eq_true, if_false, closeOpenRecord] <;> rfl

/-- The close of a conclusion changes the door monitor and the journal store's state alone, and no entry program. -/
theorem closeForConclusion_frame (draw : Nat) (final : Option Nat) (s : State) :
    ∃ j d, closeForConclusion draw final s = (s.setJst j).setDmn d ∧ j.nextSeq = s.jst.nextSeq ∧
      ∀ i n, s.jst.access = .entry i n → j.access = .entry i n := by
  obtain ⟨d₀, draw', eq⟩ := closeForConclusion_eq draw final s
  obtain ⟨j, d, closed⟩ := offerClosing_frame (s.setDmn d₀)
  have seq : j.nextSeq = s.jst.nextSeq := by
    have still := offerClosing_nextSeq (s.setDmn d₀)
    rw [closed] at still
    exact still
  have kept (i n : Nat) (access : s.jst.access = .entry i n) : j.access = .entry i n := by
    have still := offerClosing_access_entry (s := s.setDmn d₀) access
    rw [closed] at still
    exact still
  rw [eq, closed, closeOpenRecord]
  split
  · exact ⟨_, _, (congrArg (fun t => State.setDmn t _) (offerDoor_frame _ _ _ _)).trans rfl,
      (offer_nextSeq _ ((s.setJst j).setDmn d)).trans seq, fun i n access => offerDoor_access_entry (s := (s.setJst j).setDmn d) _ _ _ (kept i n access)⟩
  · exact ⟨j, d, rfl, seq, kept⟩

/-! ### The concluding figures (R101, R156, R157) -/

section
variable {s : State}

/-- The state in which a conclusion has its figures and the door monitor has closed. -/
def handed (reader : PartyId) (tag : List Byte) (final : Option Nat) (draw : Nat) (s : State) : State :=
  { closeForConclusion draw final s with rqs := { s.rqs with service := some (.conclude reader tag (.draining final)) } }

theorem handed_frame (reader : PartyId) (tag : List Byte) (final : Option Nat) (draw : Nat) (s : State) :
    ∃ j d, handed reader tag final draw s =
        { s with
          jst := j
          dmn := d
          rqs := { s.rqs with service := some (.conclude reader tag (.draining final)) } } ∧
      j.nextSeq = s.jst.nextSeq ∧ ∀ i n, s.jst.access = .entry i n → j.access = .entry i n := by
  obtain ⟨j, d, closed, seq, kept⟩ := closeForConclusion_frame draw final s
  refine ⟨j, d, ?_, seq, kept⟩
  rw [handed, closed]
  rfl

theorem concludingFigures_other (epoch quarters draw : Nat)
    (other : ∀ reader tag late, s.rqs.service ≠ some (.conclude reader tag (.closing late))) :
    concludingFigures epoch quarters draw s = s := by
  unfold concludingFigures
  split
  · exact absurd ‹_› (other _ _ _)
  · rfl

theorem concludingFigures_closing {reader : PartyId} {tag : List Byte} {late : Overtaken} (epoch quarters draw : Nat)
    (service : s.rqs.service = some (.conclude reader tag (.closing late))) :
    concludingFigures epoch quarters draw s = handed reader tag (finalEpoch s epoch quarters) draw s := by
  rw [handed, ← closeForConclusion_rqs draw (finalEpoch s epoch quarters) s]
  simp only [concludingFigures, service] <;> rfl

/-- The figures of a conclusion leave the core of the state as it is. -/
theorem concludingFigures_core (epoch quarters draw : Nat) (s : State) :
    SameCore s (concludingFigures epoch quarters draw s) := by
  by_cases closing : ∃ reader tag late, s.rqs.service = some (.conclude reader tag (.closing late))
  · obtain ⟨reader, tag, late, service⟩ := closing
    obtain ⟨j, d, frame, seq, -⟩ := handed_frame reader tag (finalEpoch s epoch quarters) draw s
    have concludes : concluding s = true := by simp [concluding, service]
    rw [concludingFigures_closing epoch quarters draw service, frame]
    constructor
    case nextSeq => exact seq
    case work => exact ⟨0, (List.append_nil _).symm⟩
    case trip => exact fun no => by simp [concludes] at no
    all_goals rfl
  · rw [concludingFigures_other epoch quarters draw fun reader tag late service => closing ⟨reader, tag, late, service⟩]
    exact .refl s

theorem finalEpoch_some (epoch : Nat) {quarters : Nat} (some1 : quarters ≠ 0) : finalEpoch s epoch quarters = some epoch :=
  if_pos some1

theorem finalEpoch_empty (epoch : Nat) : finalEpoch s epoch 0 =
    if s.ret.schedule = .stopped then some Config.maxEpoch
    else if epoch = s.ret.firstEpoch ∨ epoch = 0 then none
    else some (epoch - 1) := rfl

/-- With an entry program in progress a command that hands a conclusion its figures ends with the transmitter. -/
theorem settle_handed (env : Env) (reader : PartyId) (tag : List Byte) (final : Option Nat) (draw : Nat)
    (hr : running s = true) {i n : Nat} (access : s.jst.access = .entry i n) :
    settle env (handed reader tag final draw s) = kick env (handed reader tag final draw s) := by
  obtain ⟨j, d, frame, -, kept⟩ := handed_frame reader tag final draw s
  rw [frame]
  refine settle_busy env ?_ ?_ rfl
  · exact hr
  · exact fun free => by cases (kept i n access).symm.trans free

/-! ### A partial close (R101) -/

theorem runPartial_empty {j : Joined} (empty : j.readings.quarters = 0) (current : s.eve.current = none) :
    runPartial j s = concludingFigures j.epoch 0 0 s := by
  rw [runPartial, if_pos empty, endPiece_eq]
  exact (concludingFigures_core ..).current.trans current

theorem runPartial_some {j : Joined} (some1 : 1 ≤ j.readings.quarters) : runPartial j s = runClose j s := if_neg (by omega)

theorem finishClose_partial {r : CloseEnd} (few : r.quarters < 4) (current : s.eve.current = none) :
    finishClose r s = concludingFigures r.epoch r.quarters r.draw s := by
  rw [finishClose, if_neg (by omega), endPiece_eq]
  exact (concludingFigures_core ..).current.trans current

theorem offerEpoch_accepts {e : EpochEntry} {r : CloseEnd} (normal : s.jst.condition = .normal)
    (thawed : s.jst.frozen = false) (room : s.jst.queue.length < 6) :
    offerEpoch e r s = finishClose r (offer (.epoch { e with verdict := s.eve.verdict }) s).1 := by
  simp only [offerEpoch, offer_accepted normal thawed room, if_true]

theorem full_of_not_accepts (refuses : ¬ (s.jst.condition = .normal ∧ s.jst.frozen = false ∧ s.jst.queue.length < 6)) :
    s.jst.condition ≠ .normal ∨ s.jst.frozen = true ∨ 6 ≤ s.jst.queue.length := by
  by_contra none
  push Not at none
  exact refuses ⟨none.1, by simpa using none.2.1, none.2.2⟩

theorem any_isOrdinary_false {work : List Piece} (noMore : ∀ x, Piece.ordinary x ∉ work) :
    work.any Piece.isOrdinary = false := by
  refine List.any_eq_false.mpr fun p mem => ?_
  cases p with
  | ordinary x => exact absurd mem (noMore x)
  | partialClose | restoration | lateRefusal => simp [Piece.isOrdinary]

theorem lateConcluding_unclosing
    (other : ∀ reader tag late, s.rqs.service ≠ some (.conclude reader tag (.closing late))) : lateConcluding s = s := by
  unfold lateConcluding
  split
  · split
    · exact concludingFigures_other _ _ _ other
    · rfl
  · rfl

/-- The figures of an empty epoch whose views never come are handed once no close is left. -/
theorem lateConcluding_empty {c : CloseInputs} {readings : EpochReadings} (left : closesLeft s.eve = false) (view : s.ptb.viewTaken = true)
    (door : s.dmn.taking = false) (inputs : s.eve.inputs = [c]) (has : c.readings = some readings)
    (empty : readings.quarters = 0) (waits : c.joined = none) : lateConcluding s = concludingFigures c.epoch 0 0 s := by
  simp [lateConcluding, left, view, door, inputs, has, empty, waits]

end

/-- A close of 1 to 3 quarters whose entry the store takes, with no verdict raised: the core of the state but for its
figures is as it was. -/
theorem partialClose_core (env : Env) {j : Joined} {rest : List Piece} {s : State} (hr : running s = true)
    (current : s.eve.current = none) (program : s.cmr.program = .none) (work : s.eve.work = .partialClose j :: rest)
    (normal : s.jst.condition = .normal) (thawed : s.jst.frozen = false) (room : s.jst.queue.length < 6)
    (some1 : 1 ≤ j.readings.quarters) (few : j.readings.quarters < 4) {k : Close}
    (computed : computeClose s.cmr s.eve j = k) (same : k.entry.verdict = s.eve.verdict) :
    ∃ t, exec (.partialClose env) s = .next t ∧ SameCore (accounted rest k s) t := by
  subst computed
  refine ⟨_, exec_partialClose (env := env) hr current program work, ?_⟩
  rw [runPartial_some some1, runClose_stands same,
    offerEpoch_accepts (s := accounted rest (computeClose s.cmr s.eve j) s) normal thawed room, finishClose_partial]
  · exact (offer_kept _ _).1.trans ((concludingFigures_core ..).trans (settle_core env _))
  · rw [computeClose_rest]
    exact few
  · rw [offer_eve]
    exact current

section
variable {env : Env} {j : Joined} {rest : List Piece} {reader : PartyId} {tag : List Byte} {late : Overtaken} {i n : Nat}
  {s : State} {k : Close}

/-- The marks a conclusion's partial close programs first end the command. -/
theorem settle_closing_marking {target m : Verdict} {ms : List Verdict} {next : Continuation} {eve : Eve} (hr : running s = true)
    (access : s.jst.access = .entry i n) (service : s.rqs.service = some (.conclude reader tag (.closing late))) :
    settle env (marking target m ms next (s.setEve eve)) = kick env (marking target m ms next (s.setEve eve)) := by
  refine settle_busy env ?_ ?_ ?_
  · exact hr
  · exact fun free => by cases access.symm.trans free
  · have served : (marking target m ms next (s.setEve eve)).rqs.service = some (.conclude reader tag (.closing late)) := service
    simp only [checkpointRests, served]

/-- The figures that a partial close of 1 to 3 quarters hands to a conclusion. -/
theorem finishClose_closing {t : State} (few : j.readings.quarters < 4) (some1 : 1 ≤ j.readings.quarters)
    (close : k.rest.quarters = j.readings.quarters) (epoch : k.rest.epoch = j.epoch) (draw : k.rest.draw = k.entry.draw)
    (current : t.eve.current = none) (service : t.rqs.service = some (.conclude reader tag (.closing late))) :
    finishClose k.rest t = handed reader tag (some j.epoch) k.entry.draw t := by
  rw [finishClose_partial (by rw [close]; exact few) current, concludingFigures_closing _ _ _ service,
    finalEpoch_some _ (by rw [close]; omega), epoch, draw]

end

/-- Settles O32. -/
theorem partialCloseProrates : Obligations.PartialCloseProrates := by
  refine ⟨fun env j rest s logic current program work normal thawed room => ?_,
    fun env j rest reader tag late i n s logic current program access service => ?_⟩
  · have hr := running_of_logic logic
    refine ⟨fun empty => ?_, ?_⟩
    · refine ⟨_, exec_partialClose (env := env) hr current program work, ?_⟩
      rw [runPartial_empty (s := pieceTaken rest s) empty current]
      exact SameCore.trans (concludingFigures_core j.epoch 0 0 (pieceTaken rest s)) (settle_core env _)
    · intro some1 few k same
      obtain ⟨t, runs, core⟩ := partialClose_core env hr current program work normal thawed room some1 few rfl same
      exact ⟨t, runs, decide_eq_true few, core⟩
  · have hr := running_of_logic logic
    have eve := computeClose_eve s.cmr s.eve j
    have close := computeClose_rest s.cmr s.eve j
    have verdict := computeClose_verdict s.cmr s.eve j
    have stands := runClose_stands (rest := rest) (j := j) (s := s)
    have marks := fun m ms => runClose_marks (rest := rest) (j := j) (s := s) (m := m) (ms := ms)
    generalize computeClose s.cmr s.eve j = k at eve close verdict stands marks ⊢
    intro _ taken markings before handed' accepts offered
    have free : k.eve.current = none := by
      rw [eve]
      exact current
    have epoch : k.rest.epoch = j.epoch := by rw [close]
    have quarters : k.rest.quarters = j.readings.quarters := by rw [close]
    have draw : k.rest.draw = k.entry.draw := by rw [close]
    have programs (m : Verdict) (ms : List Verdict) (target : Verdict) (next : Continuation)
        (run : runPartial j (pieceTaken rest s) = marking target m ms next (accounted rest k s))
        (work : s.eve.work = .partialClose j :: rest) :
        exec (.partialClose env) s = .next (kick env (markings target (m :: ms) next)) := by
      rw [exec_partialClose (env := env) hr current program work, run]
      exact congrArg Host.Outcome.next (settle_closing_marking hr access service)
    refine ⟨fun work => ⟨fun empty => ?_, fun some1 few same => ?_, fun some1 few old highest ms level => ?_⟩,
      fun e probe air view door work whole noMore viewTaken taking inputs missing same accepted outside unscheduled running => ?_⟩
    · rw [exec_partialClose (env := env) hr current program work, runPartial_empty (s := pieceTaken rest s) empty current,
        concludingFigures_closing (s := pieceTaken rest s) _ _ _ service]
      exact congrArg Host.Outcome.next (settle_handed (s := pieceTaken rest s) env reader tag _ 0 hr access)
    · have ends := exec_partialClose (env := env) hr current program work
      rw [runPartial_some some1, stands same] at ends
      refine ⟨fun accepted => ?_, fun refuses high => ?_, fun refuses old highest => ?_⟩
      · obtain ⟨normal, thawed, room⟩ := accepted
        rw [ends, offerEpoch_closeOffered access normal thawed room (same.trans verdict.symm),
          finishClose_closing (t := closeOffered rest k s) few some1 quarters epoch draw free service]
        exact congrArg Host.Outcome.next (settle_handed (s := closeOffered rest k s) env reader tag _ _ hr access)
      · rw [ends, offerEpoch_refused_stands (s := accounted rest k s) (full_of_not_accepts refuses)
            (by rw [accounted, State.setEve_eve]; exact verdict.symm ▸ high),
          finishClose_closing (t := accounted rest k s) few some1 quarters epoch draw free service]
        exact congrArg Host.Outcome.next (settle_handed (s := accounted rest k s) env reader tag _ _ hr access)
      · refine programs .strained [.unproven] .unproven (.endClose k.rest) ?_ work
        rw [runPartial_some some1, stands same]
        refine offerEpoch_refused_marks (s := accounted rest k s) (full_of_not_accepts refuses) ?_ (marksFor_from.1 highest).2.1
        rw [accounted, State.setEve_eve]
        exact (congrArg Verdict.rank (verdict.trans old)).trans_lt (by decide)
    · have rises (m : Verdict) (ms' : List Verdict) (up : 0 < k.entry.verdict.rank)
          (set : marksFor s.cmr k.entry.verdict = m :: ms') :
          runPartial j (pieceTaken rest s) =
            marking k.entry.verdict m ms' (.offerEpoch k.entry k.rest) (accounted rest k s) :=
        (runPartial_some some1).trans (marks m ms' (by rw [old]; exact up) set)
      have from_intact := marksFor_from.1 highest
      obtain ⟨level, rfl⟩ | ⟨level, rfl⟩ | ⟨level, rfl⟩ := level
      · exact programs _ _ _ _ (rises _ _ (by rw [level]; decide) (by rw [level]; exact from_intact.1)) work
      · exact programs _ _ _ _ (rises _ _ (by rw [level]; decide) (by rw [level]; exact from_intact.2.1)) work
      · exact programs _ _ _ _ (rises _ _ (by rw [level]; decide) (by rw [level]; exact from_intact.2.2)) work
    · obtain ⟨normal, thawed, room⟩ := accepted
      have full4 : k.rest.quarters = 4 := quarters.trans whole
      have note : (⟨k.rest.epoch, k.rest.air, k.rest.fit⟩ : NoteContent) = ⟨j.epoch, j.readings.air.map Reading.value,
          j.readings.air.isSome && !k.entry.flags.suspect⟩ := by rw [close]
      have inEpisode : k.rest.inEpisode = false := by rw [close]; exact outside
      have run := (stands same).trans ((offerEpoch_closeOffered (rest := rest) (k := k) access normal thawed room
        (same.trans verdict.symm)).trans (finishClose_ordinary full4 free running))
      rw [if_neg (by simp [inEpisode]), takeContent_none (s := closeOffered rest k s) unscheduled, note] at run
      have none : closesLeft { k.eve with work := rest } = false := by
        simp only [closesLeft, free, Option.any_none, Bool.or_false]
        exact any_isOrdinary_false noMore
      have waits : (⟨e, some ⟨0, probe, air⟩, view, door⟩ : CloseInputs).joined = Option.none := by
        obtain rfl | rfl := missing
        · rfl
        · cases view <;> rfl
      have held : k.eve.inputs = [⟨e, some ⟨0, probe, air⟩, view, door⟩] := by
        rw [eve]
        exact inputs
      rw [exec_ordinaryClose (env := env) hr current program work, run,
        lateConcluding_empty (s := State.setTmb (State.setChc (closeOffered rest k s) _) _)
          (c := ⟨e, some ⟨0, probe, air⟩, view, door⟩) none viewTaken taking held rfl rfl waits,
        concludingFigures_closing (s := State.setTmb (State.setChc (closeOffered rest k s) _) _) _ _ _ service]
      exact congrArg Host.Outcome.next (settle_handed (s := State.setTmb (State.setChc (closeOffered rest k s) _) _)
        env reader tag _ 0 hr access)

/-! ### A verdict mark's program while nothing waits to read the record (R95, R165) -/

section
variable {s t : State}

/-- With nothing that waits to read the commission record, a checkpoint rests whatever program is in progress. -/
theorem checkpointRests_unawaited (rests : checkpointRests s = true) (unawaited : recordAwaited s = false)
    (service : t.rqs.service = s.rqs.service) (store : t.store = s.store) (status : t.jst.status = s.jst.status)
    (access : t.jst.access = s.jst.access) : checkpointRests t = true := by
  unfold recordAwaited at unawaited
  unfold checkpointRests at rests ⊢
  rw [service]
  split at rests
  · simpa only [marksDone_congr store status access] using rests
  · rename_i composing
    simp [composing] at unawaited
  · simp only

theorem quiet_unawaited (rests : quiet s = true) (unawaited : recordAwaited s = false)
    (service : t.rqs.service = s.rqs.service) (store : t.store = s.store) (jst : t.jst = s.jst) : quiet t = true := by
  have u : quiet { t with cmr := s.cmr } = true :=
    (quiet_congr (s := s) (t := { t with cmr := s.cmr }) service store jst rfl).trans rests
  rw [quiet, Bool.and_eq_true] at u rests ⊢
  exact ⟨checkpointRests_unawaited rests.1 unawaited service store (by rw [jst]) (by rw [jst]), u.2⟩

theorem quiet_busy (busy : s.jst.access ≠ .none) (rests : checkpointRests s = true) : quiet s = true := by
  have taken : arrayFree s = false := by simpa [arrayFree] using busy
  simp [quiet, rests, taken]

theorem checkpointStage_rests (rests : checkpointRests s = true) (unawaited : recordAwaited s = false) :
    checkpointStage s = s := by
  unfold checkpointRests at rests
  unfold recordAwaited at unawaited
  unfold checkpointStage
  split
  · rename_i marking
    rw [if_neg (by simpa [marking] using rests)]
  · rename_i composing
    simp [composing] at unawaited
  · rfl

/-- Nothing reads the commission record at the end of a program for which nothing waits. -/
theorem recordStages_unawaited (rests : checkpointRests s = true) (unawaited : recordAwaited s = false) :
    recordStages s = s := by
  have figures : figuresStage s = s := figuresStage_other fun reader tag epoch service => by
    simp [recordAwaited, service] at unawaited
  have fragment : fragmentStage s = s := fragmentStage_other fun c asked start seen service => by
    simp [recordAwaited, service] at unawaited
  rw [recordStages, figures, checkpointStage_rests rests unawaited, fragment]

end

/-- A program at one address leaves every other byte as it reads. -/
theorem Memory.read_program_other (m : Memory) {a b : Nat} (v miss : Byte) (other : b ≠ a) :
    Memory.read (Memory.program m a v miss) b = Memory.read m b := by
  unfold Memory.program
  generalize Memory.read m a &&& (v ||| miss) = w
  induction m with
  | nil =>
    unfold Memory.write
    split
    · rfl
    · rw [Memory.read_cons, if_neg (Ne.symm other)]
  | cons cell rest ih =>
    obtain ⟨k, x⟩ := cell
    unfold Memory.write
    split_ifs with below erased same erased
    · rfl
    · rw [Memory.read_cons, if_neg (Ne.symm other)]
    · rw [Memory.read_cons, if_neg (by omega)]
    · rw [Memory.read_cons, Memory.read_cons, if_neg (Ne.symm other), if_neg (by omega)]
    · rw [Memory.read_cons, Memory.read_cons, ih]

/-- A verdict mark's program leaves the epoch length. -/
theorem epochLength_markEnded (v : Verdict) (miss : Byte) (s : State) :
    (markEnded v miss s).cmr.epochLength = s.cmr.epochLength := by
  have away : 46 ≤ verdictMarkAddress v := by cases v <;> decide
  have same (a : Nat) (low : a < 46) : (markEnded v miss s).cmr.byte a = s.cmr.byte a :=
    Memory.read_program_other _ _ _ (by omega)
  exact congrArg beNat (List.map_congr_left fun i mem => same (15 + i) (by have := List.mem_range.mp mem; omega))

section
variable {miss : Byte} {env : Env} {v target : Verdict} {next : Continuation} {i n : Nat} {s t : State}

/-- The state in which a piece goes on after its last verdict mark. -/
def pieceGoesOn (target v : Verdict) (miss : Byte) (s : State) : State :=
  (markEnded v miss s).setEve { s.eve with current := none, verdict := target }

/-- Nothing that a piece does after its last mark changes what decides how the command ends. -/
structure SameEnd (s t : State) : Prop where
  logic : t.logic = s.logic
  service : t.rqs.service = s.rqs.service
  store : t.store = s.store
  status : t.jst.status = s.jst.status
  access : t.jst.access = s.jst.access
  ptb : t.ptb = s.ptb
  taking : t.dmn.taking = s.dmn.taking
  inputs : t.eve.inputs = s.eve.inputs

theorem emptyEpochWaits_of_sameEnd (same : SameEnd s t) : emptyEpochWaits t = emptyEpochWaits s := by
  simp only [emptyEpochWaits, same.ptb, same.taking, same.inputs]

theorem recordAwaited_of_service (service : t.rqs.service = s.rqs.service) : recordAwaited t = recordAwaited s := by
  simp only [recordAwaited, service]

section
variable (hr : running s = true) (rests : checkpointRests s = true) (unawaited : recordAwaited s = false)
include hr rests unawaited

/-- A command that ends with the DISCOVERs answered, with an access in progress and nothing that waits for the record. -/
theorem settle_answered_busy (same : SameEnd s t) (busy : s.jst.access ≠ .none) :
    settle env (answerDiscovers env t) = kick env (answered env t) := by
  refine settle_answered env ?_ (quiet_busy ?_ ?_)
  · rw [running, same.logic]
    exact hr
  · rw [same.access]
    exact busy
  · exact checkpointRests_unawaited rests unawaited same.service same.store same.status same.access

variable (program : s.cmr.program = .verdictMark v) (current : s.eve.current = some ⟨target, [v], next⟩)
  (set : Memory.read (Memory.program s.cmr.consignment (verdictMarkAddress v) 0x00 miss) (verdictMarkAddress v) ≠ 0xFF)
include program current set

/-- After the last mark of a piece the piece goes on, and then the commission record's next program is due. -/
theorem exec_verdictMark_last : exec (.verdictMarkProgrammed miss env) s = .next (settle env (answerDiscovers env
    (nextProgram env none (lateConcluding (runContinuation next (pieceGoesOn target v miss s)))))) := by
  have stages : recordStages (markEnded v miss s) = markEnded v miss s :=
    recordStages_unawaited (checkpointRests_unawaited rests unawaited rfl rfl rfl rfl) unawaited
  rw [exec_verdictMark_set hr program current set, stages, markIsSet_last _ rfl]
  rfl

/-- The piece goes on, and no program of a conclusion is due: the command ends there. -/
theorem exec_verdictMark_ends (calm : emptyEpochWaits s = false) (busy : s.jst.access ≠ .none)
    (run : runContinuation next (pieceGoesOn target v miss s) = t) (same : SameEnd s t) :
    exec (.verdictMarkProgrammed miss env) s = .next (kick env (answered env t)) := by
  have free : recordAwaited t = false := (recordAwaited_of_service same.service).trans unawaited
  have last : nextProgram env none t = t := by
    by_cases programs : t.cmr.program = .none
    · rw [nextProgram_done env programs (conclusionDue_other free), recordDone_other free]
    · exact nextProgram_programming env _ programs
  rw [exec_verdictMark_last hr rests unawaited program current set, run,
    lateConcluding_calm ((emptyEpochWaits_of_sameEnd same).trans calm), last,
    settle_answered_busy hr rests unawaited same busy]

/-- The piece hands a conclusion its figures: the command ends there. -/
theorem exec_verdictMark_handed {reader : PartyId} {tag : List Byte} {final : Option Nat} {draw : Nat}
    (access : s.jst.access = .entry i n)
    (run : runContinuation next (pieceGoesOn target v miss s) = handed reader tag final draw t) (logic : t.logic = s.logic)
    (still : t.jst.access = s.jst.access) (idle : t.cmr.program = .none) :
    exec (.verdictMarkProgrammed miss env) s = .next (kick env (answered env (handed reader tag final draw t))) := by
  obtain ⟨j, d, frame, -, kept⟩ := handed_frame reader tag final draw t
  have late : lateConcluding (handed reader tag final draw t) = handed reader tag final draw t := by
    rw [frame]
    exact lateConcluding_unclosing fun _ _ _ h => by cases h
  have last : nextProgram env none (handed reader tag final draw t) = handed reader tag final draw t := by
    rw [frame]
    refine (nextProgram_done env ?_ ?_).trans ?_
    · exact idle
    · rfl
    · rfl
  rw [exec_verdictMark_last hr rests unawaited program current set, run, late, last]
  refine congrArg Host.Outcome.next (settle_answered env ?_ (quiet_busy ?_ ?_)) <;> rw [frame]
  · exact (congrArg (· == Logic.running) logic).trans hr
  · exact fun none => by cases (kept i n (still.trans access)).symm.trans none
  · rfl

end

/-! ### How a piece goes on (R97, R98, R101, R103) -/

theorem finishClose_outside {r : CloseEnd} (quarters : r.quarters = 4) (outside : r.inEpisode = false)
    (current : t.eve.current = none) (unscheduled : t.chc.schedule = .none) : finishClose r t = { t with
      chc := { t.chc with content := some ⟨r.epoch, r.air, r.fit⟩ }
      tmb := if t.ret.schedule = .stopped then t.tmb else { t.tmb with stall := some (8 * t.cmr.epochLength) } } := by
  rw [finishClose, if_pos quarters, finishOrdinary]
  dsimp only
  rw [if_neg (by simp [outside]), takeContent_none unscheduled, startStall]
  split
  · rename_i stopped
    have stopped' : t.ret.schedule = .stopped := stopped
    rw [if_pos stopped']
    exact endPiece_eq (s := t.setChc _) current
  · rename_i goes
    have goes' : t.ret.schedule ≠ .stopped := goes
    rw [if_neg goes']
    exact endPiece_eq (s := (t.setChc _).setTmb _) current

section
variable {g : GapEntry} {rest : List GapEntry}

theorem runContinuation_gap_offered (access : t.jst.access = .entry i n) (normal : t.jst.condition = .normal)
    (thawed : t.jst.frozen = false) (room : t.jst.queue.length < 6) : runContinuation (.offerGap g rest) t =
      runGaps rest (t.setJst { t.jst with queue := t.jst.queue ++ [.gap { g with verdict := t.eve.verdict }] }) := by
  simp only [runContinuation, offerGap_accepted access normal thawed room, if_true]

theorem runContinuation_gap_refused (full : t.jst.condition ≠ .normal ∨ t.jst.frozen = true ∨ 6 ≤ t.jst.queue.length)
    (high : 2 ≤ t.eve.verdict.rank) : runContinuation (.offerGap g rest) t = runGaps rest t := by
  simp only [runContinuation, offerGap_refused full high, if_true]

end

end

/-- Settles O34. -/
theorem verdictMarkRetriedUntilSet : Obligations.VerdictMarkRetriedUntilSet := by
  refine ⟨fun miss env v w s logic rests program current calm unawaited => ?_,
    fun miss env v target next i n s logic rests program current access unawaited => ?_⟩
  · have hr := running_of_logic logic
    have checkpoint : checkpointRests s = true := (Bool.and_eq_true_iff.mp rests).1
    have stages : recordStages (markEnded v miss s) = markEnded v miss s :=
      recordStages_unawaited (checkpointRests_unawaited checkpoint unawaited rfl rfl rfl rfl) unawaited
    intro m
    refine ⟨fun clear => ?_, fun set x rest marks => ?_, fun set marks next => ?_⟩
    · have state : (markEnded v miss s).setCmr { (markEnded v miss s).cmr with program := .verdictMark v } =
          { s with cmr := { s.cmr with consignment := m } } := by
        rw [← program]
        rfl
      rw [exec_verdictMark_clear hr program current clear, stages,
        nextProgram_mark env v (s := markEnded v miss s) rfl (conclusionDue_other unawaited)]
      refine congrArg Host.Outcome.next ((congrArg (fun t => settle env (answerDiscovers env t)) state).trans
        (settle_answered env ?_ ?_))
      · exact hr
      · exact quiet_unawaited rests unawaited rfl rfl rfl
    · have more : w.marks.tail = x :: rest := by rw [marks, List.tail_cons]
      rw [exec_verdictMark_set hr program current set, stages, markIsSet_more _ more, more]
      refine congrArg Host.Outcome.next ((congrArg (fun t => settle env (answerDiscovers env t))
        (nextProgram_mark env x (s := (markEnded v miss s).setEve _) rfl (conclusionDue_other unawaited))).trans
        (settle_answered env ?_ ?_))
      · exact hr
      · exact quiet_unawaited rests unawaited rfl rfl rfl
    · have last : w.marks.tail = [] := by rw [marks, List.tail_cons]
      have going : runContinuation w.next ((markEnded v miss s).setEve { s.eve with current := none, verdict := w.target }) =
          pieceGoesOn w.target v miss s := by
        rw [next]
        rfl
      have still : emptyEpochWaits (pieceGoesOn w.target v miss s) = false := calm
      rw [exec_verdictMark_set hr program current set, stages, markIsSet_last _ last, last]
      refine congrArg Host.Outcome.next ((congrArg (fun t => settle env (answerDiscovers env (nextProgram env none
        (lateConcluding t)))) going).trans ?_)
      rw [lateConcluding_calm still]
      refine (congrArg (fun t => settle env (answerDiscovers env t)) ((nextProgram_done env ?_ ?_).trans
        (recordDone_other ?_))).trans (settle_answered env ?_ ?_)
      · rfl
      · exact conclusionDue_other unawaited
      · exact unawaited
      · exact hr
      · exact quiet_unawaited rests unawaited rfl rfl rfl
  · have hr := running_of_logic logic
    have checkpoint : checkpointRests s = true := (Bool.and_eq_true_iff.mp rests).1
    intro m set raised ends room calm runAfter closed
    have busy : s.jst.access ≠ .none := fun none => by cases access.symm.trans none
    have goes (t : State) (calm : emptyEpochWaits s = false) (same : SameEnd s t)
        (run : runContinuation next (pieceGoesOn target v miss s) = t) : ends t :=
      exec_verdictMark_ends hr checkpoint unawaited program current set calm busy run same
    have full {k : Nat} (one : k = 1) (no : ¬ room k) :
        s.jst.condition ≠ .normal ∨ s.jst.frozen = true ∨ 6 ≤ s.jst.queue.length :=
      full_of_not_accepts fun yes => no ⟨yes.1, yes.2.1, by omega⟩
    have nil (run : Nat) : raised run [] =
        (pieceGoesOn target v miss s).setEve { s.eve with current := none, verdict := target, run := run } := by
      simp only [raised, List.append_nil] <;> rfl
    have after (run : Nat) (count : Option Nat) : runAfter run count = gapRun run count := by cases count <;> rfl
    have closes (r : CloseEnd) (run : Nat) (offered : List Entry) (still : calm) (quarters : r.quarters = 4)
        (outside : r.inEpisode = false) (unscheduled : s.chc.schedule = .none)
        (goesOn : runContinuation next (pieceGoesOn target v miss s) = finishClose r (raised run offered)) :
        ends (closed r (raised run offered)) := by
      have length : (raised run offered).cmr.epochLength = s.cmr.epochLength := epochLength_markEnded v miss s
      have finished := finishClose_outside (t := raised run offered) quarters outside rfl unscheduled
      rw [length] at finished
      exact goes _ still ⟨rfl, rfl, rfl, rfl, rfl, rfl, rfl, rfl⟩ (goesOn.trans finished)
    have counts (g : GapEntry) (t : State) (high : 2 ≤ t.eve.verdict.rank) :
        (gapCandidate t.cmr.gapAllowance (gapRun t.eve.run g.count) g.count).rank ≤ t.eve.verdict.rank :=
      (gapCandidate_le_unproven ..).trans high
    refine ⟨fun r still quarters outside unscheduled => ⟨fun e goesOn => ⟨fun fits => ?_, fun no high => ?_,
        fun no strained mark clear => ?_⟩, fun goesOn => ?_⟩, fun still high => ⟨fun g goesOn => ⟨fun fits => ?_, fun no => ?_⟩,
        fun g h goesOn => ?_, fun goesOn => ?_, fun g goesOn => ?_⟩, fun r reader tag late some1 few service => ?_⟩
    · obtain ⟨normal, thawed, length⟩ := fits
      rw [goesOn] at closes
      exact closes r _ _ still quarters outside unscheduled
        (offerEpoch_accepted (s := pieceGoesOn target v miss s) access normal thawed length)
    · rw [goesOn] at closes
      refine closes r _ [] still quarters outside unscheduled ((offerEpoch_refused_stands
        (s := pieceGoesOn target v miss s) (full rfl no) high).trans ?_)
      rw [nil]
      rfl
    · have marks : marksFor (pieceGoesOn target v miss s).cmr .unproven = [.unproven] := by
        have set46 : (pieceGoesOn target v miss s).cmr.markSet 46 = true := by
          have address : verdictMarkAddress v = 46 := by rw [mark]; rfl
          exact bne_iff_ne.mpr fun h => set (by rw [address]; exact h)
        have clear47 : (pieceGoesOn target v miss s).cmr.markSet 47 = false := bne_eq_false_iff_eq.mpr clear
        simp [marksFor_eq, set46, clear47, Verdict.rank]
      refine goes _ still ⟨rfl, rfl, rfl, rfl, rfl, rfl, rfl, rfl⟩ ?_
      rw [goesOn]
      refine (offerEpoch_refused_marks (s := pieceGoesOn target v miss s) (full rfl no) ?_ marks).trans ?_
      · exact (congrArg Verdict.rank strained).trans_lt (by decide)
      · rw [nil, ← strained]
        rfl
    · rw [goesOn] at closes
      refine closes r _ [] still quarters outside unscheduled ?_
      rw [nil]
      rfl
    · obtain ⟨normal, thawed, length⟩ := fits
      refine goes _ still ⟨rfl, rfl, rfl, rfl, rfl, rfl, rfl, rfl⟩ ?_
      rw [goesOn]
      exact (runContinuation_gap_offered (t := pieceGoesOn target v miss s) access normal thawed length).trans (runGaps_nil rfl)
    · refine goes _ still ⟨rfl, rfl, rfl, rfl, rfl, rfl, rfl, rfl⟩ ?_
      rw [goesOn, nil]
      exact (runContinuation_gap_refused (t := pieceGoesOn target v miss s) (full rfl no) high).trans (runGaps_nil rfl)
    · intro run
      have same : run = gapRun s.eve.run h.count := after _ _
      refine ⟨fun fits => ?_, fun no => ?_⟩
      · obtain ⟨normal, thawed, length⟩ := fits
        refine goes _ still ⟨rfl, rfl, rfl, rfl, rfl, rfl, rfl, rfl⟩ ?_
        rw [goesOn]
        have first := runContinuation_gap_offered (g := g) (rest := [h]) (t := pieceGoesOn target v miss s) access normal thawed
          (by exact (by omega : s.jst.queue.length < 6))
        refine first.trans ((runGaps_offered (i := i) (n := n) ?_ ?_ ?_ ?_ ?_).trans ((runGaps_nil ?_).trans ?_))
        · exact counts h (raised s.eve.run [_]) high
        · exact access
        · exact normal
        · exact thawed
        · simp only [State.setJst_jst, List.length_append, List.length_singleton]
          exact (by omega : s.jst.queue.length + 1 < 6)
        · rfl
        · refine Eq.trans ?_ (congrArg (fun q => State.setJst (raised run []) { s.jst with queue := q })
            (List.append_assoc s.jst.queue [.gap { g with verdict := target }] [.gap { h with run := run, verdict := target }]))
          rw [same]
          rfl
      · refine goes _ still ⟨rfl, rfl, rfl, rfl, rfl, rfl, rfl, rfl⟩ ?_
        rw [goesOn, nil]
        refine (runContinuation_gap_refused (t := pieceGoesOn target v miss s) (full rfl no) high).trans
          ((runGaps_refused (s := pieceGoesOn target v miss s) (counts _ _ high) (full rfl no) high).trans
            ((runGaps_nil rfl).trans ?_))
        rw [same]
        rfl
    · refine goes _ still ⟨rfl, rfl, rfl, rfl, rfl, rfl, rfl, rfl⟩ ?_
      rw [goesOn, nil]
      exact runGaps_nil rfl
    · intro run
      have same : run = gapRun s.eve.run g.count := after _ _
      refine ⟨fun fits => ?_, fun no => ?_⟩
      · obtain ⟨normal, thawed, length⟩ := fits
        refine goes _ still ⟨rfl, rfl, rfl, rfl, rfl, rfl, rfl, rfl⟩ ?_
        rw [goesOn]
        refine (runGaps_offered (s := pieceGoesOn target v miss s) (counts _ _ high) access normal thawed length).trans
          ((runGaps_nil rfl).trans ?_)
        rw [same]
        rfl
      · refine goes _ still ⟨rfl, rfl, rfl, rfl, rfl, rfl, rfl, rfl⟩ ?_
        rw [goesOn, nil]
        refine (runGaps_refused (s := pieceGoesOn target v miss s) (counts _ _ high) (full rfl no) high).trans
            ((runGaps_nil rfl).trans ?_)
        rw [same]
        rfl
    · intro handed'
      have figures (t : State) (goesOn : runContinuation next (pieceGoesOn target v miss s) = finishClose r t)
          (current : t.eve.current = none) (served : t.rqs = s.rqs) :
          runContinuation next (pieceGoesOn target v miss s) = handed reader tag (some r.epoch) r.draw t := by
        rw [goesOn, finishClose_partial few current, concludingFigures_closing _ _ _ (by rw [served]; exact service),
          finalEpoch_some _ (by omega)]
      refine ⟨fun goesOn => ?_, fun e goesOn fits => ?_⟩
      · refine exec_verdictMark_handed hr checkpoint unawaited program current set access
          (figures (raised s.eve.run []) ?_ rfl rfl) rfl rfl rfl
        rw [goesOn, nil]
        rfl
      · obtain ⟨normal, thawed, length⟩ := fits
        refine exec_verdictMark_handed hr checkpoint unawaited program current set access
          (figures (raised s.eve.run [.epoch { e with verdict := target }]) ?_ rfl rfl) rfl rfl rfl
        rw [goesOn]
        exact offerEpoch_accepted (s := pieceGoesOn target v miss s) access normal thawed length

end Sys2Proof.Machine


/-! Conversions, and the readings they hand over (R4 to R11, R85). -/

namespace Sys2Proof.Machine

/-! ### One conversion (R4 to R7) -/

theorem calibrate_eq (offset : Int) {raw : Int} (low : -800 ≤ raw) (high : raw ≤ 1120) : calibrate offset raw =
    .valid (max (-640) (min 960 (raw + offset))) (decide (raw + offset < -640 ∨ 960 < raw + offset)) := by
  have inside : spanned raw = raw := by
    unfold spanned
    rw [clampInt_eq_max_min (by decide)]
    omega
  rw [calibrate, inside, clampInt_eq_max_min (by decide)]

section
variable {t : Tch} {q : Nat} {outcome : Conversion} {slot : QuarterSlot} {condition : ProbeCondition}

/-- The slot and the condition that a PROBE outcome leaves. -/
theorem probeSlot_eq {offset raw : Int} (low : -800 ≤ raw) (high : raw ≤ 1120)
    (left : (outcome = .probeOpen ∧ slot = .invalid .opened ∧ condition = .opened) ∨
      (outcome = .probeShort ∧ slot = .invalid .shorted ∧ condition = .shorted) ∨
      (outcome = .probe raw ∧ slot = .valid (max (-640) (min 960 (raw + offset)))
        (decide (raw + offset < -640 ∨ 960 < raw + offset)) ∧ condition = .connected)) :
    probeSlot offset outcome = some (slot, condition) ∧ slot.converted = true := by
  obtain ⟨rfl, rfl, rfl⟩ | ⟨rfl, rfl, rfl⟩ | ⟨rfl, rfl, rfl⟩ := left
  · exact ⟨rfl, rfl⟩
  · exact ⟨rfl, rfl⟩
  · exact ⟨by rw [probeSlot, calibrate_eq offset low high], rfl⟩

theorem airSlot_eq {offset raw : Int} (low : -800 ≤ raw) (high : raw ≤ 1120)
    (left : (outcome = .airFault ∧ slot = .invalid .refFault) ∨
      (outcome = .air raw ∧ slot = .valid (max (-640) (min 960 (raw + offset)))
        (decide (raw + offset < -640 ∨ 960 < raw + offset)))) :
    airSlot offset outcome = some slot ∧ slot.converted = true ∧ ∀ o, probeSlot o outcome = none := by
  obtain ⟨rfl, rfl⟩ | ⟨rfl, rfl⟩ := left
  · exact ⟨rfl, rfl, fun _ => rfl⟩
  · exact ⟨by rw [airSlot, calibrate_eq offset low high], rfl, fun _ => rfl⟩

theorem convert_probe (converting : t.probe.converting = some q) (left : probeSlot t.probeOffset outcome = some (slot, condition)) :
    t.convert outcome = some { t with probe := t.probe.set q slot, condition := condition } := by
  simp only [Tch.convert, left, converting, Option.map_some]

theorem convert_air (converting : t.air.converting = some q) (other : probeSlot t.probeOffset outcome = none)
    (left : airSlot t.airOffset outcome = some slot) :
    t.convert outcome = some { t with air := t.air.set q slot } := by
  simp only [Tch.convert, other, left, converting, Option.map_some]

end

section
variable {env : Env} {outcome : Conversion} {t : Tch} {s : State}

theorem exec_conversionComplete (hr : running s = true) (converts : s.tch.convert outcome = some t) :
    exec (.conversionComplete outcome env) s = .next (settle env (lateConcluding (handOver (s.setTch t)))) := by
  show Host.Outcome.next (match running s, s.tch.convert outcome with
    | true, some t => settle env (lateConcluding (handOver (s.setTch t)))
    | _, _ => s) = _
  rw [hr, converts]

theorem handOver_none (early : s.tch.epochDone = false) (waits : s.tch.partialWaiting = false ∨ s.tch.busy = true) :
    handOver s = s := by
  simp only [handOver, early, Bool.false_eq_true, if_false]
  obtain no | busy := waits
  · exact if_neg (by simp [no])
  · exact if_neg (by simp [busy])

/-- A conversion that hands nothing over fills its slot. -/
theorem conversion_fills (hr : running s = true) (rests : quiet s = true) (calm : emptyEpochWaits s = false)
    (converts : s.tch.convert outcome = some t) (early : t.epochDone = false)
    (waits : t.partialWaiting = false ∨ t.busy = true) :
    exec (.conversionComplete outcome env) s = .next (kick env (s.setTch t)) := by
  rw [exec_conversionComplete hr converts, handOver_none (s := s.setTch t) early waits,
    lateConcluding_calm (s := s.setTch t) calm]
  exact congrArg Host.Outcome.next (settle_quiet (s := s.setTch t) env hr ((quiet_congr rfl rfl rfl rfl).trans rests))

end

/-- Settles O15. -/
theorem conversionFillsItsSlot : Obligations.ConversionFillsItsSlot := by
  intro env raw q s logic rests calm low high
  have hr := running_of_logic logic
  refine ⟨fun converting early waits => ?_, fun converting early waits => ?_⟩
  · have fills (outcome : Conversion) (slot : QuarterSlot) (condition : ProbeCondition)
        (left : probeSlot s.tch.probeOffset outcome = some (slot, condition)) :
        exec (.conversionComplete outcome env) s = .next (kick env { s with tch := { s.tch with
          probe := s.tch.probe.set q slot
          condition := condition } }) :=
      conversion_fills hr rests calm (convert_probe converting left) (by simp [Tch.epochDone, early])
        (waits.imp id fun busy => by simp [Tch.busy, busy])
    exact ⟨fills _ _ _ (probeSlot_eq low high (.inr (.inr ⟨rfl, rfl, rfl⟩))).1, fills _ _ _ rfl, fills _ _ _ rfl⟩
  · have fills (outcome : Conversion) (slot : QuarterSlot) (other : probeSlot s.tch.probeOffset outcome = none)
        (left : airSlot s.tch.airOffset outcome = some slot) :
        exec (.conversionComplete outcome env) s = .next (kick env { s with tch := { s.tch with
          air := s.tch.air.set q slot } }) :=
      conversion_fills hr rests calm (convert_air converting other left) (by simp [Tch.epochDone, early])
        (waits.imp id fun busy => by simp [Tch.busy, busy])
    exact ⟨fills _ _ rfl (airSlot_eq low high (.inr ⟨rfl, rfl⟩)).1, fills _ _ rfl rfl⟩

/-! ### The inputs of a close (R85) -/

section
variable {key : Nat} {f : CloseInputs → CloseInputs} {c : CloseInputs} {rest : List CloseInputs} {s : State}

/-- An input that completes the first close held makes its piece of work. -/
theorem handInput_completes {j : Joined} (inputs : s.eve.inputs = c :: rest) (epoch : c.epoch = key)
    (same : (f c).epoch = key) (joined : (f c).joined = some j) (others : ∀ x ∈ rest, x.epoch ≠ key) :
    handInput key f s = s.setEve { s.eve with inputs := rest, work := s.eve.work ++ [j.piece] } := by
  have kept : rest.filter (fun x => x.epoch != key) = rest :=
    List.filter_eq_self.mpr fun x mem => bne_iff_ne.mpr (others x mem)
  simp [handInput, inputs, updateInputs, epoch, same, joined, kept]

/-- An input that leaves the first close held incomplete waits there. -/
theorem handInput_waits (inputs : s.eve.inputs = c :: rest) (epoch : c.epoch = key) (same : (f c).epoch = key)
    (open' : (f c).joined = none) : handInput key f s = s.setEve { s.eve with inputs := f c :: rest } := by
  simp [handInput, inputs, updateInputs, epoch, same, open']

/-- The first input of a close opens its record. -/
theorem handInput_opens (inputs : s.eve.inputs = []) (same : (f ⟨key, none, none, none⟩).epoch = key)
    (open' : (f ⟨key, none, none, none⟩).joined = none) :
    handInput key f s = s.setEve { s.eve with inputs := [f ⟨key, none, none, none⟩] } := by
  simp [handInput, inputs, updateInputs, same, open']

end

section
variable {key e : Nat} {r : EpochReadings} {s : State}

/-- The key of a set of readings: the next epoch in order, but for the empty readings of a stopped schedule. -/
def readingsKey (r : EpochReadings) (s : State) : Nat :=
  if r.quarters = 0 ∧ s.ret.schedule = .stopped then 16777216 else s.eve.readingsEpoch

theorem handReadings_completes {v : CloseView} {d : DoorView} {rest : List CloseInputs} (order : readingsKey r s = key)
    (inputs : s.eve.inputs = ⟨key, none, some v, some d⟩ :: rest) (others : ∀ x ∈ rest, x.epoch ≠ key) :
    handReadings r s = s.setEve { s.eve with
      inputs := rest
      work := s.eve.work ++ [(⟨key, r, v, d⟩ : Joined).piece]
      readingsEpoch := s.eve.readingsEpoch + 1 } := by
  subst order
  have taken := handInput_completes (f := fun c => { c with readings := some r }) (j := ⟨_, r, v, d⟩) inputs rfl rfl rfl others
  exact congrArg (fun t : State => t.setEve { t.eve with readingsEpoch := t.eve.readingsEpoch + 1 }) taken

/-- The views of a close that are held before its readings. -/
def heldViews (key : Nat) (view : Option CloseView) (door : Option DoorView) : List CloseInputs :=
  if view = none ∧ door = none then [] else [⟨key, none, view, door⟩]

theorem heldViews_epoch {view : Option CloseView} {door : Option DoorView} {c : CloseInputs} (mem : c ∈ heldViews key view door) :
    c.epoch = key := by
  unfold heldViews at mem
  split at mem
  · cases mem
  · rw [List.mem_singleton.mp mem]

theorem handReadings_waits {view : Option CloseView} {door : Option DoorView} (order : readingsKey r s = key)
    (missing : view = none ∨ door = none) (inputs : s.eve.inputs = heldViews key view door) :
    handReadings r s = s.setEve { s.eve with
      inputs := [⟨key, some r, view, door⟩]
      readingsEpoch := s.eve.readingsEpoch + 1 } := by
  subst order
  have open' : (⟨readingsKey r s, some r, view, door⟩ : CloseInputs).joined = none := by
    obtain rfl | rfl := missing
    · rfl
    · cases view <;> rfl
  have taken : handInput (readingsKey r s) (fun c => { c with readings := some r }) s =
      s.setEve { s.eve with inputs := [⟨readingsKey r s, some r, view, door⟩] } := by
    unfold heldViews at inputs
    split at inputs
    · rename_i neither
      obtain ⟨rfl, rfl⟩ := neither
      exact handInput_opens inputs rfl rfl
    · exact handInput_waits inputs rfl rfl open'
  exact congrArg (fun t : State => t.setEve { t.eve with readingsEpoch := t.eve.readingsEpoch + 1 }) taken

end

/-! ### The readings handed over (R9 to R11) -/

section
variable {s : State}

theorem handOver_epoch (whole : s.tch.epochDone = true) (waits : s.tch.partialWaiting = false) :
    handOver s = handReadings ⟨4, s.tch.probe.reading, s.tch.air.reading⟩
      (s.setTch { s.tch with probe := .pending, air := .pending }) := by
  obtain ⟨e, frame, -⟩ := handInput_frame s.eve.readingsEpoch
    (fun c => { c with readings := some ⟨4, s.tch.probe.reading, s.tch.air.reading⟩ })
    (s.setTch { s.tch with probe := .pending, air := .pending })
  have still : (handReadings ⟨4, s.tch.probe.reading, s.tch.air.reading⟩
      (s.setTch { s.tch with probe := .pending, air := .pending })).tch.partialWaiting = false := by
    have key : ¬ ((4 : Nat) = 0 ∧ s.ret.schedule = .stopped) := by simp
    simp only [handReadings, State.setTch_ret, key, if_false, State.setTch_eve, frame]
    exact waits
  simp only [handOver, whole, if_true, still, Bool.false_and, Bool.false_eq_true, if_false]

theorem handOver_partial (early : s.tch.epochDone = false) (waits : s.tch.partialWaiting = true) (idle : s.tch.busy = false) :
    handOver s = handReadings s.tch.readings (s.setTch { s.tch with partialWaiting := false }) := by
  simp only [handOver, early, waits, idle, Bool.false_eq_true, if_false, Bool.not_false, Bool.and_self, if_true]

/-- The last conversion of an epoch, with a conclusion that waits: the empty readings of the next epoch follow. -/
theorem handOver_both {e : Eve} (whole : s.tch.epochDone = true) (waits : s.tch.partialWaiting = true)
    (first : handReadings ⟨4, s.tch.probe.reading, s.tch.air.reading⟩
      (s.setTch { s.tch with probe := .pending, air := .pending }) =
      (s.setTch { s.tch with probe := .pending, air := .pending }).setEve e) :
    handOver s = handReadings ⟨0, none, none⟩
      ((s.setTch { s.tch with probe := .pending, air := .pending, partialWaiting := false }).setEve e) := by
  have idle : ({ s.tch with probe := .pending, air := .pending } : Tch).busy = false := rfl
  dsimp only at first
  simp only [handOver, whole, if_true]
  rw [first]
  refine (if_pos ?_).trans rfl
  rw [State.setEve_tch, State.setTch_tch, Bool.and_eq_true]
  exact ⟨waits, congrArg not idle⟩

end

theorem busy_false {t : Tch} (probe : t.probe.converting = none) (air : t.air.converting = none) : t.busy = false := by
  simp [Tch.busy, probe, air]

section
variable {env : Env} {outcome : Conversion} {t : Tch} {s u : State}

/-- A conversion that hands readings over ends with the transmitter. -/
theorem conversion_hands (hr : running s = true) (rests : quiet s = true) (converts : s.tch.convert outcome = some t)
    (hands : handOver (s.setTch t) = u) (late : lateConcluding u = u) (logic : u.logic = s.logic) (rqs : u.rqs = s.rqs)
    (store : u.store = s.store) (jst : u.jst = s.jst) (cmr : u.cmr = s.cmr) :
    exec (.conversionComplete outcome env) s = .next (kick env u) := by
  rw [exec_conversionComplete hr converts, hands, late]
  refine congrArg Host.Outcome.next (settle_quiet env ?_
    ((quiet_congr (s := s) (by rw [rqs]) store jst (by rw [cmr])).trans rests))
  rw [running, logic]
  exact hr

end

theorem lateConcluding_full {s : State} (full : ∀ c ∈ s.eve.inputs, ∀ r, c.readings = some r → r.quarters ≠ 0) :
    lateConcluding s = s := by
  refine lateConcluding_calm ?_
  have none : (s.eve.inputs.any fun c => (c.readings.map EpochReadings.quarters) == some 0) = false := by
    refine List.any_eq_false.mpr fun c mem => ?_
    cases has : c.readings with
    | none => simp
    | some r => simpa using full c mem r has
  simp only [emptyEpochWaits, none, Bool.and_false]

/-- Settles O16. -/
theorem lastConversionHandsReadings : Obligations.LastConversionHandsReadings := by
  refine ⟨fun env e v d raw outcome slot s logic rests view waits order low high => ?_,
    fun env e q raw v d outcome slot probe air condition s logic rests waits order inRange low high => ?_⟩
  · have hr := running_of_logic logic
    intro corrected handed
    have hands (probe air : Quad) (condition : ProbeCondition)
        (converts : s.tch.convert outcome = some { s.tch with probe := probe, air := air, condition := condition })
        (whole : probe.q4.converted = true ∧ air.q4.converted = true) :
        handed ⟨4, probe.reading, air.reading⟩ condition := by
      have passed := handOver_epoch (s := s.setTch { s.tch with probe := probe, air := air, condition := condition })
        (Bool.and_eq_true_iff.mpr whole) waits
      have key : readingsKey ⟨4, probe.reading, air.reading⟩
          (s.setTch { s.tch with probe := .pending, air := .pending, condition := condition }) = e := order
      refine ⟨fun inputs => ?_, fun inputs => ?_⟩
      · refine conversion_hands hr rests converts (passed.trans ((handReadings_completes key inputs (by simp)).trans ?_))
          (lateConcluding_untaken view) rfl rfl rfl rfl rfl
        rw [← order]
        rfl
      · refine conversion_hands hr rests converts (passed.trans ((handReadings_waits (door := none) key (.inl rfl) inputs).trans ?_))
          (lateConcluding_untaken view) rfl rfl rfl rfl rfl
        rw [← order]
        rfl
    refine ⟨fun condition converting other left => ?_, fun converting other left => ?_⟩
    · obtain ⟨slots, converted⟩ := probeSlot_eq low high left
      exact hands _ _ _ (convert_probe converting slots) ⟨converted, other⟩
    · obtain ⟨slots, converted, probe⟩ := airSlot_eq low high left
      exact hands _ _ _ (convert_air converting (probe _) slots) ⟨other, converted⟩
  · have hr := running_of_logic logic
    subst order
    intro corrected left noProbe noAir after set read ordinary key held
    have converts : s.tch.convert outcome = some { after with partialWaiting := true } := by
      obtain ⟨converting, rfl, rfl, left⟩ | ⟨converting, rfl, rfl, rfl, left⟩ := left
      · rw [convert_probe converting (probeSlot_eq low high left).1, ← waits]
      · obtain ⟨slots, -, probe⟩ := airSlot_eq low high left
        rw [convert_air converting (probe _) slots, ← waits]
    refine ⟨fun early some1 few => ?_, fun probeDone airDone => ?_⟩
    · have passed := handOver_partial (s := s.setTch { after with partialWaiting := true })
        (Bool.and_eq_false_iff.mpr early) rfl (busy_false noProbe noAir)
      have order' : readingsKey read (s.setTch after) = s.eve.readingsEpoch := by
        rw [readingsKey, if_neg (fun h => by have : after.quarters = 0 := h.1; omega)]
        rfl
      have piece : (⟨s.eve.readingsEpoch, read, v, d⟩ : Joined).piece = .partialClose ⟨_, read, v, d⟩ :=
        if_neg (by have : after.quarters ≠ 4 := by omega
                   exact this)
      refine ⟨fun inputs => ?_, fun view door missing inputs => ?_⟩
      · refine conversion_hands hr rests converts (passed.trans ((handReadings_completes order' inputs (by simp)).trans ?_))
          (lateConcluding_waits (.inr (.inr (.inr rfl)))) rfl rfl rfl rfl rfl
        rw [piece]
        rfl
      · refine conversion_hands hr rests converts (passed.trans ((handReadings_waits order' missing inputs).trans ?_))
          (lateConcluding_full ?_) rfl rfl rfl rfl rfl
        · rfl
        · intro c mem r has
          obtain rfl := List.mem_singleton.mp mem
          obtain rfl := Option.some.inj has
          exact fun none : after.quarters = 0 => by omega
    · have away : key ≠ s.eve.readingsEpoch := by
        have last : Config.maxEpoch = 16777215 := rfl
        simp only [key]
        split <;> omega
      have order' (t : Tch) : readingsKey ⟨4, probe.reading, air.reading⟩ (s.setTch t) = s.eve.readingsEpoch := rfl
      have both (rest : List CloseInputs) (inputs : s.eve.inputs = ⟨s.eve.readingsEpoch, none, some v, some d⟩ :: rest)
          (others : ∀ x ∈ rest, x.epoch ≠ s.eve.readingsEpoch) : handOver (s.setTch { after with partialWaiting := true }) =
            handReadings ⟨0, none, none⟩ ((s.setTch set).setEve { s.eve with
              inputs := rest
              work := s.eve.work ++ [ordinary]
              readingsEpoch := s.eve.readingsEpoch + 1 }) :=
        handOver_both (s := s.setTch { after with partialWaiting := true }) (Bool.and_eq_true_iff.mpr ⟨probeDone, airDone⟩) rfl
          (handReadings_completes (order' _) inputs others)
      have next (rest : List CloseInputs) : readingsKey ⟨0, none, none⟩ ((s.setTch set).setEve { s.eve with
          inputs := rest
          work := s.eve.work ++ [ordinary]
          readingsEpoch := s.eve.readingsEpoch + 1 }) = key := by
        simp [readingsKey, key]
      refine ⟨fun v' d' inputs => ?_, fun view door missing inputs => ?_⟩
      · refine conversion_hands hr rests converts ((both _ inputs (by simpa using away)).trans
          ((handReadings_completes (next _) rfl (by simp)).trans ?_)) (lateConcluding_waits (.inr (.inr (.inr rfl))))
          rfl rfl rfl rfl rfl
        simp only [State.setEve_eve, List.append_assoc, List.singleton_append] <;> rfl
      · refine conversion_hands hr rests converts ((both _ inputs ?_).trans
          ((handReadings_waits (next _) missing rfl).trans ?_)) (lateConcluding_waits (.inl ?_)) rfl rfl rfl rfl rfl
        · exact fun x mem => (heldViews_epoch mem).trans_ne away
        · rfl
        · simp [closesLeft, ordinary, Piece.isOrdinary]

end Sys2Proof.Machine


/-! The countdown, activation and the end of an ACTIVE epoch (R17, R20 to R22, R41, R59 to R64, R77, R78, R80, R84, R111). -/

namespace Sys2Proof.Machine

/-! ### Offers depend on the journal store's state alone -/

theorem suspend_jst_congr {s t : State} (same : t.jst = s.jst) : (suspend t).jst = (suspend s).jst := by
  unfold suspend
  rw [same]
  split <;> first | rfl | exact same

theorem offer_jst_congr (e : Entry) {s t : State} (same : t.jst = s.jst) : (offer e t).1.jst = (offer e s).1.jst := by
  unfold offer offerAccepted
  rw [same]
  split
  · exact suspend_jst_congr rfl
  · exact same

/-! ### Founders -/

theorem insertBy_map {α β : Type} {before : α → α → Bool} {before' : β → β → Bool} {f : α → β}
    (same : ∀ a b, before' (f a) (f b) = before a b) (x : α) : ∀ xs : List α,
      insertBy before' (f x) (xs.map f) = (insertBy before x xs).map f
  | [] => rfl
  | y :: ys => by
    simp only [List.map_cons, insertBy, same]
    split
    · rfl
    · rw [List.map_cons, insertBy_map same x ys]

theorem sortBy_map {α β : Type} {before : α → α → Bool} {before' : β → β → Bool} {f : α → β}
    (same : ∀ a b, before' (f a) (f b) = before a b) : ∀ xs : List α, sortBy before' (xs.map f) = (sortBy before xs).map f
  | [] => rfl
  | x :: xs => (congrArg (insertBy before' (f x)) (sortBy_map same xs)).trans (insertBy_map same x _)

/-- The founding list looks at the state, the level and the id of the records alone. -/
theorem foundersOf_map {f : Peer → Peer} (state : ∀ p, (f p).state = p.state) (level : ∀ p, (f p).level = p.level)
    (id : ∀ p, (f p).id = p.id) (ps : List Peer) : foundersOf (ps.map f) = foundersOf ps := by
  have near : coLocated (ps.map f) = (coLocated ps).map f := by
    rw [coLocated, List.filter_map]
    refine congrArg (List.map f) (List.filter_congr fun p _ => ?_)
    simp only [Function.comp_apply, state]
  rw [foundersOf, foundersOf, near, sortBy_map (before := fun a b =>
    decide (b.level < a.level ∨ a.level = b.level ∧ a.id.toNat < b.id.toNat)) (fun a b => by simp only [level, id]),
    ← List.map_take, List.map_map]
  exact List.map_congr_left fun p _ => id p

/-! ### Activation (R21, R62, R80) -/

/-- The blocks as activation leaves them. -/
def blocksActivated (s : State) : State :=
  { s with
    tch := { s.tch with probe := .pending, air := .pending }
    ptb := { s.ptb with
      peers := s.ptb.peers.map fun r => { r with heard := false, fresh := none }
      leg := some 0
      founders := foundersOf s.ptb.peers
      turnover := none }
    dmn := { s.dmn with
      episode := if s.dmn.latch = true then some (.begin .own 0) else none
      closing := none } }

/-- Activation offers the LEG entry of leg 0, and else changes the blocks alone. -/
theorem activateBlocks_eq (s : State) : activateBlocks s =
    (blocksActivated s).setJst (offer (.leg ⟨0, 0, foundersOf s.ptb.peers⟩) s).1.jst := by
  have founders : foundersOf (s.ptb.peers.map fun p => { p with heard := false, fresh := none }) = foundersOf s.ptb.peers :=
    foundersOf_map (f := fun p => { p with heard := false, fresh := none }) (fun _ => rfl) (fun _ => rfl) (fun _ => rfl) _
  unfold activateBlocks activatePeers
  dsimp only [State.setTch_ptb]
  rw [founders, offer_setJst, offer_jst_congr (s := s) _ (by rfl)]
  unfold openAtLight setEpisode
  by_cases light : s.dmn.latch = true
  · refine (if_pos (by exact light)).trans ?_
    rw [blocksActivated, if_pos light]
    rfl
  · refine (if_neg (by exact light)).trans ?_
    rw [blocksActivated, if_neg light]
    rfl

/-! ### Start-delay expiry (R20, R21, R84, R111) -/

section
variable {env : Env} {m p : Nat} {s : State}

theorem exec_countdownStep_running (hr : running s = true) (counting : s.ret.countdown = .counting m p)
    (goes : countdownHeld s = false) : exec (.countdownStep env) s = .next
      (if s.ret.countdownStep.countdown = .expired then settle env (startDelayExpiry (s.setRet s.ret.countdownStep))
      else (s.setRet s.ret.countdownStep).setTmb { s.tmb with stall := some 480 }) := by
  show done _ = _
  rw [if_pos (by rw [counting]; rfl), if_pos hr, if_neg (by simp [goes])]
  rfl

theorem exec_countdownStep_held (hr : running s = true) (held : countdownHeld s = true) :
    exec (.countdownStep env) s = .next s := by
  show done _ = _
  rw [if_pos hr, if_pos held, ite_self]
  rfl

theorem countdownStep_more {r : Retention} (counting : r.countdown = .counting m p) (more : 1 < m) :
    r.countdownStep = { r with countdown := .counting (m - 1) 0 } := by
  simp only [Retention.countdownStep, counting, if_neg (not_le.mpr more)]

theorem countdownStep_last {r : Retention} (counting : r.countdown = .counting 1 p) : r.countdownStep =
    { r with countdown := .expired, schedule := .running, epoch := 0, quarter := 1, position := 0 } := by
  simp only [Retention.countdownStep, counting, le_refl, if_true]

/-- The trip as start-delay expiry begins it, but for what waits for the array. -/
def tripBegun (s : State) : State :=
  blocksActivated { s with
    ret := { s.ret with
      countdown := .expired, schedule := .running, epoch := 0, quarter := 1, position := 0, firstEpoch := 0 }
    tmb := { s.tmb with stall := some (8 * s.cmr.epochLength) }
    eve := Eve.initial .active 0 }

theorem startDelayExpiry_eq (counting : s.ret.countdown = .counting 1 p) : startDelayExpiry (s.setRet s.ret.countdownStep) =
    (tripBegun s).setJst (offer (.leg ⟨0, 0, foundersOf s.ptb.peers⟩) (askOpen .activation s)).1.jst := by
  have asked : askOpen .activation { s with
      ret := { s.ret with
        countdown := .expired, schedule := .running, epoch := 0, quarter := 1, position := 0, firstEpoch := 0 }
      tmb := { s.tmb with stall := some (8 * s.cmr.epochLength) }
      eve := Eve.initial .active 0 } = { s with
      ret := { s.ret with
        countdown := .expired, schedule := .running, epoch := 0, quarter := 1, position := 0, firstEpoch := 0 }
      tmb := { s.tmb with stall := some (8 * s.cmr.epochLength) }
      eve := Eve.initial .active 0
      jst := (askOpen .activation s).jst } := by
    unfold askOpen
    by_cases opened : (openSeg s).isSome = true
    · exact (if_pos (by exact opened)).trans (by rw [if_pos opened])
    · exact (if_neg (by exact opened)).trans (by rw [if_neg opened]; rfl)
  rw [countdownStep_last counting]
  refine (congrArg activateBlocks asked).trans ((activateBlocks_eq _).trans ?_)
  rw [offer_jst_congr (s := askOpen .activation s) _ (by rfl)]
  rfl

end

theorem unconcluded_of_light {s : State} (light : serviceLight s = true) : concluding s = false := by
  unfold concluding
  split
  · rename_i conclude
    simp [serviceLight, conclude] at light
  · rfl

theorem Ends.setJst (s : State) (j : Jst) (seq : j.nextSeq = s.jst.nextSeq) (light : serviceLight s = true) :
    Ends s (s.setJst j) :=
  ⟨(Kept.setJst s j seq).1, ((Kept.setJst s j seq).2 light).1⟩

theorem Ends.setPtb (s : State) {p : Ptb} (peers : p.peers = s.ptb.peers) (leg : p.leg = s.ptb.leg)
    (founders : p.founders = s.ptb.founders) (view : p.viewTaken = s.ptb.viewTaken) (light : serviceLight s = true) :
    Ends s (s.setPtb p) := by
  refine ⟨?_, ?_⟩
  · constructor
    case peers => exact congrArg (List.map Peer.id) peers
    case work => exact ⟨0, (List.append_nil _).symm⟩
    case trip => exact fun h => ⟨h, rfl, rfl, rfl⟩
    all_goals rfl
  · constructor
    case peers => exact peers
    case leg => exact leg
    case founders => exact founders
    case viewTaken => exact view
    all_goals rfl

theorem Ends.trans {s t u : State} (a : Ends s t) (b : Ends t u) : Ends s u := ⟨a.core.trans b.core, a.blocks.trans b.blocks⟩

theorem Ends.settled {s t : State} (ends : Ends s t) (env : Env) (light : serviceLight t = true) : Ends s (settle env t) :=
  ⟨ends.core.trans (settle_core env t), ends.blocks.trans (settle_blocks env light)⟩

theorem openStage_allocates {why : AllocWhy} {i : Nat} {f : AllocFields} {s : State} (want : s.jst.wantOpen = some why)
    (free : s.jst.access = .none) (plan : planOpen s = some (i, f)) : openStage s = setAccess (.alloc why i f) s := by
  simp [openStage, want, arrayFree, free, plan]

/-- An OPEN segment that is asked for is allocated where the array is free, and the command ends there. -/
theorem settle_opens (env : Env) {why : AllocWhy} {i : Nat} {f : AllocFields} {s : State} (hr : running s = true)
    (service : s.rqs.service = none) (want : s.jst.wantOpen = some why) (free : s.jst.access = .none)
    (plan : planOpen s = some (i, f)) : settle env s = kick env (setAccess (.alloc why i f) s) := by
  have rests : quiet (setAccess (.alloc why i f) s) = true := quiet_of_access service fun h => by cases h
  refine settle_of_turn env hr ?_ service fun h => by cases h
  rw [turn, checkpointStage_unserved service, openStage_allocates want free plan]
  rw [readStage_quiet true rests, ite_self, headStage_quiet rests, readStage_quiet false rests, markStage_quiet rests,
    jobStage_quiet rests]

/-- Settles O21. -/
theorem countdownAndActivation : Obligations.CountdownAndActivation := by
  refine ⟨fun env m p s logic counting more => ?_, fun env p s logic counting => ?_⟩
  · have hr := running_of_logic logic
    refine ⟨fun unconcluded => ?_, fun concludes station => ?_⟩
    · rw [exec_countdownStep_running hr counting (by simp [countdownHeld, unconcluded]), countdownStep_more counting more,
        if_neg (by simp)]
      rfl
    · exact exec_countdownStep_held hr (by simp [countdownHeld, concludes, station])
  · have hr := running_of_logic logic
    intro activated
    have expired : s.ret.countdownStep.countdown = .expired := by rw [countdownStep_last counting]
    have begins (unconcluded : concluding s = false) : exec (.countdownStep env) s = .next (settle env
        ((tripBegun s).setJst (offer (.leg ⟨0, 0, foundersOf s.ptb.peers⟩) (askOpen .activation s)).1.jst)) := by
      rw [exec_countdownStep_running hr counting (by simp [countdownHeld, unconcluded]), if_pos expired,
        startDelayExpiry_eq counting]
    refine ⟨fun light => ⟨_, begins ?_, ?_⟩, fun service free queue normal thawed closed i f plan => ?_⟩
    · exact unconcluded_of_light light
    · refine (Ends.setJst (tripBegun s) _ ?_ light).settled env light
      refine (offer_nextSeq _ _).trans ?_
      unfold askOpen
      split <;> rfl
    · have asked : askOpen .activation s = s.setJst { s.jst with wantOpen := some .activation } := if_neg (by simp [closed])
      have offered := offer_accepted (e := .leg ⟨0, 0, foundersOf s.ptb.peers⟩)
        (s := s.setJst { s.jst with wantOpen := some .activation }) normal thawed (by simp [queue])
      rw [suspend_other (s := State.setJst _ _) (by simp [free]) (by simp [free])] at offered
      rw [begins (by simp [concluding, service]), asked, offered]
      refine congrArg Host.Outcome.next ((settle_opens env (why := .activation) (i := i) (f := f) ?_ ?_ ?_ ?_ ?_).trans ?_)
      · exact hr
      · exact service
      · rfl
      · exact free
      · exact plan
      · refine congrArg (kick env) ?_
        simp only [queue]
        rfl

/-! ### The peer table at an ACTIVE epoch end (R59, R60, R63, R64) -/

section
variable {epoch : Nat} {s : State}

/-- The leg that a turnover proposes at the close of an epoch. -/
def proposed (epoch : Nat) (t : Ptb) : Turnover := ⟨min 255 (t.leg.getD 0 + 1), epoch + 1, foundersOf t.peers⟩

def proposedEntry (epoch : Nat) (t : Ptb) : Entry :=
  .leg ⟨(proposed epoch t).leg, (proposed epoch t).start, (proposed epoch t).founders⟩

theorem proposeTurnover_refused (full : s.jst.condition ≠ .normal ∨ s.jst.frozen = true ∨ 6 ≤ s.jst.queue.length) :
    proposeTurnover epoch s = s := by
  simp only [proposeTurnover, offer_refused full, Bool.false_eq_true, if_false]

theorem proposeTurnover_accepted (normal : s.jst.condition = .normal) (thawed : s.jst.frozen = false)
    (room : s.jst.queue.length < 6) : proposeTurnover epoch s =
      (offer (proposedEntry epoch s.ptb) s).1.setPtb { s.ptb with turnover := some (proposed epoch s.ptb) } := by
  have accepted : (offer (proposedEntry epoch s.ptb) s).2 = true := by rw [offer_accepted normal thawed room]
  exact if_pos accepted

/-- The peer table as a close leaves it. -/
def tableClosed (t : Ptb) : Ptb := { t with peers := closePeers t.peers }

theorem closeTable_plain (stays : turnoverHolds (tableClosed s.ptb) = false ∨
      s.jst.condition ≠ .normal ∨ s.jst.frozen = true ∨ 6 ≤ s.jst.queue.length) :
    closeTable epoch s = s.setPtb (tableClosed s.ptb) := by
  by_cases holds : turnoverHolds (tableClosed s.ptb) = true
  · exact (if_pos holds).trans (proposeTurnover_refused (stays.resolve_left (by simp [holds])))
  · exact if_neg holds

theorem closeTable_proposes (turns : turnoverHolds (tableClosed s.ptb) = true) (normal : s.jst.condition = .normal)
    (thawed : s.jst.frozen = false) (room : s.jst.queue.length < 6) : closeTable epoch s =
      (s.setPtb { tableClosed s.ptb with turnover := some (proposed epoch (tableClosed s.ptb)) }).setJst
        (offer (proposedEntry epoch (tableClosed s.ptb)) s).1.jst := by
  refine (if_pos turns).trans ((proposeTurnover_accepted (s := s.setPtb (tableClosed s.ptb)) normal thawed room).trans ?_)
  rw [offer_setJst, offer_jst_congr (s := s) _ (by rfl)]
  rfl

/-- Whatever the turnover test says, a close changes the table's records, its turnover and the append queue alone. -/
theorem closeTable_frame (epoch : Nat) (s : State) : ∃ turnover j, j.nextSeq = s.jst.nextSeq ∧
    ∀ t : State, t.ptb = s.ptb → t.jst = s.jst →
      closeTable epoch t = (t.setPtb { tableClosed s.ptb with turnover := turnover }).setJst j := by
  by_cases stays : turnoverHolds (tableClosed s.ptb) = false ∨
      s.jst.condition ≠ .normal ∨ s.jst.frozen = true ∨ 6 ≤ s.jst.queue.length
  · refine ⟨s.ptb.turnover, s.jst, rfl, fun t ptb jst => ?_⟩
    rw [closeTable_plain (by rw [ptb, jst]; exact stays), ptb, ← jst]
    rfl
  · push Not at stays
    obtain ⟨turns, normal, thawed, room⟩ := stays
    refine ⟨some (proposed epoch (tableClosed s.ptb)), (offer (proposedEntry epoch (tableClosed s.ptb)) s).1.jst, offer_nextSeq _ s, fun t ptb jst => ?_⟩
    rw [closeTable_proposes (by rw [ptb]; simpa using turns) (by rw [jst]; exact normal) (by rw [jst]; simpa using thawed)
      (by rw [jst]; exact room), ptb, offer_jst_congr _ jst]

end

/-! ### The door monitor at an ACTIVE epoch end (R77, R78) -/

/-- The door monitor after an epoch end with no record that waits. -/
def doorSettled (epoch : Nat) (d : Dmn) : Dmn :=
  match d.episode with
  | none => d
  | some e =>
    if e.ownMark = false ∧ e.heardMark = false ∧ 1 ≤ e.quiet then
      { d with
        episode := none
        closing := some { e with overrun := e.overrun || decide (30 ≤ e.age), quiet := e.quiet + 1, stop := some epoch } }
    else
      { d with
        episode := some { e with
          overrun := e.overrun || decide (30 ≤ e.age)
          quiet := if e.ownMark = true ∨ e.heardMark = true then 0 else e.quiet + 1
          age := min 65535 (e.age + 1)
          ownMark := d.latch
          heardMark := false } }

theorem viewed_none {d : Dmn} (none : d.episode = none) : d.viewed = d := by
  obtain ⟨_, _, _, _⟩ := d
  subst none
  rfl

theorem settleEpisode_viewed (epoch : Nat) {s : State} {d : Dmn} (viewed : s.dmn = d.viewed)
    (rests : d.episode = none ∨ d.closing = none) : settleEpisode epoch s = s.setDmn (doorSettled epoch d) := by
  cases episode : d.episode with
  | none =>
    have same : s.dmn = d := viewed.trans (viewed_none episode)
    have still : settleEpisode epoch s = s := by simp only [settleEpisode, same, episode]
    rw [still, doorSettled, episode]
    rw [← same]
    rfl
  | some e =>
    have closing : s.dmn.closing = none := by
      rw [viewed]
      exact rests.resolve_left (by simp [episode])
    have opened : s.dmn.episode = some { e with overrun := e.overrun || decide (30 ≤ e.age) } := by
      rw [viewed, Dmn.viewed, episode]
      rfl
    by_cases ends : e.ownMark = false ∧ e.heardMark = false ∧ 1 ≤ e.quiet
    · obtain ⟨own, heard, quiet⟩ := id ends
      rw [settleEpisode_closes epoch opened own heard quiet, offerClosing_none closing, viewed]
      simp only [doorSettled, episode, if_pos ends] <;> rfl
    · rw [settleEpisode_ages epoch opened ends, viewed]
      simp only [doorSettled, episode, if_neg ends] <;> rfl

theorem epochEndDoor_eq {epoch : Nat} {v : CloseView} {s : State} (taking : s.dmn.taking = true)
    (held : s.eve.inputs = [⟨epoch, none, some v, none⟩]) (rests : s.dmn.episode = none ∨ s.dmn.closing = none) :
    epochEndDoor epoch s = (s.setEve { s.eve with
      inputs := [⟨epoch, none, some v, some (doorView epoch s.dmn)⟩] }).setDmn (doorSettled epoch s.dmn) := by
  unfold epochEndDoor
  dsimp only
  rw [if_pos taking, handDoor_second (s := s.setDmn s.dmn.viewed) epoch v _ held,
    settleEpisode_viewed (s := State.setEve _ _) epoch rfl rests]
  rfl

/-! ### An ACTIVE epoch end (R17, R41) -/

/-- The state after an ACTIVE epoch end, with the peer table and the append queue that it leaves. -/
def epochClosed (env : Env) (p : Ptb) (j : Jst) (s : State) : State :=
  { s with
    ret := if s.ret.epoch < Config.maxEpoch then { s.ret with position := 0, quarter := 1, epoch := s.ret.epoch + 1 }
      else { s.ret with position := 0, schedule := .stopped }
    tmb := if s.ret.epoch < Config.maxEpoch then s.tmb else { s.tmb with stall := none }
    tch := { s.tch with probe := s.tch.probe.set 4 .converting, air := s.tch.air.set 4 .converting }
    ptb := p
    jst := j
    dmn := doorSettled s.ret.epoch s.dmn
    eve := { s.eve with
      inputs := [⟨s.ret.epoch, none, some (closeView s.ret.epoch s.ptb), some (doorView s.ret.epoch s.dmn)⟩] }
    chc := { s.chc with
      schedule := if env.noteDelay % (2 * s.cmr.epochLength + 1) = 0 then .due s.ret.epoch
        else .waiting s.ret.epoch (env.noteDelay % (2 * s.cmr.epochLength + 1)) false } }

section
variable {env : Env} {p : Ptb} {j : Jst} {s : State} (schedule : s.ret.schedule = .running) (last : s.ret.quarter = 4)
  (active : s.eve.station = .active) (view : s.ptb.viewTaken = false) (taking : s.dmn.taking = true)
  (converts : s.tch.taking = true) (inputs : s.eve.inputs = [])
include schedule last active view taking converts inputs

/-- The blocks take an ACTIVE epoch end in their order: the conversions, the peer table, the door monitor, the note
schedule. -/
theorem runningQuarterEnd_closes (unconcluded : concluding s = false)
    (rests : s.dmn.episode = none ∨ s.dmn.closing = none)
    (table : ∀ t : State, t.ptb = s.ptb → t.jst = s.jst → closeTable s.ret.epoch t = (t.setPtb p).setJst j) :
    runningQuarterEnd env s = epochClosed env p j s := by
  have converted : startConversions 4 (epochTurned s) = (epochTurned s).setTch { s.tch with
      probe := s.tch.probe.set 4 .converting, air := s.tch.air.set 4 .converting } := if_pos ⟨active, converts⟩
  have peers : epochEndPeers s.ret.epoch (startConversions 4 (epochTurned s)) =
      (((startConversions 4 (epochTurned s)).setEve { s.eve with
        inputs := [⟨s.ret.epoch, none, some (closeView s.ret.epoch s.ptb), none⟩] }).setPtb p).setJst j := by
    rw [converted]
    refine (if_neg (by simp [epochTurned, view])).trans ?_
    rw [handView_first _ _ (by exact inputs)]
    exact table _ rfl rfl
  have door := epochEndDoor_eq (epoch := s.ret.epoch) (v := closeView s.ret.epoch s.ptb)
    (s := (((startConversions 4 (epochTurned s)).setEve { s.eve with
        inputs := [⟨s.ret.epoch, none, some (closeView s.ret.epoch s.ptb), none⟩] }).setPtb p).setJst j)
    (by rw [converted]; exact taking) rfl (by rw [converted]; exact rests)
  have blocks : startSchedule env s.ret.epoch (epochEndDoor s.ret.epoch (epochEndPeers s.ret.epoch
      (startConversions 4 (epochTurned s)))) = epochClosed env p j s := by
    rw [peers, door, converted]
    rfl
  rw [runningQuarterEnd_last env schedule last, epochEnd, if_pos (by rw [converted]; exact active), blocks]
  refine lateRequests_other fun reader tag late service => ?_
  simp [concluding, epochClosed] at unconcluded service
  simp [service] at unconcluded

end

/-- Settles O18. -/
theorem epochEndReachesTheBlocks : Obligations.EpochEndReachesTheBlocks := by
  intro env s logic schedule last inRange active view taking converts inputs closed delay ended
  have hr := running_of_logic logic
  have closes {p : Ptb} {j : Jst} := runningQuarterEnd_closes (env := env) (p := p) (j := j) schedule last active view taking
    converts inputs
  refine ⟨fun light quietDoor => ?_, fun i n access service waiting => ?_⟩
  · obtain ⟨turnover, j, seq, table⟩ := closeTable_frame s.ret.epoch s
    have state : epochClosed env { tableClosed s.ptb with turnover := turnover } j s =
        ((ended ⟨s.ret.epoch, false, false⟩).setPtb { tableClosed s.ptb with turnover := turnover }).setJst j := by
      rw [epochClosed, doorSettled, doorView, quietDoor]
      rfl
    refine ⟨_, by rw [exec_quarterEnd_running env hr schedule, closes (unconcluded_of_light light) (.inl quietDoor) table,
      state], ?_⟩
    have turned : Ends (ended ⟨s.ret.epoch, false, false⟩)
        ((ended ⟨s.ret.epoch, false, false⟩).setPtb { tableClosed s.ptb with turnover := turnover }) :=
      Ends.setPtb _ rfl rfl rfl rfl light
    exact (turned.trans (Ends.setJst _ _ seq light)).settled env light
  · intro near remaining turns proposal door dmn
    have settled : doorSettled s.ret.epoch s.dmn = dmn := by
      simp only [dmn, doorSettled] <;> cases s.dmn.episode <;> rfl
    have viewed : doorView s.ret.epoch s.dmn = door := by
      simp only [door, doorView] <;> cases s.dmn.episode <;> rfl
    have ends (p : Ptb) (j : Jst) (kept : j.access = s.jst.access)
        (table : ∀ t : State, t.ptb = s.ptb → t.jst = s.jst → closeTable s.ret.epoch t = (t.setPtb p).setJst j) :
        exec (.quarterEnd env) s = .next (kick env { ended door with dmn := dmn, ptb := p, jst := j }) := by
      rw [exec_quarterEnd_running env hr schedule, closes (by simp [concluding, service]) (.inr waiting) table]
      refine congrArg Host.Outcome.next ((settle_busy env ?_ ?_ ?_).trans ?_)
      · exact hr
      · exact fun none => by cases (kept.trans access).symm.trans none
      · have served : (epochClosed env p j s).rqs.service = none := service
        simp only [checkpointRests, served]
      · rw [epochClosed, settled, viewed]
        rfl
    have holds : turnoverHolds (tableClosed s.ptb) = true ↔ turns := by
      simp only [turnoverHolds, Bool.and_eq_true, Bool.or_eq_true, decide_eq_true_eq, Option.isNone_iff_eq_none,
        List.isEmpty_iff, and_assoc]
      rfl
    refine ⟨fun stays => ?_, fun turn normal thawed room => ?_⟩
    · refine ends (tableClosed s.ptb) s.jst rfl fun t ptb jst => ?_
      rw [closeTable_plain, ptb, ← jst]
      · rfl
      · rw [ptb, jst]
        exact stays.imp (fun no => by rw [← Bool.not_eq_true, holds]; exact no) id
    · have accepted := offer_entry (proposedEntry s.ret.epoch (tableClosed s.ptb)) access normal thawed room
      refine ends { tableClosed s.ptb with turnover := some (proposed s.ret.epoch (tableClosed s.ptb)) }
        { s.jst with queue := s.jst.queue ++ [proposedEntry s.ret.epoch (tableClosed s.ptb)] } rfl fun t ptb jst => ?_
      rw [closeTable_proposes (by rw [ptb]; exact holds.mpr turn) (by rw [jst]; exact normal) (by rw [jst]; exact thawed)
        (by rw [jst]; exact room), ptb, offer_jst_congr (s := s) _ jst, accepted]
      rfl

end Sys2Proof.Machine


/-! The scan and the start of the logic (R12, R25 to R30, R48, R69, R70, R82, R102, R106 to R109, R124 to R127, R144). -/

namespace Sys2Proof.Machine

/-! ### What a segment reads as (R106, R107) -/

theorem AllocFields.pass_iff (f : AllocFields) : f.pass = true ↔
    1 ≤ f.seq ∧ f.seq ≤ 65535 ∧ ∀ a b, f.sources = some (a, b) → a ≠ b ∧ a ≠ f.seq ∧ b ≠ f.seq := by
  have last : Config.maxSeq = 65535 := rfl
  unfold AllocFields.pass
  cases sources : f.sources with
  | none => simp [last]
  | some p =>
    obtain ⟨a, b⟩ := p
    simp only [Bool.and_eq_true, decide_eq_true_eq, bne_iff_ne, last, Option.some.injEq, Prod.mk.injEq]
    constructor
    · rintro ⟨⟨low, high⟩, ⟨ab, as⟩, bs⟩
      exact ⟨low, high, by rintro x y ⟨rfl, rfl⟩; exact ⟨ab, as, bs⟩⟩
    · rintro ⟨low, high, differ⟩
      obtain ⟨ab, as, bs⟩ := differ a b ⟨rfl, rfl⟩
      exact ⟨⟨low, high⟩, ⟨ab, as⟩, bs⟩

theorem Header.marked_iff (h : Header) : h.marked = true ↔ h.protection ≠ .clear ∨ h.lock = true := by
  simp [Header.marked]

section
variable {g : Segment} {f : AllocFields}

theorem reading_invalid (used : g ≠ .erased)
    (fails : g.header.stray = true ∨ g.header.alloc = .erased ∨ ∃ shown, g.header.alloc = .failing shown) :
    g.reading = .invalid := by
  rw [Segment.reading, if_neg used]
  split
  · rfl
  · rename_i clean
    obtain erased | ⟨shown, failing⟩ := fails.resolve_left clean
    · rw [erased]
    · rw [failing]

theorem ne_erased_of_fields (fields : g.header.alloc = .fields f) : g ≠ .erased := by
  rintro rfl
  cases fields

theorem reading_fields (fields : g.header.alloc = .fields f) (clean : g.header.stray = false) : g.reading =
    if f.pass = true then
      if f.sources = none then if g.header.commit = true then .invalid else .journal f
      else if g.header.commit = true then .committedTarget f
        else if g.header.marked = true then .invalid else .pendingTarget f
    else .invalid := by
  rw [Segment.reading, if_neg (ne_erased_of_fields fields), if_neg (by simp [clean]), fields]
  dsimp only
  by_cases pass : f.pass = true
  · rw [if_neg (by simp [pass]), if_pos pass]
    cases f.sources <;> simp
  · rw [if_pos (by simpa using pass), if_neg pass]

/-- A segment that does not read erased is INVALID, or shows allocation fields. -/
theorem reading_used (used : g ≠ .erased) : g.reading = .invalid ∨
    ∃ f, g.header.alloc = .fields f ∧ g.header.stray = false := by
  by_cases fails : g.header.stray = true ∨ g.header.alloc = .erased ∨ ∃ shown, g.header.alloc = .failing shown
  · exact .inl (reading_invalid used fails)
  · push Not at fails
    obtain ⟨clean, written, passes⟩ := fails
    cases alloc : g.header.alloc with
    | erased => exact absurd alloc written
    | failing shown => exact absurd alloc (passes shown)
    | fields f => exact .inr ⟨f, rfl, by simpa using clean⟩

theorem reading_blank (reads : g.reading = .blank) : g = .erased := by
  by_contra used
  obtain invalid | ⟨f, fields, clean⟩ := reading_used used
  · rw [invalid] at reads
    cases reads
  · rw [reading_fields fields clean] at reads
    split_ifs at reads

/-- A reading that shows fields shows those of the header. -/
theorem reading_shows (reads : g.reading = .journal f ∨ g.reading = .committedTarget f ∨ g.reading = .pendingTarget f) :
    g.header.alloc = .fields f := by
  have used : g ≠ .erased := by
    rintro rfl
    have blank : Segment.erased.reading = .blank := if_pos rfl
    simp [blank] at reads
  obtain invalid | ⟨f', fields, clean⟩ := reading_used used
  · simp [invalid] at reads
  · rw [reading_fields fields clean] at reads
    split_ifs at reads <;> simp_all

end

/-! ### What the scan makes of a segment (R124, R125, R144) -/

theorem headD_numbers (a : AllocRead) : a.numbers.headD 65535 = match a with
    | .erased => 65535
    | .failing numbers => numbers.headD 65535
    | .fields f => f.seq := by
  cases a with
  | erased => rfl
  | failing shown => rfl
  | fields f =>
    show (AllocFields.numbers f).headD 65535 = f.seq
    unfold AllocFields.numbers
    cases f.sources <;> rfl

theorem mayBeSource_iff (h : Header) (named : List Nat) : h.mayBeSource named = true ↔
    ∃ n ∈ named, n ||| h.alloc.numbers.headD 65535 = h.alloc.numbers.headD 65535 := by
  simp [Header.mayBeSource, List.any_eq_true]

/-! ### What the scan makes of a segment (R124, R125, R144) -/

section
variable {commissioned concluded : Bool} {named : List Nat} {g : Segment}

/-- The verdict over a segment that an erase or a copy may have left. -/
def leftoverVerdict (final : Bool) (g : Segment) (kept unerasable : SegStatus) : SegStatus × Bool :=
  if final then (kept, false) else if g.header.marked then (unerasable, false) else (kept, true)

theorem scanVerdict_invalid (reads : g.reading = .invalid) : scanVerdict commissioned concluded named g =
    leftoverVerdict (commissioned && concluded) g (if g.header.mayBeSource named then .retiring else .invalidKept)
      .outOfService := by
  simp only [scanVerdict, reads, leftoverVerdict]

theorem scanVerdict_pending {f : AllocFields} (reads : g.reading = .pendingTarget f) :
    scanVerdict commissioned concluded named g = leftoverVerdict (commissioned && concluded) g
      (if named.contains f.seq then .retiring else .targetPending) .outOfService := by
  simp only [scanVerdict, reads, leftoverVerdict]

theorem scanVerdict_live {f : AllocFields} (reads : g.reading = .journal f ∨ g.reading = .committedTarget f) :
    scanVerdict commissioned concluded named g =
      if named.contains f.seq then leftoverVerdict (commissioned && concluded) g .retiring .retiring
      else if commissioned then (.full, false) else if g.header.marked then (.outOfService, false) else (.full, true) := by
  obtain reads | reads := reads <;> simp only [scanVerdict, reads, leftoverVerdict]

theorem leftoverVerdict_spec (asFound marked : SegStatus) :
    (commissioned = true ∧ concluded = true →
      leftoverVerdict (commissioned && concluded) g asFound marked = (asFound, false)) ∧
    (¬ (commissioned = true ∧ concluded = true) → g.header.marked = true →
      leftoverVerdict (commissioned && concluded) g asFound marked = (marked, false)) ∧
    (¬ (commissioned = true ∧ concluded = true) → g.header.marked = false →
      (leftoverVerdict (commissioned && concluded) g asFound marked).2 = true) := by
  rw [← Bool.and_eq_true_iff]
  unfold leftoverVerdict
  exact ⟨fun final => if_pos final, fun goes mark => by rw [if_neg goes, if_pos mark],
    fun goes clear => by rw [if_neg goes, if_neg (by simp [clear])]⟩

end

/-! ### Sequence numbers (R108, R109) -/

/-- A number that a header of the store holds (R109; notes/assumptions/13.md). -/
def HeaderNames (store : List Segment) (n : Nat) : Prop := ∃ g ∈ store,
  (∃ shown, g.header.alloc = .failing shown ∧ n ∈ shown ∧ n ≠ 65535) ∨
  ∃ f, g.header.alloc = .fields f ∧ (f.pass = false → n ≠ 65535) ∧
    (n = f.seq ∨ ∃ a b, f.sources = some (a, b) ∧ (n = a ∨ n = b))

theorem mem_fieldNumbers (f : AllocFields) (n : Nat) : n ∈ f.numbers ↔
    n = f.seq ∨ ∃ a b, f.sources = some (a, b) ∧ (n = a ∨ n = b) := by
  unfold AllocFields.numbers
  cases sources : f.sources with
  | none => simp
  | some p =>
    obtain ⟨a, b⟩ := p
    simp only [List.mem_cons, List.not_mem_nil, or_false, Option.some.injEq, Prod.mk.injEq]
    exact or_congr_right ⟨fun h => ⟨a, b, ⟨rfl, rfl⟩, h⟩, by rintro ⟨_, _, ⟨rfl, rfl⟩, h⟩; exact h⟩

theorem mem_seqNumbers (store : List Segment) (n : Nat) : n ∈ seqNumbers store ↔ HeaderNames store n := by
  unfold seqNumbers HeaderNames
  rw [List.mem_flatMap]
  refine exists_congr fun g => and_congr_right fun _ => ?_
  unfold Header.numbers
  cases alloc : g.header.alloc with
  | erased => simp
  | failing shown => simp [shownNumber]
  | fields f =>
    cases pass : f.pass <;> simp [pass, shownNumber, mem_fieldNumbers, and_comm]

theorem le_foldl_max {n : Nat} : ∀ {ns : List Nat} (m : Nat), n ∈ ns ∨ n ≤ m → n ≤ ns.foldl max m
  | [], _, h => h.resolve_left (by simp)
  | k :: ns, m, h => le_foldl_max (max m k) (by
    obtain inside | below := h
    · obtain rfl | later := List.mem_cons.mp inside
      · exact .inr (le_max_right _ _)
      · exact .inl later
    · exact .inr (below.trans (le_max_left _ _)))

theorem foldl_max_mem : ∀ (ns : List Nat) (m : Nat), ns.foldl max m = m ∨ ns.foldl max m ∈ ns
  | [], _ => .inl rfl
  | k :: ns, m => by
    obtain same | inside := foldl_max_mem ns (max m k)
    · obtain left | right := max_choice m k
      · exact .inl (same.trans left)
      · exact .inr (List.mem_cons.mpr (.inl (same.trans right)))
    · exact .inr (List.mem_cons_of_mem k inside)

theorem nextSeqOf_spec (store : List Segment) : (∀ n, HeaderNames store n → n < nextSeqOf store) ∧
    (nextSeqOf store = 1 ∨ HeaderNames store (nextSeqOf store - 1)) := by
  refine ⟨fun n names => Nat.lt_succ_of_le (le_foldl_max 0 (.inl ((mem_seqNumbers store n).mpr names))), ?_⟩
  obtain zero | inside := foldl_max_mem (seqNumbers store) 0
  · exact .inl (congrArg (· + 1) zero)
  · exact .inr ((mem_seqNumbers store _).mp inside)

theorem mem_namedSources (store : List Segment) (n : Nat) : n ∈ namedSources store ↔ ∃ g ∈ store, ∃ f a b,
    g.reading = .committedTarget f ∧ f.sources = some (a, b) ∧ (n = a ∨ n = b) := by
  unfold namedSources
  rw [List.mem_flatMap]
  refine exists_congr fun g => and_congr_right fun _ => ?_
  cases reads : g.reading with
  | committedTarget f =>
    cases sources : f.sources with
    | none => simp [sources]
    | some p =>
      obtain ⟨a, b⟩ := p
      simp [sources]
  | blank | invalid | journal | pendingTarget => simp

/-! ### A source that an erase left in part (R144) -/

theorem or_maxSeq {n : Nat} (inRange : n ≤ 65535) : n ||| 65535 = 65535 := by
  have below : n ||| 65535 < 2 ^ 16 := Nat.or_lt_two_pow (by omega) (by omega)
  have above : 65535 ≤ n ||| 65535 := Nat.right_le_or
  omega

/-- What an erase leaves of allocation fields: the fields, broken ones whose number only gained bits, or none. -/
theorem erasedTo_alloc {g : Segment} {f : AllocFields} (left : EraseLeft) (fields : g.header.alloc = .fields f) :
    (g.erasedTo left).header.alloc = .fields f ∨
    (∃ shown : List Nat, (g.erasedTo left).header.alloc = .failing (f.numbers.zipWith (· ||| ·) shown)) ∨
    (g.erasedTo left).header.alloc = .erased := by
  unfold Segment.erasedTo
  rw [fields]
  cases left.alloc with
  | asIs => exact .inl rfl
  | broken shown => exact .inr (.inl ⟨shown, rfl⟩)
  | gone => exact .inr (.inr rfl)

/-- A number that an erase left in part still has every bit it had. -/
theorem or_erasedTo_number {g : Segment} {f : AllocFields} (left : EraseLeft) (fields : g.header.alloc = .fields f)
    (inRange : f.seq ≤ 65535) : f.seq ||| (g.erasedTo left).header.alloc.numbers.headD 65535 =
      (g.erasedTo left).header.alloc.numbers.headD 65535 := by
  obtain same | ⟨shown, broken⟩ | gone := erasedTo_alloc left fields
  · rw [same, headD_numbers]
    exact Nat.or_self _
  · obtain ⟨rest, numbers⟩ : ∃ rest, f.numbers = f.seq :: rest := by
      unfold AllocFields.numbers
      cases f.sources <;> exact ⟨_, rfl⟩
    rw [broken, headD_numbers]
    dsimp only
    rw [numbers]
    cases shown with
    | nil => exact or_maxSeq inRange
    | cons x xs =>
      show f.seq ||| (f.seq ||| x) = f.seq ||| x
      rw [← Nat.or_assoc, Nat.or_self]
  · rw [gone]
    exact or_maxSeq inRange

theorem scanVerdict_source {named : List Nat} {g : Segment} {f : AllocFields} {left : EraseLeft}
    (fields : g.header.alloc = .fields f) (inRange : f.seq ≤ 65535) (isNamed : f.seq ∈ named)
    (used : g.erasedTo left ≠ .erased) : scanVerdict true true named (g.erasedTo left) = (.retiring, false) := by
  have shows {f' : AllocFields} (alloc : (g.erasedTo left).header.alloc = .fields f') : named.contains f'.seq = true := by
    obtain same | ⟨shown, broken⟩ | gone := erasedTo_alloc left fields
    · obtain rfl : f = f' := by simpa [same] using alloc
      exact List.contains_iff_mem.mpr isNamed
    · exact absurd (broken.symm.trans alloc) (by simp)
    · exact absurd (gone.symm.trans alloc) (by simp)
  cases reads : (g.erasedTo left).reading with
  | blank => exact absurd (reading_blank reads) used
  | invalid =>
    have source : (g.erasedTo left).header.mayBeSource named = true :=
      (mayBeSource_iff _ _).mpr ⟨_, isNamed, or_erasedTo_number left fields inRange⟩
    rw [scanVerdict_invalid reads, if_pos source]
    rfl
  | pendingTarget f' =>
    rw [scanVerdict_pending reads, if_pos (shows (reading_shows (.inr (.inr reads))))]
    rfl
  | journal f' =>
    rw [scanVerdict_live (.inl reads), if_pos (shows (reading_shows (.inl reads)))]
    rfl
  | committedTarget f' =>
    rw [scanVerdict_live (.inr reads), if_pos (shows (reading_shows (.inr (.inl reads))))]
    rfl

/-! ### RESTART (R25, R26, R48, R70, R82, R164) -/

section
variable {light : Bool} {env : Env} {s : State}

/-- The retention domain once a start has counted itself (R26, R30). -/
def noted (s : State) : Retention :=
  if s.retValid = true then
    { s.ret with
      restarts := if s.cmr.commissioned = true then min 255 (s.ret.restarts + 1) else s.ret.restarts
      cause := .none }
  else s.ret

/-- The cause that a kept start records. -/
def recordedCause (s : State) : RestartCause := if s.ret.cause = .stall then .stall else .brownout

theorem recorded_eq (s : State) : s.ret.cause.recorded = recordedCause s := by
  unfold recordedCause
  cases s.ret.cause <;> rfl

/-- The station in start-up: every block at its value after a restart, and the store as the scan reads it. -/
def startingUp (light : Bool) (s : State) : State :=
  { s with
    logic := .startUp
    ret := noted s
    tmb := ⟨none, if s.retValid = true then recordedCause s else s.tmb.lastCause⟩
    tch := ⟨.pending, .pending, s.cmr.probeOffset, s.cmr.airOffset, .unknown, true, false⟩
    chc := .initial
    ptb := .initial
    dmn := .initial light
    eve := .initial .blank 0
    cmr := { s.cmr with program := .none }
    rqs := { Rqs.initial with spoilt := s.cmr.spoilt }
    jst := scanned s }

theorem scanned_congr {t : State} (store : t.store = s.store) (record : t.cmr.consignment = s.cmr.consignment) :
    scanned t = scanned s := by
  have commissioned : t.cmr.commissioned = s.cmr.commissioned := by
    unfold Cmr.commissioned Cmr.markSet Cmr.byte
    rw [record]
  have concluded : t.cmr.concluded = s.cmr.concluded := by
    unfold Cmr.concluded Cmr.markSet Cmr.byte
    rw [record]
  unfold scanned
  rw [store, commissioned, concluded]

theorem noteRestart_eq (s : State) : noteRestart s =
    (s.setTmb { s.tmb with lastCause := if s.retValid = true then recordedCause s else s.tmb.lastCause }).setRet (noted s) := by
  by_cases valid : s.retValid = true
  · rw [noteRestart, if_pos valid, if_pos valid, recorded_eq, noted, if_pos valid] <;> rfl
  · rw [noteRestart_invalid (by simpa using valid), if_neg valid, noted, if_neg valid]
    rfl

theorem exec_restart (logic : s.logic = .stopped) :
    exec (.restart light env) s = .next (continueScan env (startingUp light s)) := by
  show done _ = _
  rw [if_pos logic, noteRestart_eq]
  dsimp only
  rw [scanned_congr (s := s) (by rfl) (by rfl)]
  rfl

end

/-! ### The end of the scan (R27, R69, R80, R126) -/

section
variable {env : Env} {s : State}

/-- The state at the end of start-up, before anything that waits takes the array. -/
def started (s : State) : State :=
  openAtStart (scanDecision s) (restoreLeg (scanDecision s).activation (scanFacts s)
    (settleOpen (scanDecision s).station (reported s)))

theorem restoreLeg_frame (activation : Bool) (f : Facts) (s : State) : ∃ p j,
    restoreLeg activation f s = (s.setPtb p).setJst j := by
  unfold restoreLeg
  split
  · exact ⟨s.ptb, s.jst, rfl⟩
  · exact ⟨s.ptb, s.jst, rfl⟩
  · split
    · exact ⟨_, _, offer_setJst _ (s.setPtb _)⟩
    · split
      · rename_i e _
        exact ⟨{ s.ptb with leg := some e.leg, founders := e.founders }, s.jst, rfl⟩
      · exact ⟨_, _, offer_setJst _ (s.setPtb _)⟩
  · split
    · rename_i e _
      exact ⟨{ s.ptb with leg := some e.leg, founders := e.founders }, s.jst, rfl⟩
    · exact ⟨s.ptb, s.jst, rfl⟩

theorem openAtStart_frame (d : Decision) (s : State) : openAtStart d s = s.setDmn
    (if d.station = .active ∧ s.dmn.latch = true then { s.dmn with episode := some (.begin .own d.ret.epoch) } else s.dmn) := by
  unfold openAtStart openAtLight setEpisode
  by_cases active : d.station = .active <;> by_cases light : s.dmn.latch = true <;> simp [active, light, State.setDmn]

/-- The end of start-up changes the peer table, the store's state and the door monitor alone. -/
theorem started_frame (s : State) : ∃ p j d, started s = (((reported s).setPtb p).setJst j).setDmn d := by
  obtain ⟨p, j, leg⟩ := restoreLeg_frame (scanDecision s).activation (scanFacts s)
    (settleOpen (scanDecision s).station (reported s))
  rw [(settleOpen_frames _ _).1] at leg
  rw [started, (settleOpen_frames _ _).1, leg, openAtStart_frame]
  exact ⟨p, j, _, rfl⟩

end

/-- An erase ends in a store that holds the segment. -/
theorem endErase_eq {i : Nat} (left : EraseLeft) {s : State} (inStore : i < s.store.length) : endErase i left s =
    (s.setStore (s.store.set i ((segAt s i).erasedTo left))).setJst { s.jst with
      status := s.jst.status.set i (if (segAt s i).erasedTo left = .erased then .blank else .outOfService) } := by
  have put : segAt (s.setStore (s.store.set i ((segAt s i).erasedTo left))) i = (segAt s i).erasedTo left := by
    simp [segAt, inStore]
  unfold endErase eraseSeg putSeg
  dsimp only
  rw [put]
  rfl

/-- Settles O25, from the readings of a segment, the verdict on each reading, and the names of the headers. -/
theorem scanEraseEndReadsBack : Obligations.ScanEraseEndReadsBack := by
  refine ⟨fun left env i s logic access inStore length => ⟨fun j rest scan => ?_, fun scan => ?_⟩, fun g => ?_,
    fun commissioned concluded named g => ?_, fun named g f left fields inRange isNamed used =>
      scanVerdict_source fields inRange isNamed used, fun store => ?_, fun light env i rest s logic scan => ?_⟩
  · show done _ = _
    rw [if_pos logic, access]
    dsimp only
    rw [endErase_eq left inStore, continueScan]
    simp only [State.setJst_jst, scan, List.tail_cons]
    rfl
  · have ended : exec (.scanEraseEnd left env) s = .next (settle env (started (setAccess .none
        ((endErase i left s).setJst { (endErase i left s).jst with scan := [] })))) := by
      show done _ = _
      rw [if_pos logic, access]
      dsimp only
      rw [endErase_eq left inStore, continueScan]
      simp only [State.setJst_jst, scan, List.tail_cons]
      rfl
    refine ⟨_, ended, ?_⟩
    rw [endErase_eq left inStore]
    generalize quietly : setAccess .none _ = u
    obtain ⟨p, j, d, frame⟩ := started_frame u
    have core := settle_core env (started u)
    rw [frame] at core ⊢
    exact ⟨core.logic, core.retValid, core.store.trans (by rw [← quietly]; rfl), core.cmr.trans (by rw [← quietly]; rfl)⟩
  · intro marked
    refine ⟨fun erased => if_pos erased, reading_invalid, fun f fields clean => ?_, g.header.marked_iff⟩
    intro passes
    have iff : f.pass = true ↔ passes := f.pass_iff
    have reads := reading_fields fields clean
    refine ⟨fun no => ?_, fun yes none => ?_, fun yes some1 => ⟨fun commit => ?_, fun commit unmarked => ?_,
      fun commit mark => ?_⟩⟩
    · rw [reads, if_neg (by rw [iff]; exact no)]
    · rw [reads, if_pos (iff.mpr yes), if_pos none]
    · rw [reads, if_pos (iff.mpr yes), if_neg some1, if_pos commit]
    · rw [reads, if_pos (iff.mpr yes), if_neg some1, if_neg (by simp [commit]), if_neg (by rw [g.header.marked_iff]; exact unmarked)]
    · rw [reads, if_pos (iff.mpr yes), if_neg some1, if_neg (by simp [commit]), if_pos (g.header.marked_iff.mpr mark)]
  · intro verdict final leftover
    have left (asFound marked : SegStatus)
        (same : verdict = leftoverVerdict (commissioned && concluded) g asFound marked) : leftover asFound marked := by
      have spec := leftoverVerdict_spec (commissioned := commissioned) (concluded := concluded) (g := g) asFound marked
      rw [← same] at spec
      exact spec
    refine ⟨fun reads => by simp only [verdict, scanVerdict, reads], ?_⟩
    intro shown source
    have isSource : g.header.mayBeSource named = true ↔ source := by
      refine (mayBeSource_iff _ _).trans (Iff.of_eq (congrArg (fun m => ∃ n ∈ named, n ||| m = m) ?_))
      exact headD_numbers _
    refine ⟨fun reads => ⟨fun yes => left _ _ ?_, fun no => left _ _ ?_⟩,
      fun f reads => ⟨fun yes => left _ _ ?_, fun no => left _ _ ?_⟩,
      fun f reads => ⟨fun yes => left _ _ ?_, fun no yes => ?_, fun no free => ⟨fun mark => ?_, fun clear => ?_⟩⟩⟩
    · exact (scanVerdict_invalid reads).trans (by rw [if_pos (isSource.mpr yes)])
    · exact (scanVerdict_invalid reads).trans (by rw [if_neg (by rw [isSource]; exact no)])
    · exact (scanVerdict_pending reads).trans (by rw [if_pos (List.contains_iff_mem.mpr yes)])
    · exact (scanVerdict_pending reads).trans (by rw [if_neg (by rw [List.contains_iff_mem]; exact no)])
    · exact (scanVerdict_live reads).trans (if_pos (List.contains_iff_mem.mpr yes))
    · exact (scanVerdict_live reads).trans ((if_neg (by rw [List.contains_iff_mem]; exact no)).trans (if_pos yes))
    · exact (scanVerdict_live reads).trans ((if_neg (by rw [List.contains_iff_mem]; exact no)).trans
        ((if_neg (by simp [free])).trans (if_pos mark)))
    · refine congrArg Prod.snd ((scanVerdict_live reads).trans ((if_neg (by rw [List.contains_iff_mem]; exact no)).trans
        ((if_neg (by simp [free])).trans (if_neg (by simp [clear])))))
  · exact ⟨fun n names => (nextSeqOf_spec store).1 n names, (nextSeqOf_spec store).2, mem_namedSources store⟩
  · have scan' : (startingUp light s).jst.scan = i :: rest := scan
    rw [exec_restart logic, continueScan, scan']
    rfl

end Sys2Proof.Machine

/-! The start of a part without a commit byte (R12, R25 to R27, R48, R70, R82, R84, R102, R129, R164): the decision of the
timebase, read off the state that the scan has seen. -/

namespace Sys2Proof.Machine

theorem restoredEve_station (c : Cmr) (e : Eve) (station : Station) (f : Facts) :
    (restoredEve c e station f).station = e.station := by
  cases station <;> rfl

section
variable {light : Bool} {env : Env} {s : State}

/-- The facts that the scan of a restart finds. -/
def foundFacts (s : State) : Facts := factsOf (liveSegments { s with jst := scanned s })

theorem exec_restart_done (logic : s.logic = .stopped) (scan : (scanned s).scan = []) :
    exec (.restart light env) s = .next (settle env (started (startingUp light s))) := by
  have scan' : (startingUp light s).jst.scan = [] := scan
  rw [exec_restart logic, continueScan, scan']
  rfl

theorem scanFacts_startingUp (light : Bool) (s : State) : scanFacts (startingUp light s) = foundFacts s := rfl

theorem scanKind_startingUp (light : Bool) (s : State) : scanKind (startingUp light s) =
    restartKind s.cmr s.retValid (noted s) (foundFacts s) := rfl

/-- A command that ends with nothing waiting and an empty channel ends as it stands. -/
theorem settle_initial {t : State} (logic : t.logic = .running) (rests : quiet t = true) (channel : t.chc = .initial) :
    settle env t = t := by
  have still : Chc.kick env .initial = .initial := rfl
  rw [settle_quiet env (running_of_logic logic) rests, kick, channel, still, ← channel]
  rfl

/-! ### A part without a commit byte (R27) -/

theorem restartKind_blank {c : Cmr} (blank : c.commissioned = false) (valid : Bool) (r : Retention) (f : Facts) :
    restartKind c valid r f = if valid = true then .kept else .firstPower := by
  simp [restartKind, consistent, blank]

theorem scanDecision_blank (blank : s.cmr.commissioned = false) :
    scanDecision (startingUp light s) = ⟨.initial, .blank, false, .none⟩ := by
  have blank' : (startingUp light s).cmr.commissioned = false := blank
  have kind := restartKind_blank blank' s.retValid (noted s) (foundFacts s)
  rw [scanDecision, show scanKind (startingUp light s) = _ from kind]
  by_cases valid : s.retValid = true
  · rw [if_pos valid]
    simp only [decideStart, restartCount, decideKept, blank']
    rfl
  · rw [if_neg valid]
    rfl

theorem scanCause_blank (blank : s.cmr.commissioned = false) : scanCause (startingUp light s) =
    if s.retValid = false then .firstPower else recordedCause s := by
  have kind := restartKind_blank (c := (startingUp light s).cmr) blank s.retValid (noted s) (foundFacts s)
  rw [scanCause, show scanKind (startingUp light s) = _ from kind]
  cases valid : s.retValid <;> simp [causeOf, startingUp, valid]

theorem reported_station (s : State) : (reported s).eve.station = (scanDecision s).station :=
  restoredEve_station ..

theorem started_blank (blank : (scanDecision s).station = .blank) : started s = reported s := by
  have station : (reported s).eve.station = .blank := (reported_station s).trans blank
  rw [started, blank, openAtStart, blank, if_neg (by decide)]
  show restoreLeg _ _ (reported s) = _
  rw [restoreLeg, station] <;> rfl

end

/-! ### An erased journal (R108, R124) -/

theorem scanVerdict_erased (commissioned concluded : Bool) (named : List Nat) :
    scanVerdict commissioned concluded named .erased = (.blank, false) := by
  rw [scanVerdict, show Segment.erased.reading = .blank from rfl]

theorem scanned_erased {s : State} (erased : s.store = List.replicate 32 .erased) : scanned s = .initial := by
  have verdicts (c d : Bool) (named : List Nat) :
      s.store.map (scanVerdict c d named) = List.replicate 32 (.blank, false) := by
    rw [erased, List.map_replicate, scanVerdict_erased]
  have numbers : nextSeqOf s.store = 1 := by
    rw [erased]
    rfl
  unfold scanned
  dsimp only
  rw [verdicts, numbers]
  rfl

theorem liveSegments_blank {t : State} (blank : t.jst = .initial) : liveSegments t = [] := by
  have status : ∀ i ∈ List.range Config.segments, ¬ (statusAt t i).live = true := by
    rw [show statusAt t = fun i => Jst.initial.status.getD i .outOfService from funext fun i => by rw [statusAt, blank]]
    decide
  rw [liveSegments, liveMap, List.filter_eq_nil_iff.mpr status]
  rfl

/-- Settles O23: the decision of a part without a commit byte is the retention domain's initial value and BLANK, and an
erased journal is scanned as it stands at first. -/
theorem firstPowerStartsBlank : Obligations.FirstPowerStartsBlank := by
  refine ⟨fun light env s logic blank scan => ?_, fun s erased => ⟨?_, ?_⟩⟩
  · intro cause
    have cause' : scanCause (startingUp light s) = cause := scanCause_blank blank
    have decided : scanDecision (startingUp light s) = ⟨.initial, .blank, false, .none⟩ := scanDecision_blank blank
    have blank' : (startingUp light s).cmr.commissioned = false := blank
    have ends : started (startingUp light s) = reported (startingUp light s) := started_blank (by rw [decided])
    rw [exec_restart_done logic scan, ends]
    have reads : reported (startingUp light s) = { startingUp light s with
        logic := .running
        ret := .initial
        retValid := true
        tmb := ⟨none, cause⟩
        eve := { Eve.initial .blank 0 with work := [.restoration ⟨.blank, cause, .none⟩ (foundFacts s)] } } := by
      unfold reported
      rw [decided, cause', blank']
      rfl
    rw [reads]
    exact congrArg Host.Outcome.next (settle_initial rfl rfl rfl)
  · exact scanned_erased erased
  · exact congrArg factsOf (liveSegments_blank (scanned_erased erased))

end Sys2Proof.Machine

/-! Where the start of a commissioned part leads (R25 to R29, R62, R69, R82, R102, R126): the restart kind, the decision for
each station state, and what the restored leg and the OPEN segment leave to the end of start-up. -/

namespace Sys2Proof.Machine

/-! ### The restart kind of a commissioned part (R25) -/

section
variable {c : Cmr} {valid : Bool} {r : Retention} {f : Facts}

theorem restartKind_lost (commissioned : c.commissioned = true) (bad : valid = false ∨ consistent c r f = false) :
    restartKind c valid r f = .lost := by
  unfold restartKind
  cases valid with
  | false => simp [commissioned]
  | true => simp [bad.resolve_left (by decide)]

theorem restartKind_kept (good : consistent c r f = true) : restartKind c true r f = .kept := by
  simp [restartKind, good]

theorem consistent_concluded (commissioned : c.commissioned = true) (concluded : c.concluded = true) :
    consistent c r f = (r.schedule == .stopped) := by
  simp [consistent, commissioned, concluded]

/-- The countdown and the clock of a part in service agree with its journal. -/
def Agrees (r : Retention) (f : Facts) : Prop :=
  (∃ m p, r.countdown = .counting m p) ∧ f.entryPresent = false ∨
    r.countdown = .expired ∧ (f.nextUncovered ≤ r.epoch ∨ r.schedule = .stopped ∧ r.epoch = Config.maxEpoch)

theorem consistent_iff_agrees (commissioned : c.commissioned = true) (unconcluded : c.concluded = false) :
    consistent c r f = true ↔ Agrees r f := by
  have counting : r.countdown.isCounting = true ↔ ∃ m p, r.countdown = .counting m p := by
    cases r.countdown <;> simp [Countdown.isCounting]
  have expired : r.countdown.isExpired = true ↔ r.countdown = .expired := by
    cases r.countdown <;> simp [Countdown.isExpired]
  simp [consistent, commissioned, unconcluded, Agrees, ← counting, ← expired]

end

/-! ### The decision (R27 to R29) -/

section
variable {light : Bool} {env : Env} {s : State}

theorem scanDecision_lost (lost : scanKind (startingUp light s) = .lost) : scanDecision (startingUp light s) =
    decideLost s.cmr (foundFacts s)
      (min 255 ((if s.cmr.concluded = true then figureOr s.cmr 4 (foundFacts s).gaps else (foundFacts s).gaps) + 1)) := by
  rw [scanDecision, lost]
  rfl

theorem scanCause_lost (lost : scanKind (startingUp light s) = .lost) :
    scanCause (startingUp light s) = .retentionLost := by
  rw [scanCause, lost]
  rfl

/-- The retention domain that a kept restart of a commissioned part has counted itself in. -/
def counted (r : Retention) : Retention := { r with restarts := min 255 (r.restarts + 1), cause := .none }

theorem scanDecision_kept (kept : scanKind (startingUp light s) = .kept) (valid : s.retValid = true)
    (commissioned : s.cmr.commissioned = true) : scanDecision (startingUp light s) =
      decideKept s.cmr (counted s.ret) (foundFacts s) (min 255 (s.ret.restarts + 1)) := by
  have record : (startingUp light s).ret = counted s.ret := by
    show noted s = _
    rw [noted, if_pos valid, if_pos commissioned]
    rfl
  have commissioned' : (startingUp light s).cmr.commissioned = true := commissioned
  rw [scanDecision, kept, restartCount, if_pos commissioned', record]
  rfl

theorem scanCause_kept (kept : scanKind (startingUp light s) = .kept) (valid : s.retValid = true) :
    scanCause (startingUp light s) = recordedCause s := by
  rw [scanCause, kept]
  exact if_pos valid

end

/-! ### The end of start-up -/

section
variable {light : Bool} {env : Env} {s : State}

theorem restart_ends (light : Bool) (env : Env) (logic : s.logic = .stopped) (scan : (scanned s).scan = []) :
    ∃ t, exec (.restart light env) s = .next t ∧ Ends (started (startingUp light s)) t := by
  refine ⟨_, exec_restart_done logic scan, settle_core env _, settle_blocks env ?_⟩
  obtain ⟨p, j, d, frame⟩ := started_frame (startingUp light s)
  rw [frame]
  rfl

/-- What the timebase decides is where the station stands at the end of start-up. -/
theorem restart_leads (light : Bool) (env : Env) (logic : s.logic = .stopped) (scan : (scanned s).scan = [])
    (commissioned : s.cmr.commissioned = true) : ∃ t, exec (.restart light env) s = .next t ∧ t.logic = .running ∧
      t.retValid = true ∧ t.ret = (scanDecision (startingUp light s)).ret ∧
      t.tmb = ⟨startUpStall (scanDecision (startingUp light s)) s, scanCause (startingUp light s)⟩ ∧
      t.eve.station = (scanDecision (startingUp light s)).station ∧ t.store = s.store ∧
      t.cmr = { s.cmr with program := .none } ∧ t.rqs.checkpoints = (foundFacts s).checkpoint ∧
      t.eve.work.head? = some (.restoration ⟨(scanDecision (startingUp light s)).station, scanCause (startingUp light s),
        (scanDecision (startingUp light s)).finding⟩ (foundFacts s)) := by
  obtain ⟨t, next, core, blocks⟩ := restart_ends light env logic scan
  obtain ⟨p, j, d, frame⟩ := started_frame (startingUp light s)
  rw [frame] at core blocks
  obtain ⟨n, work⟩ := core.work
  have first : (reported (startingUp light s)).eve.work = [.restoration
      ⟨(scanDecision (startingUp light s)).station, scanCause (startingUp light s),
        (scanDecision (startingUp light s)).finding⟩ (foundFacts s)] := (restoredEve_work ..).1
  refine ⟨t, next, core.logic, core.retValid, blocks.ret, blocks.tmb, ?_, core.store, core.cmr, ?_, ?_⟩
  · exact blocks.station.trans (reported_station _)
  · exact core.checkpoints.trans (if_pos commissioned)
  · rw [work]
    show (List.head? ((reported (startingUp light s)).eve.work ++ _)) = _
    rw [first]
    rfl

end

/-! ### Where each decision leads (R25 to R29) -/

section
variable {light : Bool} {s : State}

theorem startUpStall_lostActive (f : Facts) (count : Nat) (activation : Bool) :
    startUpStall (decideLostActive f count activation) s =
      if Config.maxEpoch ≤ f.nextUncovered then none else some (8 * s.cmr.epochLength) := by
  unfold startUpStall decideLostActive
  by_cases last : Config.maxEpoch ≤ f.nextUncovered <;> simp [last, activeStall]

theorem decideLost_stored {c : Cmr} {f : Facts} (count : Nat) (unconcluded : c.concluded = false)
    (stored : f.entryPresent = true) : decideLost c f count = decideLostActive f count false := by
  simp [decideLost, unconcluded, stored]

theorem decideLost_activates {c : Cmr} {f : Facts} (count : Nat) (unconcluded : c.concluded = false)
    (unstored : f.entryPresent = false) (delay : c.startDelay = 0) :
    decideLost c f count = decideLostActive f count true := by
  simp [decideLost, unconcluded, unstored, delay]

theorem decideLost_waits {c : Cmr} {f : Facts} (count : Nat) (unconcluded : c.concluded = false)
    (unstored : f.entryPresent = false) (delay : 0 < c.startDelay) : decideLost c f count =
      ⟨{ Retention.initial with
          schedule := .listening, countdown := .counting c.startDelay 0, restarts := count }, .dormant, false, .none⟩ := by
  simp [decideLost, unconcluded, unstored, delay.ne']

theorem decideLost_concluded {c : Cmr} {f : Facts} (count : Nat) (concluded : c.concluded = true) : decideLost c f count =
    ⟨{ Retention.initial with schedule := .stopped, countdown := .halted, restarts := count },
      .concluded, false, .none⟩ := by
  simp [decideLost, concluded]

theorem decideKept_waits {c : Cmr} {r : Retention} {f : Facts} {m p : Nat} (count : Nat)
    (commissioned : c.commissioned = true) (unconcluded : c.concluded = false) (counting : r.countdown = .counting m p) :
    decideKept c r f count = ⟨{ r with restarts := count, cause := .none }, .dormant, false, .none⟩ := by
  simp [decideKept, commissioned, unconcluded, counting, Countdown.isExpired]

theorem decideKept_concluded {c : Cmr} {r : Retention} {f : Facts} (count : Nat)
    (commissioned : c.commissioned = true) (concluded : c.concluded = true) : decideKept c r f count =
      ⟨{ r with restarts := count, cause := .none, expiredStopped := false }, .concluded, false, .none⟩ := by
  simp [decideKept, commissioned, concluded]

/-- The trip goes on, or begins where its start delay expired with the logic stopped. -/
theorem decideKept_active {c : Cmr} {r : Retention} {f : Facts} (count : Nat) (commissioned : c.commissioned = true)
    (unconcluded : c.concluded = false) (expired : r.countdown = .expired) : decideKept c r f count =
      ⟨if r.expiredStopped = true then
          { r with restarts := count, cause := .none, firstEpoch := r.epoch, expiredStopped := false }
        else { r with restarts := count, cause := .none }, .active, r.expiredStopped, keptFinding r f⟩ := by
  simp [decideKept, commissioned, unconcluded, expired, Countdown.isExpired, keptFinding]

theorem ofCount_missed (first last : Nat) : Finding.ofCount (last + 1 - first) =
    if last < first then .none else .count (last + 1 - first) := by
  unfold Finding.ofCount
  by_cases none : last < first
  · rw [if_pos none, if_pos (by omega)]
  · rw [if_neg none, if_neg (by omega)]

theorem keptFinding_stopped {r : Retention} (f : Facts) (stopped : r.schedule = .stopped) : keptFinding r f =
    if Config.maxEpoch < f.nextUncovered then .none else .count (Config.maxEpoch + 1 - f.nextUncovered) := by
  rw [keptFinding, if_pos stopped, ofCount_missed]

theorem keptFinding_running {r : Retention} {f : Facts} (running : r.schedule = .running)
    (missed : f.nextUncovered ≤ r.epoch) : keptFinding r f =
      if r.epoch = f.nextUncovered then .none else .count (r.epoch - f.nextUncovered) := by
  rw [keptFinding, if_neg (by simp [running]), Finding.ofCount]
  by_cases same : r.epoch = f.nextUncovered
  · rw [if_pos same, if_pos (by omega)]
  · rw [if_neg same, if_neg (by omega)]

/-- A kept start of a commissioned part. -/
theorem scanKind_kept (valid : s.retValid = true) (good : consistent s.cmr s.ret (foundFacts s) = true) :
    scanKind (startingUp light s) = .kept := by
  have same : consistent s.cmr (noted s) (foundFacts s) = consistent s.cmr s.ret (foundFacts s) := by
    rw [noted, if_pos valid]
    rfl
  rw [scanKind_startingUp, valid]
  exact restartKind_kept (same.trans good)

theorem scanKind_lost (commissioned : s.cmr.commissioned = true)
    (bad : s.retValid = false ∨ consistent s.cmr s.ret (foundFacts s) = false) :
    scanKind (startingUp light s) = .lost := by
  rw [scanKind_startingUp]
  refine restartKind_lost commissioned ?_
  by_cases valid : s.retValid = true
  · refine .inr ?_
    rw [noted, if_pos valid]
    exact bad.resolve_left (by simp [valid])
  · exact .inl (by simpa using valid)

end

section
variable {light : Bool} {s : State}

/-- A kept station whose countdown has expired goes on with its trip, or begins it. -/
theorem scanDecision_resumes (kind : scanKind (startingUp light s) = .kept) (valid : s.retValid = true)
    (commissioned : s.cmr.commissioned = true) (unconcluded : s.cmr.concluded = false)
    (expired : s.ret.countdown = .expired) : scanDecision (startingUp light s) =
      ⟨if s.ret.expiredStopped = true then
          { counted s.ret with firstEpoch := s.ret.epoch, expiredStopped := false } else counted s.ret,
        .active, s.ret.expiredStopped, keptFinding s.ret (foundFacts s)⟩ :=
  (scanDecision_kept kind valid commissioned).trans
    (decideKept_active (r := counted s.ret) _ commissioned unconcluded expired)

end

theorem restoredEve_awaits (c : Cmr) (e : Eve) (station : Station) (f : Facts) :
    (restoredEve c e station f).inputs = e.inputs ∧ (restoredEve c e station f).readingsEpoch = e.readingsEpoch := by
  cases station <;> exact ⟨rfl, rfl⟩

/-- The slots of the quarters already passed are LOST (R12). -/
theorem resumed_quarter (quarter : Nat) : Quad.resumed (quarter - 1) =
    ⟨if 1 < quarter then .lost else .pending, if 2 < quarter then .lost else .pending,
      if 3 < quarter then .lost else .pending, if 4 < quarter then .lost else .pending⟩ := by
  have passed (n : Nat) : n + 1 ≤ quarter - 1 ↔ n + 1 < quarter := by omega
  simp only [Quad.resumed, passed 0, passed 1, passed 2, passed 3, Nat.zero_add]

/-! ### What the end of start-up takes up (R109, R115, R121, R126) -/

theorem quiet_idle {s : State} (service : s.rqs.service = none) (want : s.jst.wantOpen = none) (queue : s.jst.queue = [])
    (job : s.jst.job = .initial) : quiet s = true := by
  simp [quiet, checkpointRests, service, want, queue, serviceRests, jobRests, job, Job.initial]

theorem fillStore_frame (s : State) : ∃ status, fillStore s =
    s.setJst { s.jst with status := status, condition := .journalFull, wantOpen := none } := by
  unfold fillStore
  cases openSeg s with
  | none => exact ⟨s.jst.status, rfl⟩
  | some i => exact ⟨s.jst.status.set i .full, rfl⟩

section
variable {env : Env} {s : State} (hr : running s = true) (service : s.rqs.service = none) (free : s.jst.access = .none)
  (job : s.jst.job = .initial) (thawed : s.jst.frozen = false)
  (queue : s.jst.queue = [] ∨ s.jst.queue = [.leg ⟨0, 0, []⟩])
include hr service free job thawed queue

/-- With an OPEN segment the LEG entry that may wait is programmed. -/
theorem settle_opened {i : Nat} (want : s.jst.wantOpen = none) (opened : openSeg s = some i)
    (room : (segAt s i).fill < 127) :
    (settle env s).jst.status = s.jst.status ∧ (settle env s).jst.frozen = false := by
  obtain empty | leg := queue
  · rw [settle_quiet env hr (quiet_idle service want empty job)]
    exact ⟨rfl, thawed⟩
  · rw [settle_programs hr free want service leg opened ((fits_iff _ _).mpr room)]
    exact ⟨rfl, thawed⟩

/-- Without one it is allocated; where none can be, the store is JOURNAL-FULL. -/
theorem settle_unopened (want : s.jst.wantOpen = some .startUp) :
    ((∃ i f, (settle env s).jst.access = .alloc .startUp i f) ∨ (settle env s).jst.condition = .journalFull) ∧
      (settle env s).jst.frozen = false := by
  cases plan : planOpen s with
  | some target =>
    rw [settle_opens env hr service want free plan]
    exact ⟨.inl ⟨_, _, rfl⟩, thawed⟩
  | none =>
    obtain ⟨status, filled⟩ := fillStore_frame (s.setJst { s.jst with wantOpen := none })
    have noRun : ∀ r, Entry.run r ∉ (fillStore (s.setJst { s.jst with wantOpen := none })).jst.queue := by
      intro r
      rw [filled]
      show Entry.run r ∉ s.jst.queue
      obtain empty | leg := queue
      · simp [empty]
      · simp [leg]
    obtain ⟨p, refused⟩ := refuseQueue_unserved (s := fillStore (s.setJst { s.jst with wantOpen := none }))
      (by rw [filled]; exact service) noRun
    have opens : openStage s = refuseQueue (fillStore (s.setJst { s.jst with wantOpen := none })) := by
      simp [openStage, want, arrayFree, free, plan, openFailed]
    rw [refused, filled] at opens
    have rests : quiet (openStage s) = true := by
      rw [opens]
      exact quiet_idle service rfl rfl job
    have turned : turn env s = openStage s := by
      rw [turn, checkpointStage_unserved service]
      rw [readStage_quiet true rests, ite_self, headStage_quiet rests, readStage_quiet false rests, markStage_quiet rests,
        jobStage_quiet rests]
    have ends : settle env s = kick env (openStage s) := by
      rw [settle, if_pos hr, turned, turn_quiet env rests]
    rw [ends, opens]
    exact ⟨.inr rfl, thawed⟩

end

/-! ### The blocks of a start into ACTIVE (R12, R48, R69, R82, R171) -/

section
variable {light : Bool} {s : State}

theorem restoreLeg_peers (activation : Bool) (f : Facts) {s : State} (empty : s.ptb.peers = []) :
    (restoreLeg activation f s).ptb.peers = [] := by
  unfold restoreLeg
  split
  · exact empty
  · exact empty
  · split
    · rw [activatePeers, offer_setJst]
      show List.map _ s.ptb.peers = []
      rw [empty]
      rfl
    · split
      · exact empty
      · rw [offer_setJst]
        exact empty
  · split <;> exact empty

theorem started_peers (light : Bool) (s : State) : (started (startingUp light s)).ptb.peers = [] := by
  rw [started, openAtStart_frame]
  refine restoreLeg_peers _ _ ?_
  rw [(settleOpen_frames _ _).1]
  rfl

theorem started_dmn_eq (s : State) : (started s).dmn =
    if (scanDecision s).station = .active ∧ s.dmn.latch = true then
      { s.dmn with episode := some (.begin .own (scanDecision s).ret.epoch) } else s.dmn := by
  obtain ⟨p, j, leg⟩ := restoreLeg_frame (scanDecision s).activation (scanFacts s)
    (settleOpen (scanDecision s).station (reported s))
  have before : (restoreLeg (scanDecision s).activation (scanFacts s)
      (settleOpen (scanDecision s).station (reported s))).dmn = s.dmn := by
    rw [leg, (settleOpen_frames _ _).1]
    rfl
  rw [started, openAtStart_frame]
  simp only [State.setDmn_dmn, before]

theorem started_dmn (active : (scanDecision (startingUp light s)).station = .active) :
    (started (startingUp light s)).dmn = { Dmn.initial light with
      episode := if light = true then some (.begin .own (scanDecision (startingUp light s)).ret.epoch) else none } := by
  have latch : (startingUp light s).dmn = .initial light := rfl
  rw [started_dmn_eq, latch]
  cases light with
  | true => exact if_pos ⟨active, rfl⟩
  | false => exact if_neg (by simp [Dmn.initial])

end

/-! ### The leg and the OPEN segment (R69, R126) -/

theorem started_store (s : State) : (started s).ptb = (restoreLeg (scanDecision s).activation (scanFacts s)
      (settleOpen (scanDecision s).station (reported s))).ptb ∧
    (started s).jst = (restoreLeg (scanDecision s).activation (scanFacts s)
      (settleOpen (scanDecision s).station (reported s))).jst := by
  rw [started, openAtStart_frame]
  exact ⟨rfl, rfl⟩

section
variable {activation : Bool} {f : Facts} {s : State}

theorem restoreLeg_found {e : LegEntry}
    (holds : s.eve.station = .concluded ∨ s.eve.station = .active ∧ activation = false) (last : f.lastLeg = some e) :
    restoreLeg activation f s = s.setPtb { s.ptb with leg := some e.leg, founders := e.founders } := by
  obtain concluded | ⟨active, goesOn⟩ := holds
  · simp only [restoreLeg, concluded, last]
  · simp only [restoreLeg, active, goesOn, last, Bool.false_eq_true, if_false]

/-- A trip with no LEG entry begins leg 0, and offers its entry. -/
theorem restoreLeg_begins (active : s.eve.station = .active) (begins : activation = true ∨ f.lastLeg = none)
    (initial : s.ptb = .initial) : (restoreLeg activation f s).ptb.leg = some 0 ∧
      (restoreLeg activation f s).ptb.founders = [] ∧
      (restoreLeg activation f s).jst = (offer (.leg ⟨0, 0, []⟩) s).1.jst := by
  have congr (p : Ptb) : (offer (.leg ⟨0, 0, []⟩) (s.setPtb p)).1.jst = (offer (.leg ⟨0, 0, []⟩) s).1.jst :=
    offer_jst_congr _ rfl
  by_cases activates : activation = true
  · have same : restoreLeg activation f s = activatePeers s := by
      simp only [restoreLeg, active, activates, if_true]
    have peers : s.ptb.peers = [] := by rw [initial]; rfl
    rw [same, activatePeers, peers]
    refine ⟨?_, ?_, congr _⟩ <;> rw [offer_setJst] <;> rfl
  · have same : restoreLeg activation f s = (offer (.leg ⟨0, 0, []⟩) (s.setPtb { s.ptb with leg := some 0 })).1 := by
      simp only [restoreLeg, active, activates, begins.resolve_left activates, Bool.false_eq_true, if_false]
    rw [same]
    refine ⟨?_, ?_, congr _⟩ <;> rw [offer_setJst]
    · rfl
    · show s.ptb.founders = []
      rw [initial]
      rfl

theorem restoreLeg_rests (rests : s.eve.station ≠ .active) : (restoreLeg activation f s).jst = s.jst := by
  cases station : s.eve.station with
  | active => exact absurd station rests
  | blank => simp only [restoreLeg, station]
  | dormant => simp only [restoreLeg, station]
  | concluded =>
    simp only [restoreLeg, station]
    cases f.lastLeg <;> rfl

theorem lastLeg_unstored {live : List Segment} (unstored : (factsOf live).entryPresent = false) :
    (factsOf live).lastLeg = none := by
  have empty : (live.flatMap fun g => entriesOf g.slots) = [] := by simpa [factsOf] using unstored
  show lastPick Entry.asLeg _ = none
  rw [empty]
  rfl

end

theorem decideLost_unstored {c : Cmr} {f : Facts} {count : Nat} (activates : (decideLost c f count).activation = true) :
    f.entryPresent = false := by
  cases stored : f.entryPresent with
  | false => rfl
  | true =>
    by_cases concluded : c.concluded = true
    · rw [decideLost_concluded count concluded] at activates
      cases activates
    · rw [decideLost_stored count (by simpa using concluded) stored] at activates
      cases activates

theorem decideKept_began {c : Cmr} {r : Retention} {f : Facts} {count : Nat}
    (activates : (decideKept c r f count).activation = true) : r.expiredStopped = true := by
  by_contra no
  unfold decideKept at activates
  dsimp only at activates
  split_ifs at activates <;> simp [no] at activates

/-- Only a start whose countdown ran out with the logic stopped begins a trip over a LEG entry. -/
theorem scanDecision_activates {light : Bool} {s : State} (activates : (scanDecision (startingUp light s)).activation = true) :
    (foundFacts s).lastLeg = none ∨ s.retValid = true ∧ s.ret.expiredStopped = true := by
  by_cases commissioned : s.cmr.commissioned = true
  · cases kind : scanKind (startingUp light s) with
    | firstPower =>
      rw [scanDecision, kind] at activates
      cases activates
    | lost =>
      rw [scanDecision_lost kind] at activates
      exact .inl (lastLeg_unstored (decideLost_unstored activates))
    | kept =>
      have valid : s.retValid = true := by
        by_contra no
        rw [scanKind_startingUp, Bool.eq_false_iff.mpr no, restartKind] at kind
        simp [commissioned] at kind
      rw [scanDecision_kept kind valid commissioned] at activates
      exact .inr ⟨valid, decideKept_began (r := counted s.ret) activates⟩
  · rw [scanDecision_blank (by simpa using commissioned)] at activates
    cases activates

/-! ### The OPEN segment of a start (R126) -/

theorem openableSeg_spec {s : State} {i : Nat} (openable : openableSeg s = some i) :
    i < Config.segments ∧ (statusAt s i).live = true ∧ (segAt s i).fill < 127 := by
  unfold openableSeg at openable
  dsimp only at openable
  split at openable
  · rename_i j rest sorted
    split at openable
    · rename_i room
      cases openable
      have found := (sortBy_perm _ _).mem_iff.mp (sorted ▸ List.mem_cons_self : i ∈ sortBy _ _)
      have live := (sortBy_perm _ _).mem_iff.mp (List.mem_filter.mp found).1
      obtain ⟨inRange, live⟩ := List.mem_filter.mp live
      exact ⟨List.mem_range.mp inRange, live, room⟩
    · cases openable
  · cases openable

theorem statusAt_inside {s : State} {i : Nat} (h : statusAt s i ≠ .outOfService) : i < s.jst.status.length := by
  by_contra outside
  exact h (by simp [statusAt, List.getD_eq_getElem?_getD, List.getElem?_eq_none (not_lt.mp outside)])

/-- With no other OPEN segment, the one that is made OPEN is found. -/
theorem openSeg_put {s t : State} {i : Nat} (status : t.jst.status = (putStatus i .opened s).jst.status)
    (alone : ∀ j < Config.segments, statusAt s j ≠ .opened) (inRange : i < Config.segments) (inside : i < s.jst.status.length) :
    openSeg t = some i := by
  have shows (j : Nat) : statusAt t j = if i = j ∧ j < s.jst.status.length then .opened else statusAt s j := by
    rw [← statusAt_putStatus, statusAt, status, statusAt]
  have opened : statusAt t i = .opened := by rw [shows, if_pos ⟨rfl, inside⟩]
  cases found : openSeg t with
  | none => exact absurd opened (openSeg_none found inRange)
  | some j =>
    obtain ⟨inRangeJ, openedJ⟩ := openSeg_some found
    rw [shows] at openedJ
    split at openedJ
    · rename_i same
      rw [same.1]
    · exact absurd openedJ (alone j inRangeJ)

theorem scanned_alone {s t : State} (scan : t.jst = scanned s) (j : Nat) : statusAt t j ≠ .opened := by
  intro opened
  simp only [statusAt, scan, scanned, List.getD_eq_getElem?_getD, List.getElem?_map] at opened
  cases inside : s.store[j]? with
  | none => simp [inside] at opened
  | some g =>
    simp only [inside, Option.map_some, Option.getD_some] at opened
    exact scanVerdict_ne_opened _ _ _ _ opened

section
variable {light : Bool} {s : State}

/-- The store's state at the end of a start into ACTIVE: the scan's, with the OPEN segment found or asked for, and the
LEG entry of a new trip. -/
theorem started_active_jst (active : (scanDecision (startingUp light s)).station = .active) :
    ∃ q, (q = [] ∨ q = [.leg ⟨0, 0, []⟩]) ∧ (started (startingUp light s)).jst =
      { (settleOpen .active (reported (startingUp light s))).jst with queue := q } := by
  have station : (settleOpen .active (reported (startingUp light s))).eve.station = .active := by
    rw [(settleOpen_frames _ _).1]
    exact (reported_station _).trans active
  have initial : (settleOpen .active (reported (startingUp light s))).ptb = .initial := by
    rw [(settleOpen_frames _ _).1]
    rfl
  have queue : (settleOpen .active (reported (startingUp light s))).jst.queue = [] := (settleOpen_frames _ _).2
  have ready : (settleOpen .active (reported (startingUp light s))).jst.condition = .normal ∧
      (settleOpen .active (reported (startingUp light s))).jst.frozen = false ∧
      (settleOpen .active (reported (startingUp light s))).jst.access = .none := by
    rw [settleOpen]
    cases openableSeg (reported (startingUp light s)) <;> exact ⟨rfl, rfl, rfl⟩
  obtain ⟨normal, thawed, free⟩ := ready
  rw [(started_store _).2, active]
  generalize settleOpen .active (reported (startingUp light s)) = x at station initial queue normal thawed free
  by_cases begins : (scanDecision (startingUp light s)).activation = true ∨
      (scanFacts (startingUp light s)).lastLeg = none
  · refine ⟨_, .inr rfl, ?_⟩
    rw [(restoreLeg_begins station begins initial).2.2, offer_accepted normal thawed (by simp [queue]),
      suspend_other (s := State.setJst _ _) (by simp [free]) (by simp [free]), queue]
    rfl
  · push Not at begins
    obtain ⟨goesOn, found⟩ := begins
    obtain ⟨e, last⟩ := Option.ne_none_iff_exists'.mp found
    refine ⟨_, .inl rfl, ?_⟩
    rw [restoreLeg_found (.inr ⟨station, by simpa using goesOn⟩) last, ← queue]
    rfl

/-- What a start into ACTIVE leaves in the store: its OPEN segment, the allocation of one, or JOURNAL-FULL. -/
theorem started_opens (env : Env) (active : (scanDecision (startingUp light s)).station = .active) :
    (∀ i, openableSeg { s with jst := scanned s } = some i →
      statusAt (settle env (started (startingUp light s))) i = .opened) ∧
    (openableSeg { s with jst := scanned s } = none →
      (∃ i f, (settle env (started (startingUp light s))).jst.access = .alloc .startUp i f) ∨
        (settle env (started (startingUp light s))).jst.condition = .journalFull) ∧
    (settle env (started (startingUp light s))).jst.frozen = false := by
  obtain ⟨p, j, d, frame⟩ := started_frame (startingUp light s)
  obtain ⟨q, queued, jst⟩ := started_active_jst active
  have hr : running (started (startingUp light s)) = true := by rw [frame]; rfl
  have service : (started (startingUp light s)).rqs.service = none := by rw [frame]; rfl
  have store : (started (startingUp light s)).store = s.store := by rw [frame]; rfl
  have opens : settleOpen .active (reported (startingUp light s)) =
      match openableSeg { s with jst := scanned s } with
      | some i => putStatus i .opened (reported (startingUp light s))
      | none => (reported (startingUp light s)).setJst { (reported (startingUp light s)).jst with wantOpen := some .startUp } := by
    rw [settleOpen] <;> rfl
  cases openable : openableSeg { s with jst := scanned s } with
  | some i =>
    obtain ⟨inRange, live, room⟩ := openableSeg_spec openable
    have inside : i < (scanned s).status.length := statusAt_inside (s := { s with jst := scanned s })
      fun out => absurd live (by rw [out]; decide)
    rw [opens, openable] at jst
    have status : (started (startingUp light s)).jst.status =
        (putStatus i .opened (reported (startingUp light s))).jst.status := by
      have same := congrArg Jst.status jst
      exact same
    have found : openSeg (started (startingUp light s)) = some i :=
      openSeg_put (s := reported (startingUp light s)) status (fun k _ => scanned_alone (s := s) rfl k) inRange inside
    have fill : (segAt (started (startingUp light s)) i).fill < 127 := by
      rw [segAt, store]
      exact room
    obtain ⟨status, thawed⟩ := settle_opened (env := env) hr service (by rw [jst]; rfl) (by rw [jst]; rfl)
      (by rw [jst]; rfl) (by rw [jst]; exact queued) (by rw [jst]; rfl) found fill
    refine ⟨fun k same => ?_, fun none => (by cases none), thawed⟩
    cases same
    rw [statusAt, status]
    exact (openSeg_some found).2
  | none =>
    rw [opens, openable] at jst
    obtain ⟨left, thawed⟩ := settle_unopened (env := env) hr service (by rw [jst]; rfl) (by rw [jst]; rfl)
      (by rw [jst]; rfl) (by rw [jst]; exact queued) (by rw [jst]; rfl)
    exact ⟨fun k same => (by cases same), fun _ => left, thawed⟩

/-- A start elsewhere has nothing to take up, and freezes the store of a concluded part alone. -/
theorem started_rests (env : Env) (rests : (scanDecision (startingUp light s)).station ≠ .active) :
    (settle env (started (startingUp light s))).jst.frozen = true ↔
      (scanDecision (startingUp light s)).station = .concluded := by
  obtain ⟨p, j, d, frame⟩ := started_frame (startingUp light s)
  have jst : (started (startingUp light s)).jst =
      (settleOpen (scanDecision (startingUp light s)).station (reported (startingUp light s))).jst := by
    rw [(started_store _).2, restoreLeg_rests]
    rw [(settleOpen_frames _ _).1]
    exact fun active => rests ((reported_station _).symm.trans active)
  have quietly : quiet (started (startingUp light s)) = true := by
    cases station : (scanDecision (startingUp light s)).station with
    | active => exact absurd station rests
    | _ =>
      rw [station] at jst
      refine quiet_idle (by rw [frame]; rfl) (by rw [jst]; rfl) (by rw [jst]; rfl) (by rw [jst]; rfl)
  rw [settle_quiet env (by rw [frame]; rfl) quietly]
  show (started (startingUp light s)).jst.frozen = true ↔ _
  rw [jst]
  cases station : (scanDecision (startingUp light s)).station with
  | active => exact absurd station rests
  | blank => exact ⟨fun h => (by cases h), fun h => (by cases h)⟩
  | dormant => exact ⟨fun h => (by cases h), fun h => (by cases h)⟩
  | concluded => exact ⟨fun _ => rfl, fun _ => rfl⟩

end

/-- Settles O24: the restart kind gives the timebase's decision (`scanDecision_lost`, `scanDecision_kept`), the decision the
blocks (`restart_leads`), and the store's state at the end is the OPEN segment's (`started_opens`). -/
theorem keptRestartCountsMissedEpochs : Obligations.KeptRestartCountsMissedEpochs := by
  refine ⟨fun light env s logic valid commissioned unconcluded expired kept running scan => ?_,
    fun light env s logic commissioned scan => ?_, fun light env s t logic scan next => ?_⟩
  · intro f next cause slot quad missed
    have good : consistent s.cmr s.ret (foundFacts s) = true :=
      (consistent_iff_agrees commissioned unconcluded).mpr (.inr ⟨expired, .inl missed⟩)
    have kind := scanKind_kept (light := light) valid good
    have decided : scanDecision (startingUp light s) = ⟨counted s.ret, .active, false,
        if s.ret.epoch = next then .none else .count (s.ret.epoch - next)⟩ := by
      rw [scanDecision_resumes kind valid commissioned unconcluded expired,
        keptFinding_running (f := foundFacts s) running missed, if_neg (by simp [kept]), kept] <;> rfl
    have caused : scanCause (startingUp light s) = cause := scanCause_kept kind valid
    obtain ⟨t, answered, core, blocks⟩ := restart_ends light env logic scan
    have leads := restart_leads light env logic scan commissioned
    rw [answered] at leads
    obtain ⟨t', same, logic', valid', ret, tmb, station, store, cmr, checkpoints, work⟩ := leads
    cases same
    have peers := started_peers light s
    have dmn := started_dmn (light := light) (s := s) (by rw [decided])
    obtain ⟨p, j, d, frame⟩ := started_frame (startingUp light s)
    rw [decided, caused] at work tmb
    rw [decided] at ret station dmn
    refine ⟨t, answered, logic', ret, ?_, station, store, ?_, checkpoints, work, ?_, blocks.dmn.trans dmn,
      ?_, ?_, ?_, ?_, ?_, ?_⟩
    · rw [tmb]
      exact congrArg (Tmb.mk · cause) (if_pos running)
    · rw [cmr]
    · have passed : quartersPassed (scanDecision (startingUp light s)) = s.ret.quarter - 1 := by
        rw [decided]
        exact if_pos ⟨rfl, running⟩
      rw [blocks.tch, frame]
      show (⟨_, _, _, _, _, _, _⟩ : Tch) = _
      rw [passed, resumed_quarter]
      rfl
    · rw [blocks.peers, peers]
    · rw [core.spoilt, frame]
      rfl
    · rw [core.cursor, frame]
      rfl
    · rw [blocks.schedule, frame]
      rfl
    · rw [blocks.inputs, frame]
      exact (restoredEve_awaits ..).1
    · rw [core.readingsEpoch, frame]
      refine (restoredEve_awaits ..).2.trans ?_
      rw [decided]
      rfl
  · intro f next cause starts lost active finding schedule epoch stall agrees
    have leads {d : Decision} {tmb : Tmb} (decided : scanDecision (startingUp light s) = d)
        (timed : (⟨startUpStall d s, scanCause (startingUp light s)⟩ : Tmb) = tmb) :
        starts d.ret tmb d.station d.finding := by
      have leads := restart_leads light env logic scan commissioned
      rw [decided] at leads
      subst timed
      exact leads
    have lostKind (bad : s.retValid = false ∨ ¬ agrees) (unconcluded : s.cmr.concluded = false) :
        scanKind (startingUp light s) = .lost :=
      scanKind_lost commissioned (bad.imp_right fun no => Bool.eq_false_iff.mpr fun good =>
        no ((consistent_iff_agrees commissioned unconcluded).mp good))
    have lostAs {d : Decision} (kind : scanKind (startingUp light s) = .lost) (unconcluded : s.cmr.concluded = false)
        (decided : decideLost s.cmr f (min 255 (f.gaps + 1)) = d) : scanDecision (startingUp light s) = d := by
      rw [scanDecision_lost kind, if_neg (by simp [unconcluded])]
      exact decided
    have lostActive (activation : Bool) (kind : scanKind (startingUp light s) = .lost) :
        (⟨startUpStall (decideLostActive f (min 255 (f.gaps + 1)) activation) s,
          scanCause (startingUp light s)⟩ : Tmb) = ⟨stall, .retentionLost⟩ := by
      rw [startUpStall_lostActive, scanCause_lost kind] <;> rfl
    have keptCause (kind : scanKind (startingUp light s) = .kept) (valid : s.retValid = true) (stall : Option Nat) :
        (⟨stall, scanCause (startingUp light s)⟩ : Tmb) = ⟨stall, cause⟩ := by
      rw [scanCause_kept kind valid] <;> rfl
    refine ⟨fun bad unconcluded stored => ?_, fun bad unconcluded unstored delay => ?_,
      fun bad unconcluded unstored delay => ?_, fun bad concluded => ?_,
      fun m p valid unconcluded counting unstored => ?_, fun valid unconcluded expired kept stopped missed => ?_,
      fun valid concluded stopped => ?_, fun valid unconcluded expired began running missed => ?_⟩
    · have kind := lostKind bad unconcluded
      exact leads (lostAs kind unconcluded (decideLost_stored _ unconcluded stored)) (lostActive false kind)
    · have kind := lostKind bad unconcluded
      exact leads (lostAs kind unconcluded (decideLost_activates _ unconcluded unstored delay)) (lostActive true kind)
    · have kind := lostKind bad unconcluded
      refine leads (lostAs kind unconcluded (decideLost_waits _ unconcluded unstored delay)) ?_
      rw [scanCause_lost kind]
      rfl
    · have kind : scanKind (startingUp light s) = .lost := scanKind_lost commissioned (bad.imp_right fun going => by
        rw [consistent_concluded commissioned concluded]
        simpa using going)
      have decided := scanDecision_lost kind
      rw [if_pos concluded, decideLost_concluded _ concluded] at decided
      exact leads decided (by rw [scanCause_lost kind] <;> rfl)
    · have kind := scanKind_kept (light := light) valid
        ((consistent_iff_agrees commissioned unconcluded).mpr (.inl ⟨⟨m, p, counting⟩, unstored⟩))
      refine leads ((scanDecision_kept kind valid commissioned).trans
        (decideKept_waits (r := counted s.ret) _ commissioned unconcluded counting)) ((keptCause kind valid _).trans ?_)
      exact congrArg (Tmb.mk · cause) (if_pos (by rw [show (counted s.ret).countdown = _ from counting]; rfl))
    · have kind := scanKind_kept (light := light) valid ((consistent_iff_agrees commissioned unconcluded).mpr
        (.inr ⟨expired, missed.imp_right fun last => ⟨stopped, last⟩⟩))
      have decided := scanDecision_resumes kind valid commissioned unconcluded expired
      rw [if_neg (by simp [kept]), keptFinding_stopped (foundFacts s) stopped] at decided
      refine leads decided ((keptCause kind valid _).trans ?_)
      exact congrArg (Tmb.mk · cause) (if_neg (by rw [show (counted s.ret).schedule = _ from stopped]; decide))
    · have kind := scanKind_kept (light := light) valid
        ((consistent_concluded commissioned concluded).trans (by simp [stopped]))
      exact leads ((scanDecision_kept kind valid commissioned).trans
        (decideKept_concluded (r := counted s.ret) _ commissioned concluded)) (keptCause kind valid _)
    · have kind := scanKind_kept (light := light) valid
        ((consistent_iff_agrees commissioned unconcluded).mpr (.inr ⟨expired, .inl missed⟩))
      have decided := scanDecision_resumes kind valid commissioned unconcluded expired
      rw [if_pos began, keptFinding_running (f := foundFacts s) running missed] at decided
      refine leads decided ((keptCause kind valid _).trans ?_)
      exact congrArg (Tmb.mk · cause) (if_pos (show (counted s.ret).schedule = _ from running))
  · obtain ⟨t', answered, core, blocks⟩ := restart_ends light env logic scan
    have ends : t = settle env (started (startingUp light s)) := by
      rw [exec_restart_done logic scan] at next
      cases next
      rfl
    rw [next] at answered
    cases answered
    intro f
    obtain ⟨p, j, d, frame⟩ := started_frame (startingUp light s)
    have station : t.eve.station = (scanDecision (startingUp light s)).station := by
      rw [blocks.station, frame]
      exact reported_station _
    have eve : (started (startingUp light s)).eve = restoredEve (startingUp light s).cmr
        { Eve.initial (scanDecision (startingUp light s)).station (scanDecision (startingUp light s)).ret.epoch with
          work := [.restoration ⟨(scanDecision (startingUp light s)).station, scanCause (startingUp light s),
            (scanDecision (startingUp light s)).finding⟩ f] } (scanDecision (startingUp light s)).station f := by
      rw [frame]
      rfl
    have record : t.cmr.highestMark = (startingUp light s).cmr.highestMark := by
      rw [core.cmr, frame]
      rfl
    have settled : (settleOpen (scanDecision (startingUp light s)).station (reported (startingUp light s))).eve.station =
        (scanDecision (startingUp light s)).station := by
      rw [(settleOpen_frames _ _).1]
      exact reported_station _
    have initial : (settleOpen (scanDecision (startingUp light s)).station (reported (startingUp light s))).ptb =
        .initial := by
      rw [(settleOpen_frames _ _).1]
      rfl
    refine ⟨fun e holds last => ?_, fun active last => ?_, fun i active openable => ?_, fun active openable => ?_, ?_⟩
    · rw [blocks.leg, blocks.founders, (started_store _).1, restoreLeg_found (f := scanFacts (startingUp light s)) ?_ last]
      · exact ⟨rfl, rfl⟩
      · rw [settled, ← station]
        refine holds.imp_right fun ⟨active, goesOn⟩ => ⟨active, ?_⟩
        by_contra activates
        obtain absent | ⟨valid, stopped⟩ := scanDecision_activates (by simpa using activates)
        · exact absurd (absent.symm.trans last) (by simp)
        · obtain invalid | going := goesOn
          · simp [valid] at invalid
          · simp [stopped] at going
    · rw [blocks.leg, blocks.founders, (started_store _).1]
      obtain ⟨leg, founders, -⟩ := restoreLeg_begins (activation := (scanDecision (startingUp light s)).activation)
        (f := scanFacts (startingUp light s))
        (settled.trans (station.symm.trans active)) (.inr last) initial
      exact ⟨leg, founders⟩
    · rw [ends]
      exact (started_opens env (station.symm.trans active)).1 i openable
    · rw [ends]
      exact (started_opens env (station.symm.trans active)).2.1 openable
    · intro account standing
      refine ⟨fun active => ?_, fun concluded => ?_, fun other => ?_⟩
      · rw [← station, active] at eve
        rw [committedVerdict, record, core.exposure, core.drawn, core.run, core.verdict, core.suspect, core.discord,
          core.concord, blocks.committedExposure, blocks.committedDrawn, blocks.lastVerdict, eve]
        exact ⟨rfl, rfl, rfl, rfl, rfl, rfl, rfl, rfl, rfl, rfl⟩
      · have frozen : t.jst.frozen = true := by
          rw [ends]
          exact (started_rests env (by rw [← station, concluded]; decide)).mpr (station.symm.trans concluded)
        rw [← station, concluded] at eve
        rw [committedVerdict, record, core.exposure, core.drawn, core.run, core.verdict,
          blocks.committedExposure, blocks.committedDrawn, blocks.lastVerdict, eve]
        exact ⟨frozen, rfl, rfl, rfl, rfl, rfl, rfl, rfl⟩
      · by_cases active : t.eve.station = .active
        · rw [ends]
          exact (started_opens env (station.symm.trans active)).2.2
        · rw [ends]
          refine Bool.eq_false_iff.mpr fun frozen => other (station.trans ?_)
          exact (started_rests env (fun yes => active (station.trans yes))).mp frozen

end Sys2Proof.Machine

/-! A checkpoint is taken (R120, R143, R149 to R152): what it does to the job, the store condition that is left, and the
first protection mark. -/

namespace Sys2Proof.Machine

/-! ### The store condition when work has ended (R120) -/

section
variable {s : State}

/-- With no OPEN segment asked for, the end of work moves the condition, and the status of the OPEN segment. -/
theorem settleShort_eq (want : s.jst.wantOpen = none) : settleShort s =
    if s.jst.condition ≠ .short then s
    else if (planOpen s).isSome = true then { s with jst := { s.jst with condition := .normal } }
    else if canFree s = true then s
    else { s with jst := { s.jst with
      condition := .journalFull
      status := match openSeg s with
        | some j => s.jst.status.set j .full
        | none => s.jst.status } } := by
  unfold settleShort
  by_cases short : s.jst.condition = .short
  · have full : fillStore s = { s with jst := { s.jst with
        condition := .journalFull
        status := match openSeg s with
          | some j => s.jst.status.set j .full
          | none => s.jst.status } } := by
      obtain ⟨_, _, _, _, _, _, _, _, _, _, ⟨_, _, _, _, _, _, _, _, _, _⟩, _, _, _, _⟩ := s
      cases want
      unfold fillStore
      cases openSeg _ <;> rfl
    refine (if_pos short).trans (Eq.trans ?_ (if_neg (not_not_intro short)).symm)
    rw [full]
    rfl
  · rw [if_neg short, if_pos short]

theorem settleShort_setAccess (a : Access) (s : State) : settleShort (setAccess a s) = setAccess a (settleShort s) := by
  have full : fillStore (setAccess a s) = setAccess a (fillStore s) := by
    unfold fillStore
    rw [show openSeg (setAccess a s) = openSeg s from rfl]
    cases openSeg s <;> rfl
  unfold settleShort
  rw [full, show (setAccess a s).jst.condition = s.jst.condition from rfl, show planOpen (setAccess a s) = planOpen s from rfl,
    show canFree (setAccess a s) = canFree s from rfl]
  split_ifs <;> rfl

theorem live_putStatus {i : Nat} {x : SegStatus} (same : x.live = (statusAt s i).live) (j : Nat) :
    (statusAt (putStatus i x s) j).live = (statusAt s j).live := by
  rw [statusAt_putStatus]
  split
  · rename_i here
    rw [same, here.1]
  · rfl

theorem fillStore_live (s : State) (j : Nat) : (statusAt (fillStore s) j).live = (statusAt s j).live := by
  unfold fillStore
  cases opened : openSeg s with
  | none => rfl
  | some i =>
    have was := (openSeg_some opened).2
    exact live_putStatus (by rw [was]; rfl) j

theorem settleShort_live (s : State) (j : Nat) : (statusAt (settleShort s) j).live = (statusAt s j).live := by
  unfold settleShort
  split_ifs
  · rfl
  · rfl
  · exact fillStore_live s j
  · rfl

theorem liveMap_congr {t : State} (store : t.store = s.store) (live : ∀ j, (statusAt t j).live = (statusAt s j).live) :
    liveMap t = liveMap s := by
  have seg (i : Nat) : segAt t i = segAt s i := by rw [segAt, store]; rfl
  unfold liveMap
  simp only [seg, live]

theorem nextProtect_congr {t : State} (store : t.store = s.store) (live : ∀ j, (statusAt t j).live = (statusAt s j).live)
    (tried : List Nat) : nextProtect t tried = nextProtect s tried := by
  have seg (i : Nat) : segAt t i = segAt s i := by rw [segAt, store]; rfl
  unfold nextProtect
  simp only [liveMap_congr store live, seg]

theorem settleShort_store (s : State) : (settleShort s).store = s.store := by
  rw [(settleShort_setJst s).1]
  rfl

end

/-! ### The marks begin (R150, R151) -/

section
variable {s : State} {reader : PartyId} {number epoch newly failed i : Nat} {tried : List Nat} {again : Bool}

theorem marksDone_of_next (next : nextProtect s tried = some i) : marksDone s tried = false := by
  simp [marksDone, next]

section
variable (service : s.rqs.service = some (.checkpoint reader number epoch (.marking tried again newly failed)))
include service

theorem readStage_marking (first : Bool) : readStage first s = s := by
  simp only [readStage, service]

theorem markStage_protects (idle : s.jst.access = .none) (next : nextProtect s tried = some i) :
    markStage s = setAccess (.protectMark i) s := by
  have isFree := (arrayFree_iff s).mpr idle
  simp only [markStage, isFree, if_true, service, next]

/-- An access in progress, or a mark still to program, leaves nothing else to take up. -/
theorem quiet_protecting (busy : s.jst.access ≠ .none) (next : nextProtect s tried = some i) : quiet s = true := by
  have taken : arrayFree s = false := by simpa [arrayFree] using busy
  simp [quiet, checkpointRests, service, marksDone_of_next next, taken]

theorem settle_marking (env : Env) (hr : running s = true) (want : s.jst.wantOpen = none) (queue : s.jst.queue = [])
    (idle : s.jst.access = .none) (next : nextProtect s tried = some i) :
    settle env s = kick env (setAccess (.protectMark i) s) := by
  have turned : turn env s = setAccess (.protectMark i) s := by
    rw [turn, checkpointStage_marking service (marksDone_of_next next), openStage_unasked want, readStage_marking service, ite_self,
      headStage_empty queue, readStage_marking service, markStage_protects service idle next]
    exact jobStage_busy fun h => by cases h
  have rests : quiet (setAccess (.protectMark i) s) = true :=
    quiet_protecting (tried := tried) (i := i) service (fun h => by cases h) next
  rw [settle, if_pos hr, turned, turn_quiet env rests]

end

/-- The marks that wait after the end of work: the store condition settles, and the first mark's program begins. -/
theorem settle_protects (env : Env)
    (service : s.rqs.service = some (.checkpoint reader number epoch (.marking tried again newly failed)))
    (hr : running s = true) (want : s.jst.wantOpen = none) (queue : s.jst.queue = []) (idle : s.jst.access = .none)
    (next : nextProtect s tried = some i) :
    settle env (settleShort s) = kick env (settleShort (setAccess (.protectMark i) s)) := by
  obtain ⟨frame, queueKept, wantKept⟩ := settleShort_setJst s
  have idleKept : (settleShort s).jst.access = .none := by
    have same := settleShort_setAccess .none s
    have still : setAccess .none s = s := by rw [← idle]; rfl
    rw [still] at same
    rw [same]
    rfl
  have nextKept : nextProtect (settleShort s) tried = some i :=
    (nextProtect_congr (settleShort_store s) (settleShort_live s) tried).trans next
  rw [settleShort_setAccess]
  refine settle_marking (reader := reader) (number := number) (epoch := epoch) (newly := newly) (failed := failed)
    (again := again) ?_ env ?_ (wantKept want) (queueKept.trans queue) idleKept nextKept
  · rw [settleShort_rqs]
    exact service
  · rw [frame]
    exact hr

/-- With a page read in progress the marks wait for it. -/
theorem settle_protects_later (env : Env)
    (service : s.rqs.service = some (.checkpoint reader number epoch (.marking tried again newly failed)))
    (hr : running s = true) (busy : s.jst.access ≠ .none) (next : nextProtect s tried = some i) :
    settle env (settleShort s) = kick env (settleShort s) := by
  have busyKept : (settleShort s).jst.access ≠ .none := by
    have same := settleShort_setAccess s.jst.access s
    rw [show setAccess s.jst.access s = s from rfl] at same
    rw [same]
    exact busy
  have serviceKept : (settleShort s).rqs.service =
      some (.checkpoint reader number epoch (.marking tried again newly failed)) := by
    rw [settleShort_rqs]
    exact service
  exact settle_quiet env (by rw [(settleShort_setJst s).1]; exact hr) (quiet_protecting serviceKept busyKept
    ((nextProtect_congr (settleShort_store s) (settleShort_live s) tried).trans next))

/-- The request service takes the marks up with none tried. -/
def marksBegun (reader : PartyId) (number epoch : Nat) (s : State) : State :=
  setService (some (.checkpoint reader number epoch (.marking [] false 0 0))) s

theorem settle_begun (env : Env) (hr : running s = true) (want : s.jst.wantOpen = none) (queue : s.jst.queue = [])
    (idle : s.jst.access = .none) (next : nextProtect s [] = some i) :
    settle env (settleShort (marksBegun reader number epoch s)) =
      kick env (settleShort (setAccess (.protectMark i) (marksBegun reader number epoch s))) :=
  settle_protects (s := marksBegun reader number epoch s) env rfl hr want queue idle next

theorem settle_begun_later (env : Env) (hr : running s = true) (busy : s.jst.access ≠ .none)
    (next : nextProtect s [] = some i) : settle env (settleShort (marksBegun reader number epoch s)) =
      kick env (settleShort (marksBegun reader number epoch s)) :=
  settle_protects_later (s := marksBegun reader number epoch s) env rfl hr busy next

end

/-! ### What a checkpoint does to the job (R143) -/

section
variable {s : State} (left : Leftover)

theorem deal_planning (access : s.jst.access = .pageRead) (phase : s.jst.job.phase = .planning) :
    dealForCheckpoint left s = endJob s.jst.job.cleanup s := by
  simp only [dealForCheckpoint, suspend, access, phase]

theorem dropSuspended_none (rests : s.jst.job.suspended = none) : dropSuspended left s = s := by
  unfold dropSuspended
  simp only [rests]
  rw [← rests] <;> rfl

theorem deal_copying {t q : Nat} (access : s.jst.access = .pageRead) (phase : s.jst.job.phase = .copy)
    (rests : s.jst.job.suspended = none) (target : s.jst.job.target = some (t, q)) :
    dealForCheckpoint left s = endJob (some t) s := by
  simp only [dealForCheckpoint, suspend, access, phase, dropSuspended_none left rests, abandonJob, Job.targetSeg, target]
  rfl

theorem deal_paging {t q : Nat} (access : s.jst.access = .pageProgram) (phase : s.jst.job.phase = .copy)
    (target : s.jst.job.target = some (t, q)) : dealForCheckpoint left s =
      (s.setStore (s.store.set t ((segAt s t).put (8 * s.jst.job.pages + 1) (leftSlots (jobPage s) left.page)))).setJst
        { s.jst with access := .none, job := { Job.initial with cleanup := some t } } := by
  simp only [dealForCheckpoint, suspend, access, State.setJst_jst, phase]
  unfold dropSuspended abandonJob endJob putPage
  simp only [State.setJst_jst, Job.targetSeg, target]
  rfl

theorem deal_erasing {x : Suspended} (step : Suspends s.jst.access x)
    (phase : s.jst.job.phase = .none ∨ s.jst.job.phase = .erase1 ∨ s.jst.job.phase = .erase2) :
    dealForCheckpoint left s =
      s.setJst { s.jst with access := .none, job := { s.jst.job with suspended := some x } } := by
  unfold dealForCheckpoint
  rw [suspend_step step]
  dsimp only [State.setJst_jst]
  obtain h | h | h := phase <;> simp only [h]

theorem deal_initial (access : s.jst.access = .none) (job : s.jst.job = .initial) : dealForCheckpoint left s = s := by
  simp only [dealForCheckpoint, suspend, access, job, Job.initial]

end

/-! ### A checkpoint that is taken (R149, R150) -/

section
variable {req : Request} {left : Leftover} {env : Env} {s : State}

theorem exec_checkpoint_taken (isFree : Machine.free req env s = true) (station : s.eve.station = .active)
    (few : s.rqs.checkpoints < 32) (notFull : s.jst.condition ≠ .journalFull) :
    exec (.checkpoint req [] left env) s = .next (settle env (takeCheckpoint req.reader left s)) := by
  obtain ⟨reached, idle⟩ : reaches req env s = true ∧ serviceBusy s = false := by simpa [Machine.free] using isFree
  rw [exec_checkpoint_empty reached, serve_allowed idle (by simp [station]), if_neg (by omega), if_neg notFull]

/-- The request service once a checkpoint has its number. -/
def numbered (reader : PartyId) (step : CheckpointStep) (s : State) : Rqs :=
  { s.rqs with
    checkpoints := s.rqs.checkpoints + 1
    service := some (.checkpoint reader (s.rqs.checkpoints + 1) s.ret.epoch step) }

theorem takeCheckpoint_waits (left : Leftover) (reader : PartyId) (header : jobHeaderInProgress s = true) :
    takeCheckpoint reader left s = s.setRqs (numbered reader .dealing s) := if_pos header

theorem takeCheckpoint_marks {d : State} (left : Leftover) (reader : PartyId) (noHeader : jobHeaderInProgress s = false)
    (deals : dealForCheckpoint left (s.setRqs { s.rqs with checkpoints := s.rqs.checkpoints + 1 }) = d) :
    takeCheckpoint reader left s = settleShort
      (marksBegun reader (s.rqs.checkpoints + 1) s.ret.epoch d) := by
  rw [← deals]
  refine if_neg ?_
  show ¬ jobHeaderInProgress s = true
  simp [noHeader]

end

/-! ### The entry is offered (R152) -/

section
variable {reader : PartyId} {number epoch newly failed : Nat} {s : State}

theorem offerCheckpoint_accepted (normal : s.jst.condition = .normal) (thawed : s.jst.frozen = false)
    (room : s.jst.queue.length < 6) (idle : suspend (s.setJst { s.jst with
      queue := s.jst.queue ++ [.checkpoint (checkpointEntry number epoch reader s)] }) =
        s.setJst { s.jst with queue := s.jst.queue ++ [.checkpoint (checkpointEntry number epoch reader s)] }) :
    offerCheckpoint reader number epoch newly failed s =
      setService (some (.checkpoint reader number epoch
        (.entry (committedVerdict s) s.eve.committedExposure newly failed)))
        (s.setJst { s.jst with queue := s.jst.queue ++ [.checkpoint (checkpointEntry number epoch reader s)] }) := by
  have offered := offer_accepted (e := .checkpoint (checkpointEntry number epoch reader s)) normal thawed room
  rw [idle] at offered
  rw [offerCheckpoint, offered]
  rfl

theorem offerCheckpoint_refused (full : s.jst.condition ≠ .normal ∨ s.jst.frozen = true ∨ 6 ≤ s.jst.queue.length) :
    offerCheckpoint reader number epoch newly failed s =
      replied reader (.checkpoint number epoch (committedVerdict s) s.eve.committedExposure false newly failed)
        (setService none s) := by
  rw [offerCheckpoint, offer_refused full]
  exact sendReply_eq ..

end

/-- Settles O51: each case gives what is left of the job (`dealForCheckpoint`), and the marks begin over it (`settle_begun`). -/
theorem checkpointSteps : Obligations.CheckpointSteps := by
  unfold Obligations.CheckpointSteps
  intro settled
  have settles {t : State} (want : t.jst.wantOpen = none) : settleShort t = settled t := settleShort_eq want
  refine ⟨fun req left env i s isFree rests idle station few notFull job next => ?_,
    fun reader number epoch newly failed s => ?_, fun req left env i s isFree want queue station few notFull => ?_⟩
  · have hr := running_of_free isFree
    obtain ⟨want, queue⟩ := quiet_free rests idle
    rw [exec_checkpoint_taken isFree station few notFull,
      takeCheckpoint_marks left _ (by simp [jobHeaderInProgress, idle]) (deal_initial left idle job)]
    refine congrArg Host.Outcome.next ((settle_begun (i := i) env ?_ ?_ ?_ ?_ ?_).trans ?_)
    · exact hr
    · exact want
    · exact queue
    · exact idle
    · exact next
    · exact congrArg (kick env) (Eq.trans (by rfl) (settles (by exact want)))
  · intro e
    refine ⟨fun normal thawed room idle => ?_, fun full => ?_⟩
    · exact offerCheckpoint_accepted normal thawed room (suspend_free idle)
    · exact offerCheckpoint_refused full
  · intro number taken marking erasing
    have hr := running_of_free isFree
    have takes : exec (.checkpoint req [] left env) s = .next (settle env (takeCheckpoint req.reader left s)) :=
      exec_checkpoint_taken isFree station few notFull
    refine ⟨fun header => ?_, fun access phase next => ?_, fun t q access phase rests target next => ?_,
      fun t q access phase target => ?_, fun k access phase next => ?_, fun k access phase next => ?_⟩
    · have waits : jobHeaderInProgress s = true := by
        obtain ⟨k, f, access⟩ | access := header <;> simp [jobHeaderInProgress, access]
      rw [takes, takeCheckpoint_waits left _ waits]
      refine congrArg Host.Outcome.next (settle_quiet env hr ?_)
      have taken : arrayFree s = false := by
        obtain ⟨k, f, access⟩ | access := header <;> simp [arrayFree, access]
      rw [quiet, show arrayFree (s.setRqs (numbered req.reader .dealing s)) = false from taken]
      rfl
    · rw [takes, takeCheckpoint_marks left _ (by simp [jobHeaderInProgress, access]) (deal_planning left access phase)]
      refine congrArg Host.Outcome.next ((settle_begun_later (i := i) env ?_ ?_ ?_).trans ?_)
      · exact hr
      · exact fun h => by cases access.symm.trans h
      · exact next
      · exact congrArg (kick env) (Eq.trans (by rfl) (settles (by exact want)))
    · rw [takes, takeCheckpoint_marks left _ (by simp [jobHeaderInProgress, access])
        (deal_copying left access phase rests target)]
      refine congrArg Host.Outcome.next ((settle_begun_later (i := i) env ?_ ?_ ?_).trans ?_)
      · exact hr
      · exact fun h => by cases access.symm.trans h
      · exact next
      · exact congrArg (kick env) (Eq.trans (by rfl) (settles (by exact want)))
    · intro paged next
      rw [takes, takeCheckpoint_marks left _ (by simp [jobHeaderInProgress, access])
        (deal_paging left access phase target)]
      refine congrArg Host.Outcome.next ((settle_begun (i := i) env ?_ ?_ ?_ ?_ ?_).trans ?_)
      · exact hr
      · exact want
      · exact queue
      · rfl
      · exact next
      · exact congrArg (kick env) (Eq.trans (by rfl) (settles (by exact want)))
    · rw [takes, takeCheckpoint_marks left _ (by simp [jobHeaderInProgress, access])
        (deal_erasing left (.inr (.inl ⟨k, access, rfl⟩)) (.inr phase))]
      refine congrArg Host.Outcome.next ((settle_begun (i := i) env ?_ ?_ ?_ ?_ ?_).trans ?_)
      · exact hr
      · exact want
      · exact queue
      · rfl
      · exact next
      · exact congrArg (kick env) (Eq.trans (by rfl) (settles (by exact want)))
    · rw [takes, takeCheckpoint_marks left _ (by simp [jobHeaderInProgress, access])
        (deal_erasing left (.inr (.inr ⟨k, access, rfl⟩)) (.inl phase))]
      refine congrArg Host.Outcome.next ((settle_begun (i := i) env ?_ ?_ ?_ ?_ ?_).trans ?_)
      · exact hr
      · exact want
      · exact queue
      · rfl
      · exact next
      · exact congrArg (kick env) (Eq.trans (by rfl) (settles (by exact want)))

end Sys2Proof.Machine

/-! What an allocation leaves (R109, R111, R116, R133), and what the consolidation job takes up at the end of a command
(R134 to R139). -/

namespace Sys2Proof.Machine

/-! ### The header of an allocated segment (R106, R109) -/

/-- The store with the allocation fields of a segment as they read. -/
def withAlloc (a : AllocRead) (i : Nat) (s : State) : List Segment :=
  s.store.set i ⟨{ (segAt s i).header with alloc := a }, (segAt s i).slots⟩

section
variable {s t : State} {i k : Nat}

theorem segAt_withAlloc (a : AllocRead) (store : t.store = withAlloc a i s) (k : Nat) :
    segAt t k = if i = k ∧ i < s.store.length then ⟨{ (segAt s i).header with alloc := a }, (segAt s i).slots⟩
      else segAt s k := by
  unfold segAt
  rw [store, withAlloc]
  simp only [List.getD_eq_getElem?_getD, List.getElem?_set]
  by_cases same : i = k
  · subst same
    by_cases inside : i < s.store.length <;> simp [inside, segAt]
  · simp [same]

/-- Allocation fields leave the slots and the marks of every segment. -/
theorem slots_withAlloc (a : AllocRead) (store : t.store = withAlloc a i s) (k : Nat) :
    (segAt t k).slots = (segAt s k).slots := by
  rw [segAt_withAlloc a store]
  split
  · rename_i here
    rw [here.1]
  · rfl

theorem protection_withAlloc (a : AllocRead) (store : t.store = withAlloc a i s) (k : Nat) :
    (segAt t k).header.protection = (segAt s k).header.protection := by
  rw [segAt_withAlloc a store]
  split
  · rename_i here
    rw [here.1]
  · rfl

end

/-! ### A segment becomes the OPEN one (R111) -/

section
variable {s : State} {i : Nat}

/-- The status table once a segment is the OPEN one. -/
def openedStatus (i : Nat) (s : State) : List SegStatus :=
  (match openSeg s with
    | some j => s.jst.status.set j .full
    | none => s.jst.status).set i .opened

theorem becomeOpen_status (i : Nat) (s : State) :
    becomeOpen i s = s.setJst { s.jst with status := openedStatus i s, wantOpen := none } := by
  unfold becomeOpen openedStatus
  cases openSeg s <;> rfl

theorem closeOpen_unopened (alone : ∀ k, openSeg s = some k → ∀ q, statusAt s q = .opened → q = k) (j : Nat)
    (inRange : j < Config.segments) : statusAt (closeOpen s) j ≠ .opened := by
  unfold closeOpen
  cases opened : openSeg s with
  | none => exact openSeg_none opened inRange
  | some k =>
    intro was
    obtain rfl | other := eq_or_ne j k
    · rw [statusAt_putStatus, if_pos ⟨rfl, statusAt_inside (by rw [(openSeg_some opened).2]; decide)⟩] at was
      cases was
    · rw [statusAt_putStatus, if_neg (fun same => other same.1.symm)] at was
      exact other (alone k opened j was)

theorem openSeg_becomeOpen (alone : ∀ j < Config.segments, statusAt (closeOpen s) j ≠ .opened) (inRange : i < Config.segments) (inside : i < s.jst.status.length) {t : State}
    (status : t.jst.status = openedStatus i s) : openSeg t = some i := by
  have lengths : (closeOpen s).jst.status.length = s.jst.status.length := by
    unfold closeOpen
    cases openSeg s <;> simp [putStatus]
  refine openSeg_put (s := closeOpen s) ?_ alone inRange (lengths ▸ inside)
  rw [status]
  unfold openedStatus closeOpen
  cases openSeg s <;> rfl

end

/-! ### The trigger (R133) -/

/-- When consolidation begins (R133, R144). -/
def Triggers (s : State) : Prop :=
  s.eve.station = .active ∧ s.jst.condition ≠ .journalFull ∧ s.jst.frozen = false ∧ blankCount s ≤ 3 ∧
    s.jst.job.phase = .none ∧ s.jst.job.cleanup = none ∧ concluding s = false

theorem evaluateTrigger_begins {s : State} (holds : Triggers s) :
    evaluateTrigger s = s.setJst { s.jst with job := { Job.initial with phase := .planning } } := if_pos holds

theorem evaluateTrigger_rests {s : State} (fails : ¬ Triggers s) : evaluateTrigger s = s := if_neg fails

theorem evaluateTrigger_frame (s : State) : ∃ job, evaluateTrigger s = s.setJst { s.jst with job := job } := by
  by_cases holds : Triggers s
  · exact ⟨_, evaluateTrigger_begins holds⟩
  · exact ⟨s.jst.job, evaluateTrigger_rests holds⟩

theorem evaluateTrigger_setAccess (a : Access) (s : State) :
    evaluateTrigger (setAccess a s) = setAccess a (evaluateTrigger s) := by
  by_cases holds : Triggers s
  · rw [evaluateTrigger_begins holds, evaluateTrigger_begins (s := setAccess a s) holds]
    rfl
  · rw [evaluateTrigger_rests holds, evaluateTrigger_rests (s := setAccess a s) holds]

/-! ### The end of an allocation's program (R109) -/

section
variable {env : Env} {why : AllocWhy} {i : Nat} {f : AllocFields} {s : State}

/-- The array is free again, and the sequence number is used. -/
def numberUsed (s : State) : Jst := { s.jst with access := .none, nextSeq := s.jst.nextSeq + 1 }

/-- The state once the allocation fields read so. -/
def allocRead (a : AllocRead) (i : Nat) (s : State) : State := (s.setJst (numberUsed s)).setStore (withAlloc a i s)

variable (hr : running s = true) (access : s.jst.access = .alloc why i f)
include hr access

theorem exec_allocation_whole : exec (.allocationProgramEnd .whole env) s =
    .next (settle env (allocated env why i f (allocRead (.fields f) i s))) := by
  change execAllocationProgramEnd .whole env s = _
  simp only [execAllocationProgramEnd, done, hr, access] <;> rfl

theorem exec_allocation_part (shown : List Nat) : exec (.allocationProgramEnd (.part shown) env) s =
    .next (settle env (afterJobStep env (putStatus i .outOfService (allocRead (.failing shown) i s)))) := by
  change execAllocationProgramEnd (.part shown) env s = _
  simp only [execAllocationProgramEnd, done, hr, access] <;> rfl

theorem exec_allocation_nothing : exec (.allocationProgramEnd .nothing env) s =
    .next (settle env (afterJobStep env (putStatus i .outOfService (s.setJst (numberUsed s))))) := by
  change execAllocationProgramEnd .nothing env s = _
  simp only [execAllocationProgramEnd, done, hr, access] <;> rfl

end

end Sys2Proof.Machine

/-! The protection marks of a checkpoint and its entry (R150 to R152, R165): a mark that has been programmed is counted, and
after the last one the entry is composed. -/

namespace Sys2Proof.Machine

/-! ### What a checkpoint leaves to the end of the command (R115, R150) -/

section
variable {env : Env} {s t : State}

theorem readStage_busy (first : Bool) (busy : s.jst.access ≠ .none) : readStage first s = s := by
  have taken : arrayFree s = false := by simpa [arrayFree] using busy
  unfold readStage
  split
  · simp [taken]
  · rfl

theorem markStage_busy (busy : s.jst.access ≠ .none) : markStage s = s := by
  have taken : arrayFree s = false := by simpa [arrayFree] using busy
  simp [markStage, taken]

/-- With nothing left for the array after its turn, the checkpoint's is the only one. -/
theorem settle_staged (hr : running s = true) (staged : checkpointStage s = t) (rests : quiet t = true) :
    settle env s = kick env t := by
  have turned : turn env s = t := by
    rw [turn, staged]
    simp only [openStage_quiet rests, readStage_quiet _ rests, ite_self, headStage_quiet rests, markStage_quiet rests,
      jobStage_quiet rests]
  rw [settle, if_pos hr, turned, turn_quiet env rests]

/-- The head of the queue follows the checkpoint's turn. -/
theorem settle_staged_head {e : Entry} {rest : List Entry} {k : Nat} (hr : running s = true) (staged : checkpointStage s = t)
    (want : t.jst.wantOpen = none) (reads : ∀ first, readStage first t = t) (queue : t.jst.queue = e :: rest)
    (idle : t.jst.access = .none) (opened : openSeg t = some k) (fits : (segAt t k).fits e = true)
    (rests : checkpointRests (setAccess (.entry k (segAt t k).fill) t) = true) :
    settle env s = kick env (setAccess (.entry k (segAt t k).fill) t) := by
  have busy : (setAccess (.entry k (segAt t k).fill) t).jst.access ≠ .none := fun h => by cases h
  have turned : turn env s = setAccess (.entry k (segAt t k).fill) t := by
    rw [turn, staged, openStage_unasked want, reads, ite_self, headStage_fits queue idle opened fits, readStage_busy _ busy,
      markStage_busy busy, jobStage_busy busy]
  rw [settle, if_pos hr, turned, turn_quiet env (quiet_busy busy rests)]

end

/-! ### A mark that has been programmed (R151) -/

section
variable {reader : PartyId} {number epoch newly failed i : Nat} {tried : List Nat} {again : Bool}

/-- The next step of a checkpoint whose mark reads so. -/
def markCounted (mark : MarkRead) (tried : List Nat) (again : Bool) (newly failed i : Nat) : CheckpointStep :=
  if mark ≠ .clear then .marking (tried ++ [i]) false (newly + 1) failed
  else if again then .marking (tried ++ [i]) false newly (failed + 1)
  else .marking tried true newly failed

/-- The store with the mark as it reads, and the array free. -/
def markRead (mark : MarkRead) (number i : Nat) (s : State) : State :=
  (s.setStore (s.store.set i ⟨{ (segAt s i).header with protection := protectionRead number mark }, (segAt s i).slots⟩)).setJst
    { s.jst with access := .none }

theorem exec_protectionMark {env : Env} {s : State} (mark : MarkRead) (hr : running s = true)
    (access : s.jst.access = .protectMark i)
    (service : s.rqs.service = some (.checkpoint reader number epoch (.marking tried again newly failed))) :
    exec (.protectionMarkProgrammed mark env) s = .next (settle env (setService
      (some (.checkpoint reader number epoch (markCounted mark tried again newly failed i))) (markRead mark number i s))) := by
  change execProtectionMarkProgrammed mark env s = _
  simp only [execProtectionMarkProgrammed, done, hr, access, service]
  unfold markCounted
  split_ifs <;> rfl

/-- A mark read back leaves every segment's slots. -/
theorem slots_markRead (mark : MarkRead) (number i k : Nat) (s : State) :
    (segAt (markRead mark number i s) k).slots = (segAt s k).slots := by
  unfold markRead segAt
  simp only [State.setStore_store, State.setJst_store, List.getD_eq_getElem?_getD, List.getElem?_set]
  by_cases same : i = k
  · subst same
    by_cases inside : i < s.store.length <;> simp [inside]
  · simp [same]

end

/-! ### The end of the marks (R150, R152) -/

section
variable {env : Env} {reader : PartyId} {number epoch newly failed k : Nat} {tried : List Nat} {again : Bool} {s : State}
  (hr : running s = true)
  (service : s.rqs.service = some (.checkpoint reader number epoch (.marking tried again newly failed)))
  (done : marksDone s tried = true) (want : s.jst.wantOpen = none) (idle : s.jst.access = .none)
include hr service done want idle

/-- The entry is composed and accepted, and its program begins. -/
theorem settle_entryOffered (program : s.cmr.program = .none) (normal : s.jst.condition = .normal)
    (thawed : s.jst.frozen = false) (queue : s.jst.queue = []) (opened : openSeg s = some k)
    (room : (segAt s k).slots.length + 2 ≤ 127) : settle env s = kick env ((s.setJst { s.jst with
      access := .entry k ((segAt s k).slots.length + 1)
      queue := [.checkpoint (checkpointEntry number epoch reader s)] }).setRqs { s.rqs with
      service := some (.checkpoint reader number epoch
        (.entry (committedVerdict s) s.eve.committedExposure newly failed)) }) := by
  have entered := (checkpointStage_marked service done).trans ((composeCheckpoint_now reader number epoch newly failed program).trans
    (offerCheckpoint_accepted normal thawed (by simp [queue]) (suspend_free idle)))
  rw [queue, List.nil_append] at entered
  exact settle_staged_head hr entered want (fun _ => rfl) rfl idle opened ((fits_iff _ _).mpr room) rfl

/-- The entry is refused at the offer, and nothing waits. -/
theorem settle_entryRefused (program : s.cmr.program = .none)
    (full : s.jst.condition ≠ .normal ∨ s.jst.frozen = true) (queue : s.jst.queue = []) (job : s.jst.job = .initial) :
    settle env s = kick env (replied reader
      (.checkpoint number epoch (committedVerdict s) s.eve.committedExposure false newly failed) (setService none s)) :=
  settle_staged hr ((checkpointStage_marked service done).trans
    ((composeCheckpoint_now reader number epoch newly failed program).trans
      (offerCheckpoint_refused (full.imp_right .inl)))) (quiet_idle rfl want queue job)

/-- The entry is refused by a queue that is full, whose head then takes the array. -/
theorem settle_entryRefused_head {e : Entry} {rest : List Entry} (program : s.cmr.program = .none)
    (queue : s.jst.queue = e :: rest) (full : rest.length = 5) (opened : openSeg s = some k)
    (room : (segAt s k).slots.length + 1 + e.size ≤ 127) : settle env s = kick env (replied reader
      (.checkpoint number epoch (committedVerdict s) s.eve.committedExposure false newly failed)
      (setService none (setAccess (.entry k ((segAt s k).slots.length + 1)) s))) := by
  have refused := (checkpointStage_marked service done).trans ((composeCheckpoint_now reader number epoch newly failed program).trans
    (offerCheckpoint_refused (.inr (.inr (by simp [queue, full])))))
  exact settle_staged_head hr refused want (fun _ => rfl) queue idle opened ((fits_iff _ _).mpr room) rfl

/-- A byte program in progress is waited for. -/
theorem settle_entryWaits (program : s.cmr.program ≠ .none) (queue : s.jst.queue = []) (job : s.jst.job = .initial) :
    settle env s = kick env (setService (some (.checkpoint reader number epoch (.composing newly failed))) s) := by
  refine settle_staged hr ((checkpointStage_marked service done).trans
    (composeCheckpoint_programming reader number epoch newly failed program)) ?_
  simp [quiet, checkpointRests, setService, program, want, queue, serviceRests, jobRests, job, Job.initial]

end

/-! ### An entry that waited for a verdict mark (R95, R152, R165) -/

section
variable {miss : Byte} {env : Env} {v : Verdict} {w : Waiting} {s t : State}

/-- What waited for the record has been done, nothing of it is due, and an access is in progress: the verdict marks go on. -/
theorem exec_verdictMark_goesOn (hr : running s = true) (program : s.cmr.program = .verdictMark v)
    (current : s.eve.current = some w) (staged : recordStages (markEnded v miss s) = t) (runs : running t = true)
    (idle : t.cmr.program = .none) (due : conclusionDue t = none) (busy : t.jst.access ≠ .none)
    (rests : ∀ u : State, u.rqs = t.rqs → checkpointRests u = true) :
    (Memory.read (Memory.program s.cmr.consignment (verdictMarkAddress v) 0x00 miss) (verdictMarkAddress v) = 0xFF →
      exec (.verdictMarkProgrammed miss env) s =
        .next (kick env (answered env (t.setCmr { t.cmr with program := .verdictMark v })))) ∧
    (∀ y rest, Memory.read (Memory.program s.cmr.consignment (verdictMarkAddress v) 0x00 miss) (verdictMarkAddress v) ≠ 0xFF →
      w.marks = v :: y :: rest → exec (.verdictMarkProgrammed miss env) s =
        .next (kick env (answered env ((t.setEve { t.eve with current := some { w with marks := y :: rest } }).setCmr
          { t.cmr with program := .verdictMark y })))) := by
  refine ⟨fun clear => ?_, fun y rest set marks => ?_⟩
  · rw [exec_verdictMark_clear hr program current clear, staged, nextProgram_mark env v idle due]
    exact congrArg Host.Outcome.next (settle_answered env (s := t.setCmr _) runs (quiet_busy (s := t.setCmr _) busy (rests _ rfl)))
  · rw [exec_verdictMark_set hr program current set, staged, marks, List.tail_cons, List.head?_cons,
      markIsSet_more _ (by rw [marks]; rfl)]
    refine congrArg Host.Outcome.next ((congrArg (fun t => settle env (answerDiscovers env t))
      (nextProgram_mark env y ?_ ?_)).trans (settle_answered env ?_ (quiet_busy ?_ (rests _ ?_))))
    · exact idle
    · exact due
    · exact runs
    · exact busy
    · rfl

/-- A checkpoint that waits to compose its entry does so at the end of the program. -/
theorem recordStages_composing {reader : PartyId} {number epoch newly failed : Nat}
    (service : s.rqs.service = some (.checkpoint reader number epoch (.composing newly failed)))
    (program : s.cmr.program = .none) (offered : offerCheckpoint reader number epoch newly failed s = t)
    (noLine : ∀ c asked start seen, t.rqs.service ≠ some (.statusLine c asked start seen)) : recordStages s = t := by
  rw [recordStages, figuresStage_other (by simp [service]), checkpointStage_composing service,
    composeCheckpoint_now _ _ _ _ _ program, offered, fragmentStage_other noLine]

end

/-- Settles O54: a mark is counted (`exec_protectionMark`), and after the last one the entry is offered, refused, or waits for
the byte program in progress (`settle_entryOffered` and the lemmas after it). -/
theorem protectionMarksAreCounted : Obligations.ProtectionMarksAreCounted := by
  refine ⟨fun mark env i j number epoch newly failed reader tried again s logic want queue access service => ?_,
    ?_, ?_, ?_⟩
  · intro header s' next
    have hr := running_of_logic logic
    have ended := exec_protectionMark (env := env) mark hr access service
    have read : markRead mark number i s = { s' with jst := { s.jst with access := .none } } := by
      cases mark <;> rfl
    have marks {tried' : List Nat} {again' : Bool} {newly' failed' : Nat}
        (counted : markCounted mark tried again newly failed i = .marking tried' again' newly' failed')
        (follows : nextProtect s' tried' = some j) :
        exec (.protectionMarkProgrammed mark env) s = .next (kick env (next tried' again' newly' failed')) := by
      rw [ended, counted, read]
      refine congrArg Host.Outcome.next (settle_marking (i := j) (tried := tried')
        (reader := reader) (number := number) (epoch := epoch) (newly := newly') (failed := failed') (again := again') ?_ env ?_ ?_ ?_ ?_ ?_)
      · rfl
      · exact hr
      · exact want
      · exact queue
      · rfl
      · exact follows
    refine ⟨fun set follows => marks (if_pos set) follows, fun clear first follows => marks ?_ follows,
      fun clear second follows => marks ?_ follows, fun newly' failed' counts last => ?_⟩
    · simp [markCounted, clear, first]
    · simp [markCounted, clear, second]
    · intro e
      have counted : markCounted mark tried again newly failed i = .marking (tried ++ [i]) false newly' failed' := by
        obtain ⟨set, rfl, rfl⟩ | ⟨clear, second, rfl, rfl⟩ := counts
        · exact if_pos set
        · simp [markCounted, clear, second]
      have done : marksDone (setService (some (.checkpoint reader number epoch (.marking (tried ++ [i]) false newly' failed')))
          (markRead mark number i s)) (tried ++ [i]) = true := by
        rw [read]
        show (Option.isNone (nextProtect s' (tried ++ [i])) && true) = true
        rw [last]
        rfl
      rw [ended, counted]
      refine ⟨fun k program normal thawed opened room => ?_, fun program full job => ?_, fun program job => ?_⟩
      · have slots (x : Option Service) : (segAt (setService x (markRead mark number i s)) k).slots = (segAt s k).slots :=
          slots_markRead mark number i k s
        refine congrArg Host.Outcome.next ((settle_entryOffered (tried := tried ++ [i]) (k := k) ?_ rfl done ?_ rfl ?_ ?_ ?_ ?_ ?_ ?_).trans ?_)
        · exact hr
        · exact want
        · exact program
        · exact normal
        · exact thawed
        · exact queue
        · exact opened
        · rw [slots]
          exact room
        · rw [slots, read]
          rfl
      · refine congrArg Host.Outcome.next ((settle_entryRefused (tried := tried ++ [i]) ?_ rfl done ?_ rfl ?_ ?_ ?_ ?_).trans ?_)
        · exact hr
        · exact want
        · exact program
        · exact full
        · exact queue
        · exact job
        · rw [read]
          rfl
      · refine congrArg Host.Outcome.next ((settle_entryWaits (tried := tried ++ [i]) ?_ rfl done ?_ rfl ?_ ?_ ?_).trans ?_)
        · exact hr
        · exact want
        · exact program
        · exact queue
        · exact job
        · rw [read]
          rfl
  · intro env j number epoch newly failed f x rest reader s logic access queue service program inRange inside alone room
    have hr := running_of_logic logic
    have same : ∃ job, evaluateTrigger (becomeOpen j (allocRead (.fields f) j s)) =
        ((allocRead (.fields f) j s).setJst { (allocRead (.fields f) j s).jst with
          status := openedStatus j (allocRead (.fields f) j s), wantOpen := none, job := job }) := by
      obtain ⟨job, frame⟩ := evaluateTrigger_frame (becomeOpen j (allocRead (.fields f) j s))
      rw [becomeOpen_status] at frame
      refine ⟨job, ?_⟩
      rw [becomeOpen_status, frame] <;> rfl
    obtain ⟨job, opens⟩ := same
    generalize left : (allocRead (.fields f) j s).setJst _ = t at opens
    have store : t.store = withAlloc (.fields f) j s := by rw [← left]; rfl
    have composing : t.rqs.service = some (.checkpoint reader number epoch (.composing newly failed)) := by
      rw [← left]
      exact service
    have programming : t.cmr.program ≠ .none := by
      rw [← left]
      exact program
    have opened : openSeg t = some j :=
      openSeg_becomeOpen (s := allocRead (.fields f) j s) (closeOpen_unopened alone) inRange inside (by rw [← left]; rfl)
    have staged : checkpointStage t = t := by
      rw [checkpointStage_composing composing, composeCheckpoint_programming _ _ _ _ _ programming, ← composing]
      rfl
    have slots := slots_withAlloc (.fields f) store j
    have ends := settle_staged_head (env := env) (k := j) (e := x) (rest := rest) (by rw [← left]; exact hr) staged
      (by rw [← left]; rfl) (fun first => by simp only [readStage, composing]) (by rw [← left]; exact queue)
      (by rw [← left]; rfl) opened ((fits_iff _ _).mpr (by rw [slots]; exact room))
      (by simp [checkpointRests, setAccess, composing, programming])
    refine ⟨_, (exec_allocation_whole hr access).trans (congrArg Host.Outcome.next ((congrArg (settle env) opens).trans ends)),
      opened, ?_, composing.trans service.symm, fun q => protection_withAlloc (.fields f) store q⟩
    show Access.entry j (segAt t j).fill = _
    rw [Segment.fill, slots]
  · intro miss env v w i n number epoch newly failed reader s logic program current service access m read e at_ goes
    have hr := running_of_logic logic
    have stages {t : State} (offered : offerCheckpoint reader number epoch newly failed (markEnded v miss s) = t) :=
      recordStages_composing (s := markEnded v miss s) service rfl offered
    refine ⟨fun normal thawed room => ?_, fun full => ?_⟩
    · have offered := offerCheckpoint_accepted (s := markEnded v miss s) (reader := reader) (number := number) (epoch := epoch)
        (newly := newly) (failed := failed) normal thawed room (suspend_other (by simp [markEnded, programmed, access]) (by simp [markEnded, programmed, access]))
      have goesOn := exec_verdictMark_goesOn (env := env) hr program current (stages offered (by simp [setService])) hr rfl rfl
        (fun h => by cases access.symm.trans h) (fun u same => by rw [checkpointRests, same]; rfl)
      exact goesOn
    · have offered := offerCheckpoint_refused (s := markEnded v miss s) (reader := reader) (number := number) (epoch := epoch)
        (newly := newly) (failed := failed) full
      have goesOn := exec_verdictMark_goesOn (env := env) hr program current (stages offered (by simp [setService, replied])) hr rfl rfl
        (fun h => by cases access.symm.trans h) (fun u same => by rw [checkpointRests, same]; rfl)
      exact goesOn
  · intro mark env i k number epoch newly failed x rest reader tried again s logic want queue full access program service
      set opened room header s' last
    have hr := running_of_logic logic
    have read : markRead mark number i s = { s' with jst := { s.jst with access := .none } } := by
      cases mark <;> rfl
    have slots (x : Option Service) : (segAt (setService x (markRead mark number i s)) k).slots = (segAt s k).slots :=
      slots_markRead mark number i k s
    have done : marksDone (setService (some (.checkpoint reader number epoch (.marking (tried ++ [i]) false (newly + 1) failed)))
        (markRead mark number i s)) (tried ++ [i]) = true := by
      rw [read]
      show (Option.isNone (nextProtect s' (tried ++ [i])) && true) = true
      rw [last]
      rfl
    rw [exec_protectionMark mark hr access service, show markCounted mark tried again newly failed i = _ from if_pos set]
    refine congrArg Host.Outcome.next ((settle_entryRefused_head (e := x) (tried := tried ++ [i]) (k := k) ?_ rfl done ?_ rfl ?_ ?_ full ?_ ?_).trans ?_)
    · exact hr
    · exact want
    · exact program
    · exact queue
    · exact opened
    · rw [slots]
      exact room
    · rw [slots, read]
      rfl

end Sys2Proof.Machine

/-! What an allocation leads to (R109, R111, R116, R126, R133, R136, R170), and the step that the consolidation job takes up
at the end of a command (R134 to R139). -/

namespace Sys2Proof.Machine

/-! ### Two states that differ in the store's state -/

theorem sameCore_of_jst {s t : State} (same : t = s.setJst t.jst) (seq : t.jst.nextSeq = s.jst.nextSeq) : SameCore s t := by
  rw [same]
  exact (Kept.setJst s t.jst seq).1

theorem ends_of_jst {s t : State} (same : t = s.setJst t.jst) (seq : t.jst.nextSeq = s.jst.nextSeq)
    (light : serviceLight s = true) : Ends s t := by
  rw [same]
  exact Ends.setJst s t.jst seq light

/-! ### The job's turn (R135) -/

/-- Nothing but the consolidation job asks for the array. -/
structure JobReady (s : State) : Prop where
  running : running s = true
  service : s.rqs.service = none
  want : s.jst.wantOpen = none
  queue : s.jst.queue = []
  idle : s.jst.access = .none
  thawed : s.jst.frozen = false
  alive : s.jst.job.stopped = false
  whole : s.jst.job.suspended = none

section
variable {env : Env} {s t : State}

theorem turn_jobStep (ready : JobReady s) : turn env s = jobStep s := by
  obtain ⟨-, service, want, queue, idle, thawed, alive, whole⟩ := ready
  have clear : clearForJob s = true := by simp [clearForJob, arrayFree, idle, queue, serviceClear, service, thawed, alive]
  rw [turn_unserved env service want (by rw [headStage_empty queue]; exact service), headStage_empty queue, jobStage, clear]
  simp only [if_true, whole]

theorem settle_jobStep (ready : JobReady s) (step : jobStep s = t) (rests : quiet t = true) :
    settle env s = kick env t := by
  rw [settle, if_pos ready.running, turn_jobStep ready, step, turn_quiet env rests]

/-- The job's step takes the array. -/
theorem settle_jobStep_busy (ready : JobReady s) (step : jobStep s = t) (service : t.rqs.service = none)
    (busy : t.jst.access ≠ .none) : settle env s = kick env t :=
  settle_jobStep ready step (quiet_of_access service busy)

theorem jobStep_reads (phase : s.jst.job.phase = .copy) (composed : s.jst.job.composed = false) :
    jobStep s = setAccess .pageRead s := by
  simp only [jobStep, phase, composed, Bool.false_eq_true, if_false]

theorem jobStep_programs (phase : s.jst.job.phase = .copy) (composed : s.jst.job.composed = true) :
    jobStep s = setAccess .pageProgram s := by
  simp only [jobStep, phase, composed, if_true]

theorem jobStep_commits (phase : s.jst.job.phase = .commit) : jobStep s = setAccess .commitMark s := by
  simp only [jobStep, phase]

theorem jobStep_allocates {i : Nat} {f : AllocFields} (phase : s.jst.job.phase = .allocate)
    (plan : planTarget s = some (i, f)) : jobStep s = setAccess (.alloc .target i f) s := by
  simp only [jobStep, phase, plan]

theorem jobStep_unallocated (phase : s.jst.job.phase = .allocate) (plan : planTarget s = none) :
    jobStep s = settleShort (endJob none s) := by
  simp only [jobStep, phase, plan]

theorem jobStep_pass (phase : s.jst.job.phase = .planning) (reading : s.jst.job.reading = true) :
    jobStep s = setAccess .pageRead s := by
  simp only [jobStep, phase, reading, if_true]

theorem jobStep_pair {k : Nat} (phase : s.jst.job.phase = .planning) (reading : s.jst.job.reading = false)
    (pair : nextPair s s.jst.job.walkAt = some k) : jobStep s =
      setAccess .pageRead (setJob { s.jst.job with walkAt := k, pagesRead := 0, reading := true } s) := by
  simp only [jobStep, phase, reading, Bool.false_eq_true, if_false, pair]

theorem jobStep_unpaired (phase : s.jst.job.phase = .planning) (reading : s.jst.job.reading = false)
    (pair : nextPair s s.jst.job.walkAt = none) : jobStep s = settleShort (endJob s.jst.job.cleanup s) := by
  simp only [jobStep, phase, reading, Bool.false_eq_true, if_false, pair]

theorem beginErase_unmarked {i : Nat} (a : Access) (unmarked : (segAt s i).header.marked = false) :
    beginErase i a s = setAccess a (putStatus i .erasing s) := by
  rw [beginErase, if_neg (by simp [unmarked])]

theorem jobStep_erases {i : Nat} {q : Nat} (unmarked : (segAt s i).header.marked = false)
    (source : s.jst.job.phase = .erase1 ∧ s.jst.job.first = some (i, q) ∨
      s.jst.job.phase = .erase2 ∧ s.jst.job.second = some (i, q)) :
    jobStep s = setAccess (.sourceErase i) (putStatus i .erasing s) := by
  obtain ⟨phase, found⟩ | ⟨phase, found⟩ := source <;>
    simp only [jobStep, phase, found, eraseSource, beginErase_unmarked _ unmarked]

theorem jobStep_cleans {i : Nat} (phase : s.jst.job.phase = .none) (cleanup : s.jst.job.cleanup = some i)
    (unmarked : (segAt s i).header.marked = false) :
    jobStep s = setAccess (.cleanupErase i) (putStatus i .erasing s) := by
  simp only [jobStep, phase, cleanup, beginErase_unmarked _ unmarked]

theorem settleShort_normal (normal : s.jst.condition ≠ .short) : settleShort s = s := if_neg normal

end

/-! ### A segment that is opened (R111, R116, R126, R133) -/

section
variable {env : Env} {i : Nat} {f : AllocFields} {s : State}

/-- The state once the allocated segment is the OPEN one. -/
def segmentOpened (f : AllocFields) (i : Nat) (s : State) : State :=
  (s.setStore (withAlloc (.fields f) i s)).setJst { s.jst with
    status := openedStatus i s
    nextSeq := s.jst.nextSeq + 1
    access := .none
    wantOpen := none }

theorem becomeOpen_allocRead (f : AllocFields) (i : Nat) (s : State) :
    becomeOpen i (allocRead (.fields f) i s) = segmentOpened f i s := by
  rw [becomeOpen_status]
  rfl

theorem openSeg_segmentOpened (alone : oneOpen s = true) (inRange : i < Config.segments) (inside : i < s.jst.status.length)
    {t : State} (status : t.jst.status = openedStatus i s) : openSeg t = some i :=
  openSeg_becomeOpen (fun _ => openCount_closeOpen ((oneOpen_iff s).mp alone).1) inRange inside status

theorem slots_segmentOpened (f : AllocFields) (i k : Nat) (s : State) :
    (segAt (segmentOpened f i s) k).slots = (segAt s k).slots :=
  slots_withAlloc (.fields f) (t := segmentOpened f i s) rfl k

/-- The head of the queue is programmed in the segment that has become OPEN. -/
theorem settle_segmentOpened {t : State} {e : Entry} {rest : List Entry} (hr : running t = true)
    (service : t.rqs.service = none) (queue : t.jst.queue = e :: rest) (idle : t.jst.access = .none)
    (want : t.jst.wantOpen = none) (opened : openSeg t = some i) (slots : (segAt t i).slots = (segAt s i).slots)
    (room : (segAt s i).slots.length + 1 + e.size ≤ 127) :
    settle env t = kick env (setAccess (.entry i ((segAt s i).slots.length + 1)) t) := by
  have fits : (segAt t i).fits e = true := (fits_iff _ _).mpr (by rw [slots]; exact room)
  rw [settle_programs hr idle want service queue opened fits, Segment.fill, slots]

end

/-- The trigger is evaluated, and then the head of the queue is programmed in the segment that has become OPEN. -/
theorem settle_triggered {t : State} {e : Entry} {rest : List Entry} (hr : running t = true)
    (service : t.rqs.service = none) (queue : t.jst.queue = e :: rest) (idle : t.jst.access = .none)
    (want : t.jst.wantOpen = none) (opened : openSeg t = some i) (slots : (segAt t i).slots = (segAt s i).slots)
    (room : (segAt s i).slots.length + 1 + e.size ≤ 127) : settle env (evaluateTrigger t) =
      kick env (evaluateTrigger (setAccess (.entry i ((segAt s i).slots.length + 1)) t)) := by
  obtain ⟨job, frame⟩ := evaluateTrigger_frame t
  rw [evaluateTrigger_setAccess, frame]
  exact settle_segmentOpened (t := t.setJst { t.jst with job := job }) hr service queue idle want opened slots room

theorem size_leg (e : LegEntry) : (Entry.leg e).size ≤ 2 := by
  show (if 4 < e.founders.length then 2 else 1) ≤ 2
  split_ifs <;> omega

/-- The OPEN segment of a commissioning activates the station, and its reply is sent (R170). -/
theorem finishOpening_eq {reader : PartyId} {adjusted : List (Nat × Int)}
    (service : s.rqs.service = some (.opening reader adjusted)) (station : s.eve.station = .active)
    (normal : s.jst.condition = .normal) (thawed : s.jst.frozen = false) (queue : s.jst.queue = [])
    (idle : s.jst.access = .none) : finishOpening s = replied reader (.commission .active adjusted)
      (setService none ((blocksActivated s).setJst { s.jst with queue := [.leg ⟨0, 0, foundersOf s.ptb.peers⟩] })) := by
  have offered := offer_accepted (e := .leg ⟨0, 0, foundersOf s.ptb.peers⟩) normal thawed (by simp [queue])
  rw [queue, List.nil_append] at offered
  have rests (q : List Entry) : suspend (s.setJst { s.jst with queue := q }) = s.setJst { s.jst with queue := q } :=
    suspend_free idle
  rw [rests] at offered
  have activated : activateBlocks s =
      (blocksActivated s).setJst { s.jst with queue := [.leg ⟨0, 0, foundersOf s.ptb.peers⟩] } := by
    rw [activateBlocks_eq, offered]
    rfl
  have reported : reportedState ((blocksActivated s).setJst { s.jst with
      queue := [.leg ⟨0, 0, foundersOf s.ptb.peers⟩] }) = .active := by
    have same : ((blocksActivated s).setJst { s.jst with queue := [.leg ⟨0, 0, foundersOf s.ptb.peers⟩] }).eve.station = .active :=
      station
    rw [reportedState, same]
  simp only [finishOpening, service, activated, reported, complete]
  exact sendReply_eq ..

/-- Settles O57: the program's end uses the number (`exec_allocation_whole`), an OPEN segment is followed by the trigger and
the head (`settle_triggered`), and a target by the job's next step (`settle_jobStep`). -/
theorem allocationGivesASegment : Obligations.AllocationGivesASegment := by
  refine ⟨fun env why i f s logic access whys => ?_, fun s => ?_,
    fun env why i f s logic alone access inRange stored tabled => ?_,
    fun env i f s logic access want queue service thawed phase alive whole => ?_⟩
  · intro used
    have hr := running_of_logic logic
    have kept : SameCore ((s.setStore (withAlloc (.fields f) i s)).setJst used)
        (allocated env why i f (allocRead (.fields f) i s)) := by
      obtain rfl | rfl | rfl := whys
      · obtain ⟨job, frame⟩ := evaluateTrigger_frame (becomeOpen i (allocRead (.fields f) i s))
        rw [allocated, frame, becomeOpen_allocRead]
        exact sameCore_of_jst rfl rfl
      · obtain ⟨job, frame⟩ := evaluateTrigger_frame (becomeOpen i (allocRead (.fields f) i s))
        rw [allocated, frame, becomeOpen_allocRead]
        exact sameCore_of_jst rfl rfl
      · rw [allocated, becomeOpen_allocRead]
        exact sameCore_of_jst rfl rfl
    refine ⟨⟨_, exec_allocation_whole hr access, kept.trans (settle_core env _)⟩, fun light rests => ⟨fun shown => ?_, ?_⟩,
      fun start queue service job closed => ?_⟩
    · refine ⟨_, (exec_allocation_part hr access shown), ?_⟩
      rw [afterJobStep_other env (by exact rests)]
      refine Ends.settled ?_ env light
      exact ends_of_jst (by rfl) (by rfl) light
    · refine ⟨_, (exec_allocation_nothing hr access), ?_⟩
      rw [afterJobStep_other env (by exact rests)]
      refine Ends.settled ?_ env light
      exact ends_of_jst (by rfl) (by rfl) light
    · subst start
      rw [exec_allocation_whole hr access, allocated, becomeOpen_allocRead]
      refine congrArg Host.Outcome.next ((settle_quiet env ?_ (quiet_idle ?_ ?_ ?_ ?_)).trans ?_)
      · exact hr
      · exact service
      · rfl
      · exact queue
      · exact job
      · unfold segmentOpened openedStatus
        rw [closed]
        rfl
  · intro holds
    exact ⟨evaluateTrigger_begins, evaluateTrigger_rests⟩
  · intro header status opened
    have hr := running_of_logic logic
    have found (t : State) (same : t.jst.status = openedStatus i s) : openSeg t = some i :=
      openSeg_segmentOpened alone inRange (by omega) same
    refine ⟨fun e rest whys service queue room => ?_, fun reader adjusted opens service queue normal thawed station room => ?_⟩
    · have allocates : allocated env why i f (allocRead (.fields f) i s) = evaluateTrigger (segmentOpened f i s) := by
        obtain rfl | rfl := whys <;> rw [← becomeOpen_allocRead] <;> rfl
      rw [exec_allocation_whole hr access, allocates]
      refine congrArg Host.Outcome.next ((settle_triggered (i := i) (s := s) (rest := rest) ?_ ?_ ?_ ?_ ?_ ?_ ?_ room).trans ?_)
      · exact hr
      · exact service
      · exact queue
      · rfl
      · rfl
      · exact found _ rfl
      · exact slots_segmentOpened f i i s
      · rfl
    · intro activated
      have finished := finishOpening_eq (s := segmentOpened f i s) service station normal thawed queue rfl
      have allocates : allocated env why i f (allocRead (.fields f) i s) =
          evaluateTrigger (finishOpening (segmentOpened f i s)) := by
        rw [opens, ← becomeOpen_allocRead] <;> rfl
      rw [exec_allocation_whole hr access, allocates, finished]
      have size := size_leg ⟨0, 0, foundersOf s.ptb.peers⟩
      refine congrArg Host.Outcome.next ((settle_triggered (i := i) (s := s) (e := .leg ⟨0, 0, foundersOf s.ptb.peers⟩)
        (rest := []) ?_ ?_ ?_ ?_ ?_ ?_ ?_ (by omega)).trans ?_)
      · exact hr
      · rfl
      · rfl
      · rfl
      · rfl
      · exact found _ rfl
      · exact slots_segmentOpened f i i s
      · rfl
  · intro header ended
    have hr := running_of_logic logic
    have unawaited : jobAwaited s = false := by simp [jobAwaited, service]
    refine ⟨fun planned plan some1 => ?_, fun result store results => ?_⟩
    · have pages : pagesFor planned ≠ 0 := by
        unfold pagesFor
        omega
      have targets : allocated env .target i f (allocRead (.fields f) i s) = ended (header (.fields f)) .targetPending .none
          { s.jst.job with phase := .copy, target := some (i, f.seq), pages := 0, composed := false, commitRetry := false } := by
        show afterJobStep env (becomeTarget i f (allocRead (.fields f) i s)) = _
        rw [afterJobStep_other env (by exact unawaited)]
        show setJob { s.jst.job with
          target := some (i, f.seq), pages := 0, composed := false, commitRetry := false
          phase := if pagesFor (s.jst.job.planned.getD 0) = 0 then .commit else .copy } _ = _
        rw [plan, Option.getD_some, if_neg pages]
        rfl
      rw [exec_allocation_whole hr access, targets]
      have ready : JobReady (ended (header (.fields f)) .targetPending .none
          { s.jst.job with phase := .copy, target := some (i, f.seq), pages := 0, composed := false, commitRetry := false }) :=
        ⟨hr, service, want, queue, rfl, thawed, alive, whole⟩
      exact congrArg Host.Outcome.next (settle_jobStep_busy ready (jobStep_reads rfl rfl) service fun h => by cases h)
    · intro failed
      have fails : exec (.allocationProgramEnd result env) s = .next (settle env (failed .none s.jst.job)) := by
        obtain ⟨shown, rfl, rfl⟩ | ⟨rfl, rfl⟩ := results
        · rw [exec_allocation_part hr access, afterJobStep_other env (by exact unawaited)]
          rfl
        · rw [exec_allocation_nothing hr access, afterJobStep_other env (by exact unawaited)]
          rfl
      have ready : JobReady (failed .none s.jst.job) := ⟨hr, service, want, queue, rfl, thawed, alive, whole⟩
      rw [fails]
      refine ⟨fun k g plan => ?_, fun plan normal => ?_⟩
      · exact congrArg Host.Outcome.next (settle_jobStep_busy ready (jobStep_allocates phase plan) service fun h => by cases h)
      · have ends : jobStep (failed .none s.jst.job) = failed .none .initial := by
          refine (jobStep_unallocated (s := failed .none s.jst.job) phase plan).trans (settleShort_normal ?_)
          exact fun short => by cases normal.symm.trans short
        exact congrArg Host.Outcome.next (settle_jobStep ready ends (quiet_idle service want queue rfl))

end Sys2Proof.Machine

/-! The pages of a consolidation job and its commit (R134, R137, R138): what the end of a page read, of a page program and of
the commit mark brings the job. -/

namespace Sys2Proof.Machine

/-! ### The ends of the job's steps -/

section
variable {env : Env} {s : State}

/-- The access has ended, and the job stands as it then does. -/
def stepEnded (job : Job) (s : State) : State := s.setJst { s.jst with access := .none, job := job }

/-- The job's step can follow the end of the last one. -/
structure JobFollows (s : State) : Prop where
  running : running s = true
  service : s.rqs.service = none
  want : s.jst.wantOpen = none
  queue : s.jst.queue = []
  thawed : s.jst.frozen = false

theorem JobFollows.ready {job : Job} (follows : JobFollows s) (alive : job.stopped = false) (whole : job.suspended = none) :
    JobReady (stepEnded job s) :=
  ⟨follows.running, follows.service, follows.want, follows.queue, rfl, follows.thawed, alive, whole⟩

theorem JobFollows.ready_of {t : State} (follows : JobFollows s) (logic : t.logic = s.logic) (rqs : t.rqs = s.rqs)
    (want : t.jst.wantOpen = s.jst.wantOpen) (queue : t.jst.queue = s.jst.queue) (frozen : t.jst.frozen = s.jst.frozen)
    (idle : t.jst.access = .none) (alive : t.jst.job.stopped = false) (whole : t.jst.job.suspended = none) : JobReady t := by
  refine ⟨(congrArg (· == Logic.running) logic).trans follows.running, ?_, want.trans follows.want,
    queue.trans follows.queue, idle, frozen.trans follows.thawed, alive, whole⟩
  rw [rqs]
  exact follows.service

theorem JobFollows.unawaited (follows : JobFollows s) : jobAwaited s = false := by
  simp [jobAwaited, follows.service]

/-- The same access follows. -/
theorem stepEnded_again {a : Access} (job : Job) (access : s.jst.access = a) :
    setAccess a (stepEnded job s) = s.setJst { s.jst with job := job } := by
  subst access
  rfl

theorem afterJobStep_unserved (service : s.rqs.service = none) : afterJobStep env s = s := by
  simp only [afterJobStep, service]

theorem pageReadTaken_copies (composed : Bool) (service : s.rqs.service = none) (phase : s.jst.job.phase = .copy) :
    pageReadTaken composed (setAccess .none s) = stepEnded { s.jst.job with composed := composed } s := by
  have unawaited : jobAwaited (setAccess .none s) = false := by simp [jobAwaited, setAccess, service]
  have phase' : (setAccess .none s).jst.job.phase = .copy := phase
  rw [pageReadTaken, unawaited, phase']
  rfl

theorem pageReadTaken_plans (composed : Bool) (service : s.rqs.service = none) (phase : s.jst.job.phase = .planning)
    (reading : s.jst.job.reading = true) :
    pageReadTaken composed (setAccess .none s) = planningRead (setAccess .none s) := by
  have unawaited : jobAwaited (setAccess .none s) = false := by simp [jobAwaited, setAccess, service]
  have phase' : (setAccess .none s).jst.job.phase = .planning := phase
  have reading' : (setAccess .none s).jst.job.reading = true := reading
  rw [pageReadTaken, unawaited, phase', reading']
  rfl

theorem exec_pageReadEnd {t : State} (follows : JobFollows s) (access : s.jst.access = .pageRead) {composed : Bool}
    (taken : pageReadTaken composed (setAccess .none s) = t) (service : t.rqs.service = none) :
    exec (.pageReadEnd composed env) s = .next (settle env t) := by
  change execPageReadEnd composed env s = _
  simp only [execPageReadEnd, done, follows.running, access, taken, afterJobStep_unserved service]

/-! ### The planning pass (R134) -/

theorem planningRead_counts (more : s.jst.job.pagesRead + 1 < 32) : planningRead (setAccess .none s) =
    stepEnded { s.jst.job with pagesRead := s.jst.job.pagesRead + 1 } s := if_pos more

/-- The job that a pass ends with when its pair is chosen, and when it is not. -/
def pairChosen (a b : Nat) (s : State) : Job :=
  { s.jst.job with
    phase := .allocate
    first := some (a, seqAt s a)
    second := some (b, seqAt s b)
    planned := some (mergedSlots (segAt s a) (segAt s b)).length
    reading := false }

def pairPassed (s : State) : Job := { s.jst.job with walkAt := s.jst.job.walkAt + 1, reading := false }

theorem planningRead_last {a b : Nat} (last : s.jst.job.pagesRead = 31) (pair : pairAt s s.jst.job.walkAt = some (a, b)) :
    planningRead (setAccess .none s) = stepEnded
      (if (mergedSlots (segAt s a) (segAt s b)).length ≤ 126 then pairChosen a b s else pairPassed s) s := by
  have pair' : pairAt (setAccess .none s) (setAccess .none s).jst.job.walkAt = some (a, b) := pair
  refine (if_neg (by rw [show (setAccess .none s).jst.job.pagesRead = 31 from last]; decide)).trans ?_
  simp only [pair']
  show (if (mergedSlots (segAt s a) (segAt s b)).length ≤ Config.slotsPerSegment then _ else _) = _
  rw [show Config.slotsPerSegment = 126 from rfl]
  split_ifs <;> rfl

section
variable {a b : Nat} (follows : JobFollows s) (alive : s.jst.job.stopped = false) (whole : s.jst.job.suspended = none)
include follows alive whole

/-- A chosen pair's target is allocated, or the job ends. -/
theorem settle_pairChosen {i : Nat} {f : AllocFields} (plan : planTarget (stepEnded (pairChosen a b s) s) = some (i, f)) :
    settle env (stepEnded (pairChosen a b s) s) =
      kick env (setAccess (.alloc .target i f) (stepEnded (pairChosen a b s) s)) :=
  settle_jobStep_busy (follows.ready alive whole) (jobStep_allocates (s := stepEnded (pairChosen a b s) s) rfl plan)
    follows.service fun h => by cases h

theorem settle_pairChosen_ends (plan : planTarget (stepEnded (pairChosen a b s) s) = none)
    (normal : s.jst.condition = .normal) :
    settle env (stepEnded (pairChosen a b s) s) = kick env (stepEnded .initial s) := by
  have step : jobStep (stepEnded (pairChosen a b s) s) = stepEnded .initial s :=
    (jobStep_unallocated (s := stepEnded (pairChosen a b s) s) rfl plan).trans
      (settleShort_normal fun short => by cases normal.symm.trans short)
  exact settle_jobStep (follows.ready alive whole) step
    (quiet_idle (s := stepEnded .initial s) follows.service follows.want follows.queue rfl)

variable (phase : s.jst.job.phase = .planning)
include phase

/-- After a pair that is not chosen the next candidate is read, or the job ends. -/
theorem settle_pairPassed {k : Nat} (access : s.jst.access = .pageRead) (next : nextPair s (s.jst.job.walkAt + 1) = some k) :
    settle env (stepEnded (pairPassed s) s) = kick env (s.setJst { s.jst with
      job := { s.jst.job with walkAt := k, pagesRead := 0, reading := true } }) := by
  have step : jobStep (stepEnded (pairPassed s) s) = s.setJst { s.jst with
      job := { s.jst.job with walkAt := k, pagesRead := 0, reading := true } } :=
    (jobStep_pair (s := stepEnded (pairPassed s) s) phase rfl next).trans (stepEnded_again (s := s) _ access)
  exact settle_jobStep_busy (follows.ready alive whole) step follows.service fun h => by cases access.symm.trans h

theorem settle_pairPassed_ends (next : nextPair s (s.jst.job.walkAt + 1) = none) (normal : s.jst.condition = .normal)
    (cleanup : s.jst.job.cleanup = none) :
    settle env (stepEnded (pairPassed s) s) = kick env (stepEnded .initial s) := by
  have ends : endJob (stepEnded (pairPassed s) s).jst.job.cleanup (stepEnded (pairPassed s) s) = stepEnded .initial s := by
    rw [show (stepEnded (pairPassed s) s).jst.job.cleanup = none from cleanup]
    rfl
  have step : jobStep (stepEnded (pairPassed s) s) = stepEnded .initial s := by
    rw [jobStep_unpaired (s := stepEnded (pairPassed s) s) phase rfl next, ends]
    exact settleShort_normal fun short => by cases normal.symm.trans short
  exact settle_jobStep (follows.ready alive whole) step
    (quiet_idle (s := stepEnded .initial s) follows.service follows.want follows.queue rfl)

end

/-! ### The pages of the copy (R137) -/

/-- The store with the page in hand put in the target. -/
def withPage (slots : List Slot) (t : Nat) (s : State) : List Segment :=
  s.store.set t ((segAt s t).put (8 * s.jst.job.pages + 1) slots)

theorem putPage_eq {t q : Nat} (slots : List Slot) (target : s.jst.job.target = some (t, q)) :
    putPage slots (setAccess .none s) = (setAccess .none s).setStore (withPage slots t s) := by
  have targeted : (setAccess .none s).jst.job.targetSeg = some t := by
    show Option.map Prod.fst s.jst.job.target = _
    rw [target]
    rfl
  simp only [putPage, targeted]
  rfl

/-- A page that matches is counted, and the copy or the commit follows. -/
theorem pageDone_eq {t q planned : Nat} (target : s.jst.job.target = some (t, q)) (plan : s.jst.job.planned = some planned) :
    pageDone (putPage (jobPage s) (setAccess .none s)) = (stepEnded { s.jst.job with
      pages := s.jst.job.pages + 1
      composed := false
      phase := if pagesFor planned ≤ s.jst.job.pages + 1 then .commit else .copy } s).setStore
        (withPage (jobPage s) t s) := by
  rw [putPage_eq _ target, pageDone]
  show setJob { s.jst.job with
      pages := s.jst.job.pages + 1
      composed := false
      phase := if pagesFor (s.jst.job.planned.getD 0) ≤ s.jst.job.pages + 1 then .commit else .copy } _ = _
  rw [plan]
  rfl

/-- A job that is abandoned leaves its target to be erased. -/
theorem abandonJob_eq {t q : Nat} {u : State} (target : u.jst.job.target = some (t, q)) :
    abandonJob u = u.setJst { u.jst with job := { Job.initial with cleanup := some t } } := by
  unfold abandonJob Job.targetSeg
  rw [target]
  rfl

theorem exec_pageProgramEnd {ok : Bool} {slots : List SlotLeft} (follows : JobFollows s)
    (access : s.jst.access = .pageProgram) : exec (.pageProgramEnd ok slots env) s = .next (settle env
      (if ok then pageDone (putPage (jobPage s) (setAccess .none s))
      else abandonJob (putPage (leftSlots (jobPage s) slots) (setAccess .none s)))) := by
  change execPageProgramEnd ok slots env s = _
  simp only [execPageProgramEnd, done, follows.running, access]
  rfl

theorem header_withPage (slots : List Slot) (t k : Nat) (s : State) {u : State} (store : u.store = withPage slots t s) :
    (segAt u k).header = (segAt s k).header := by
  unfold segAt
  rw [store, withPage]
  simp only [List.getD_eq_getElem?_getD, List.getElem?_set]
  by_cases same : t = k
  · subst same
    by_cases inside : t < s.store.length <;> simp [inside, Segment.put, segAt]
  · simp [same]

/-! ### The commit mark (R138) -/

theorem exec_commitMark {t : State} {set : Bool} (follows : JobFollows s) (access : s.jst.access = .commitMark)
    (ends : (if set then commitTarget (setAccess .none s) else commitClear (setAccess .none s)) = t)
    (service : t.rqs.service = none) : exec (.commitMarkProgrammed set env) s = .next (settle env t) := by
  change execCommitMarkProgrammed set env s = _
  simp only [execCommitMarkProgrammed, done, follows.running, access, ends, afterJobStep_unserved service]

/-- The state once the commit has taken place. -/
def committed (t a b : Nat) (s : State) : State :=
  (s.setStore (s.store.set t ⟨{ (segAt s t).header with commit := true }, (segAt s t).slots⟩)).setJst { s.jst with
    access := .none
    status := ((s.jst.status.set t .full).set a .retiring).set b .retiring
    job := { s.jst.job with phase := .erase1 } }

theorem commitTarget_eq {t a b qt qa qb : Nat} (target : s.jst.job.target = some (t, qt))
    (first : s.jst.job.first = some (a, qa)) (second : s.jst.job.second = some (b, qb)) :
    commitTarget (setAccess .none s) = committed t a b s := by
  have target' : (setAccess .none s).jst.job.targetSeg = some t := by
    show Option.map Prod.fst s.jst.job.target = _
    rw [target]
    rfl
  have first' : (setAccess .none s).jst.job.first = some (a, qa) := first
  have second' : (setAccess .none s).jst.job.second = some (b, qb) := second
  have job : ({ s.jst.job with phase := .erase1, first := some (a, qa), second := some (b, qb) } : Job) =
      { s.jst.job with phase := .erase1 } := by rw [← first, ← second]
  simp only [commitTarget, target', first', second', committed]
  rw [← job]
  rfl

theorem header_committed {t a b k : Nat} (other : k ≠ t) : (segAt (committed t a b s) k).header = (segAt s k).header := by
  simp only [segAt, committed, State.setJst_store, State.setStore_store, List.getD_eq_getElem?_getD, List.getElem?_set,
    if_neg (Ne.symm other)]

/-- A mark that reads clear is programmed once more, and then abandons the job. -/
theorem commitClear_eq (service : s.rqs.service = none) : commitClear (setAccess .none s) =
    if s.jst.job.commitRetry then abandonJob (setAccess .none s)
    else stepEnded { s.jst.job with commitRetry := true } s := by
  have unawaited : jobAwaited (setAccess .none s) = false := by simp [jobAwaited, setAccess, service]
  rw [commitClear, if_neg (by simp [unawaited])]
  rfl

/-- The target of a job that is abandoned is erased. -/
theorem settle_abandoned {t q : Nat} {store : List Segment} (follows : JobFollows s) (target : s.jst.job.target = some (t, q))
    (unmarked : (segAt { s with store := store } t).header.marked = false) :
    settle env (abandonJob ((setAccess .none s).setStore store)) = kick env { s with
      store := store
      jst := { s.jst with
        status := s.jst.status.set t .erasing
        access := .cleanupErase t
        job := { Job.initial with cleanup := some t } } } := by
  rw [abandonJob_eq (u := (setAccess .none s).setStore store) target]
  have step := jobStep_cleans (s := ((setAccess .none s).setStore store).setJst { (setAccess .none s).jst with
    job := { Job.initial with cleanup := some t } }) (i := t) rfl rfl unmarked
  exact settle_jobStep_busy (follows.ready_of rfl rfl rfl rfl rfl rfl rfl rfl) step follows.service fun h => by cases h

end

/-- Settles O59: each end of a step leaves the job a next step (`pageReadTaken_plans`, `pageDone_eq`, `commitTarget_eq`,
`abandonJob_eq`), which takes the array (`settle_jobStep`). -/
theorem pagesAndCommitFollow : Obligations.PagesAndCommitFollow := by
  refine ⟨fun env s logic want queue service thawed alive whole => ?_,
    fun env t a b qt qa qb s logic want queue service thawed alive whole access target first second other unmarked => ?_,
    fun env composed a b s logic want queue service thawed alive whole access phase reading last pair => ?_,
    fun env t q s logic want queue service thawed alive whole target unmarked => ?_⟩
  · have follows : JobFollows s := ⟨running_of_logic logic, service, want, queue, thawed⟩
    have busy {a : Access} (access : s.jst.access = a) (taken : a ≠ .none) : s.jst.access ≠ .none := access ▸ taken
    refine ⟨fun composed access phase reading more => ?_, fun access phase => ?_,
      fun slots t q planned access target plan more => ?_, fun slots t q planned access target plan last => ?_⟩
    · have taken := (pageReadTaken_plans composed service phase reading).trans (planningRead_counts (by omega))
      rw [exec_pageReadEnd follows access taken service]
      have ready : JobReady (stepEnded { s.jst.job with pagesRead := s.jst.job.pagesRead + 1 } s) := follows.ready alive whole
      have step := jobStep_pass (s := stepEnded { s.jst.job with pagesRead := s.jst.job.pagesRead + 1 } s) phase reading
      rw [stepEnded_again _ access] at step
      exact congrArg Host.Outcome.next (settle_jobStep_busy ready step service (busy access (by decide)))
    · rw [exec_pageReadEnd follows access (pageReadTaken_copies true service phase) service]
      have ready : JobReady (stepEnded { s.jst.job with composed := true } s) := follows.ready alive whole
      have step := jobStep_programs (s := stepEnded { s.jst.job with composed := true } s) phase rfl
      exact congrArg Host.Outcome.next (settle_jobStep_busy ready step service fun h => by cases h)
    · rw [exec_pageProgramEnd follows access, if_pos rfl, pageDone_eq target plan, if_neg (by omega)]
      have step := jobStep_reads (s := (stepEnded { s.jst.job with
        pages := s.jst.job.pages + 1, composed := false, phase := .copy } s).setStore (withPage (jobPage s) t s)) rfl rfl
      exact congrArg Host.Outcome.next (settle_jobStep_busy (follows.ready_of rfl rfl rfl rfl rfl rfl alive whole) step service
        fun h => by cases h)
    · rw [exec_pageProgramEnd follows access, if_pos rfl, pageDone_eq target plan, if_pos (by omega)]
      have step := jobStep_commits (s := (stepEnded { s.jst.job with
        pages := s.jst.job.pages + 1, composed := false, phase := .commit } s).setStore (withPage (jobPage s) t s)) rfl
      exact congrArg Host.Outcome.next (settle_jobStep_busy (follows.ready_of rfl rfl rfl rfl rfl rfl alive whole) step service
        fun h => by cases h)
  · have follows : JobFollows s := ⟨running_of_logic logic, service, want, queue, thawed⟩
    rw [exec_commitMark follows access ((if_pos rfl).trans (commitTarget_eq target first second)) service]
    have step := jobStep_erases (s := committed t a b s) (i := a) (q := qa)
      (by rw [header_committed other]; exact unmarked) (.inl ⟨rfl, first⟩)
    exact congrArg Host.Outcome.next (settle_jobStep_busy (follows.ready_of rfl rfl rfl rfl rfl rfl alive whole) step service
      fun h => by cases h)
  · have follows : JobFollows s := ⟨running_of_logic logic, service, want, queue, thawed⟩
    intro slots chosen planned
    have taken := (pageReadTaken_plans composed service phase reading).trans (planningRead_last last pair)
    have ended := exec_pageReadEnd (env := env) follows access taken service
    rw [ended]
    refine ⟨fun i f few plan => ?_, fun few plan normal => ?_, fun k many next => ?_, fun many next normal cleanup => ?_⟩
    · rw [if_pos few]
      exact congrArg Host.Outcome.next (settle_pairChosen follows alive whole plan)
    · rw [if_pos few]
      exact congrArg Host.Outcome.next (settle_pairChosen_ends follows alive whole plan normal)
    · rw [if_neg (not_le.mpr many)]
      exact congrArg Host.Outcome.next (settle_pairPassed follows alive whole phase access next)
    · rw [if_neg (not_le.mpr many)]
      exact congrArg Host.Outcome.next (settle_pairPassed_ends follows alive whole phase next normal cleanup)
  · have follows : JobFollows s := ⟨running_of_logic logic, service, want, queue, thawed⟩
    intro abandoned
    refine ⟨fun slots access => ?_, fun access phase first => ?_, fun access second => ?_⟩
    · rw [exec_pageProgramEnd follows access, if_neg (by decide), putPage_eq _ target]
      refine congrArg Host.Outcome.next (settle_abandoned follows target ?_)
      rw [header_withPage (leftSlots (jobPage s) slots) t t s rfl]
      exact unmarked
    · have clear := commitClear_eq service
      rw [first] at clear
      rw [exec_commitMark follows access ((if_neg (by decide)).trans clear) service]
      have step := (jobStep_commits (s := stepEnded { s.jst.job with commitRetry := true } s) phase).trans
        (stepEnded_again { s.jst.job with commitRetry := true } access)
      exact congrArg Host.Outcome.next (settle_jobStep_busy (follows.ready alive whole) step service
        fun h => by cases access.symm.trans h)
    · have clear := commitClear_eq service
      rw [second, if_pos rfl] at clear
      have unserved : (abandonJob (setAccess .none s)).rqs.service = none := service
      rw [exec_commitMark follows access ((if_neg (by decide)).trans clear) unserved]
      exact congrArg Host.Outcome.next (settle_abandoned follows target unmarked)

end Sys2Proof.Machine

/-! The erases of a job and of a cleanup (R133, R139, R145): the segment they return, the trigger, and the end of SHORT
(R120). -/

namespace Sys2Proof.Machine

/-! ### The end of an erase -/

section
variable {left : EraseLeft} {env : Env} {i : Nat} {s : State}

/-- The state once an erase has ended and the segment is read back. -/
def eraseEnded (left : EraseLeft) (i : Nat) (s : State) : State :=
  (s.setStore (s.store.set i ((segAt s i).erasedTo left))).setJst { s.jst with
    access := .none
    status := s.jst.status.set i (if (segAt s i).erasedTo left = .erased then .blank else .outOfService) }

theorem endErase_ended (left : EraseLeft) (inStore : i < s.store.length) :
    endErase i left (setAccess .none s) = eraseEnded left i s :=
  endErase_eq (s := setAccess .none s) left inStore

theorem segAt_eraseEnded {k : Nat} (other : k ≠ i) : segAt (eraseEnded left i s) k = segAt s k := by
  simp only [segAt, eraseEnded, State.setJst_store, State.setStore_store, List.getD_eq_getElem?_getD, List.getElem?_set,
    if_neg (Ne.symm other)]

theorem exec_sourceEraseEnd (hr : running s = true) (access : s.jst.access = .sourceErase i) (inStore : i < s.store.length) :
    exec (.sourceEraseEnd left env) s = .next (settle env (sourceErased (eraseEnded left i s))) := by
  change execSourceEraseEnd left env s = _
  simp only [execSourceEraseEnd, done, hr, access, endErase_ended left inStore]

theorem exec_cleanupEraseEnd (hr : running s = true) (access : s.jst.access = .cleanupErase i)
    (inStore : i < s.store.length) : exec (.cleanupEraseEnd left env) s = .next (settle env (evaluateTrigger (settleShort
      (setJob { s.jst.job with cleanup := none } (eraseEnded left i s))))) := by
  change execCleanupEraseEnd left env s = _
  simp only [execCleanupEraseEnd, done, hr, access, endErase_ended left inStore]
  rfl

theorem sourceErased_first {s : State} (phase : s.jst.job.phase = .erase1) :
    sourceErased s = settleShort (setJob { s.jst.job with phase := .erase2 } s) := by
  simp only [sourceErased, phase]

theorem sourceErased_second {s : State} (phase : s.jst.job.phase = .erase2) :
    sourceErased s = evaluateTrigger (settleShort (endJob none s)) := by
  simp only [sourceErased, phase]

end

/-! ### The trigger at the end of the work (R120, R133) -/

section
variable {env : Env} {s : State}

theorem settleShort_allocates (want : s.jst.wantOpen = none) (short : s.jst.condition = .short)
    (plan : (planOpen s).isSome = true) : settleShort s = s.setJst { s.jst with condition := .normal } := by
  rw [settleShort_eq want, if_neg (not_not_intro short), if_pos plan]
  rfl

theorem settleShort_able (want : s.jst.wantOpen = none) (short : s.jst.condition = .short) (plan : planOpen s = none)
    (able : canFree s = true) : settleShort s = s := by
  rw [settleShort_eq want, if_neg (not_not_intro short), if_neg (by simp [plan]), if_pos able]

theorem settleShort_fills (want : s.jst.wantOpen = none) (short : s.jst.condition = .short) (plan : planOpen s = none)
    (unable : canFree s = false) : settleShort s = { s with jst := { s.jst with
      condition := .journalFull
      status := match openSeg s with
        | some j => s.jst.status.set j .full
        | none => s.jst.status } } := by
  rw [settleShort_eq want, if_neg (not_not_intro short), if_neg (by simp [plan]), if_neg (by simp [unable])] <;>
  rfl

/-- The work has ended, and nothing waits for the array. -/
structure WorkEnded (s : State) : Prop extends JobReady s where
  phase : s.jst.job.phase = .none
  cleanup : s.jst.job.cleanup = none

theorem WorkEnded.quiet (ended : WorkEnded s) : quiet s = true := by
  obtain ⟨⟨-, service, want, queue, -, -, -, whole⟩, phase, cleanup⟩ := ended
  simp [Machine.quiet, checkpointRests, service, want, queue, serviceRests, jobRests, whole, phase, cleanup]

theorem WorkEnded.triggers_iff (ended : WorkEnded s) (notFull : s.jst.condition ≠ .journalFull) :
    Triggers s ↔ s.eve.station = .active ∧ blankCount s ≤ 3 := by
  obtain ⟨⟨-, service, -, -, -, thawed, -, -⟩, phase, cleanup⟩ := ended
  have light : concluding s = false := by simp [concluding, service]
  exact ⟨fun ⟨active, _, _, few, _⟩ => ⟨active, few⟩,
    fun ⟨active, few⟩ => ⟨active, notFull, thawed, few, phase, cleanup, light⟩⟩

theorem WorkEnded.settle_rests (ended : WorkEnded s) (fails : ¬ Triggers s) :
    settle env (evaluateTrigger s) = kick env s := by
  rw [evaluateTrigger_rests fails, settle_quiet env ended.running ended.quiet]

section
variable (ended : WorkEnded s) (holds : Triggers s)
include ended holds

/-- Planning begins with the first candidate. -/
theorem WorkEnded.settle_plans {k : Nat} (pair : nextPair s 0 = some k) :
    settle env (evaluateTrigger s) = kick env (s.setJst { s.jst with
      access := .pageRead
      job := { Job.initial with phase := .planning, walkAt := k, reading := true } }) := by
  obtain ⟨⟨hr, service, want, queue, idle, thawed, alive, whole⟩, -, -⟩ := ended
  rw [evaluateTrigger_begins holds]
  have step := jobStep_pair (s := s.setJst { s.jst with job := { Job.initial with phase := .planning } }) rfl rfl pair
  exact settle_jobStep_busy ⟨hr, service, want, queue, idle, thawed, rfl, rfl⟩ step service fun h => by cases h

/-- With no candidate the job ends again. -/
theorem WorkEnded.settle_unpaired (normal : s.jst.condition ≠ .short) (pair : nextPair s 0 = none) :
    settle env (evaluateTrigger s) = kick env (s.setJst { s.jst with job := .initial }) := by
  obtain ⟨⟨hr, service, want, queue, idle, thawed, alive, whole⟩, -, -⟩ := ended
  rw [evaluateTrigger_begins holds]
  have step : jobStep (s.setJst { s.jst with job := { Job.initial with phase := .planning } }) =
      s.setJst { s.jst with job := .initial } :=
    (jobStep_unpaired (s := s.setJst { s.jst with job := { Job.initial with phase := .planning } }) rfl rfl pair).trans
      (settleShort_normal normal)
  exact settle_jobStep ⟨hr, service, want, queue, idle, thawed, rfl, rfl⟩ step
    (quiet_idle (s := s.setJst { s.jst with job := .initial }) service want queue rfl)

end

end

/-! ### The first erase of a job, and a job that ends in a SHORT store -/

section
variable {env : Env} {i b qb : Nat} {left : EraseLeft} {s : State}

/-- The store is full, and the job is over. -/
def filled (s : State) : State :=
  { s with jst := { s.jst with
    access := .none
    job := .initial
    condition := .journalFull
    status := match openSeg s with
      | some j => s.jst.status.set j .full
      | none => s.jst.status } }

theorem endJob_fills {s : State} (idle : s.jst.access = .none) (want : s.jst.wantOpen = none)
    (short : s.jst.condition = .short) (plan : planOpen s = none)
    (unable : canFree { s with jst := { s.jst with job := .initial } } = false) :
    settleShort (endJob none s) = filled s := by
  refine (settleShort_fills (s := endJob none s) want short plan unable).trans ?_
  rw [filled, ← idle]
  rfl

/-- The second source is erased after the first; the store condition has been settled before. -/
theorem exec_sourceEraseEnd_first {condition : StoreCondition} (follows : JobFollows s) (alive : s.jst.job.stopped = false)
    (whole : s.jst.job.suspended = none) (access : s.jst.access = .sourceErase i) (inStore : i < s.store.length)
    (phase : s.jst.job.phase = .erase1) (second : s.jst.job.second = some (b, qb)) (other : b ≠ i)
    (unmarked : (segAt s b).header.marked = false)
    (settled : settleShort (setJob { s.jst.job with phase := .erase2 } (eraseEnded left i s)) =
      (eraseEnded left i s).setJst { (eraseEnded left i s).jst with
        job := { s.jst.job with phase := .erase2 }
        condition := condition }) :
    exec (.sourceEraseEnd left env) s = .next (kick env ((eraseEnded left i s).setJst { (eraseEnded left i s).jst with
      status := (eraseEnded left i s).jst.status.set b .erasing
      access := .sourceErase b
      job := { s.jst.job with phase := .erase2 }
      condition := condition })) := by
  rw [exec_sourceEraseEnd follows.running access inStore, sourceErased_first (s := eraseEnded left i s) phase]
  refine congrArg Host.Outcome.next ((congrArg (settle env) settled).trans ?_)
  refine settle_jobStep_busy (follows.ready_of rfl rfl rfl rfl rfl rfl alive whole)
    (jobStep_erases ?_ (.inr ⟨rfl, second⟩)) follows.service fun h => by cases h
  exact (congrArg (fun g : Segment => g.header.marked) (segAt_eraseEnded other)).trans unmarked

end

/-- A program that showed nothing leaves the fields that stood. -/
theorem allocRead_same (i : Nat) (s : State) : allocRead (segAt s i).header.alloc i s = s.setJst (numberUsed s) := by
  have same : withAlloc (segAt s i).header.alloc i s = s.store := by
    by_cases inStore : i < s.store.length
    · rw [withAlloc, segAt, List.getD_eq_getElem _ _ inStore]
      exact List.set_getElem_self inStore
    · exact List.set_eq_of_length_le (by omega)
  rw [allocRead, same]
  rfl

theorem planTarget_unblank {s : State} (blank : nextBlank s = none) : planTarget s = none := by
  unfold planTarget
  rw [blank]
  split
  · contradiction
  · rfl

/-! ### The obligation -/

section
variable {command : Instr} {env : Env} {left : EraseLeft} {i : Nat} {s : State}

/-- The job's last erase, or a cleanup's, has ended in `ended`. -/
def EraseEnds (command : Instr) (left : EraseLeft) (env : Env) (i : Nat) (s ended : State) : Prop :=
  (command = .sourceEraseEnd left env ∧ s.jst.access = .sourceErase i ∧ s.jst.job.phase = .erase2 ∧
      ended = setJob .initial (eraseEnded left i s)) ∨
    (command = .cleanupEraseEnd left env ∧ s.jst.access = .cleanupErase i ∧ s.jst.job.phase = .none ∧
      ended = setJob { s.jst.job with cleanup := none } (eraseEnded left i s))

variable {ended : State} (ends : EraseEnds command left env i s ended)
include ends

theorem EraseEnds.exec (hr : running s = true) (inStore : i < s.store.length) :
    exec command s = .next (settle env (evaluateTrigger (settleShort ended))) := by
  obtain ⟨rfl, access, phase, rfl⟩ | ⟨rfl, access, -, rfl⟩ := ends
  · rw [exec_sourceEraseEnd hr access inStore, sourceErased_second (s := eraseEnded left i s) phase]
    rfl
  · exact exec_cleanupEraseEnd hr access inStore

theorem EraseEnds.workEnded (follows : JobFollows s) (alive : s.jst.job.stopped = false)
    (whole : s.jst.job.suspended = none) : WorkEnded ended := by
  obtain ⟨-, -, -, rfl⟩ | ⟨-, -, phase, rfl⟩ := ends
  · exact ⟨follows.ready_of rfl rfl rfl rfl rfl rfl rfl rfl, rfl, rfl⟩
  · exact ⟨follows.ready_of rfl rfl rfl rfl rfl rfl alive whole, phase, rfl⟩

theorem EraseEnds.same : ended.eve = s.eve ∧ ended.jst.condition = s.jst.condition := by
  obtain ⟨-, -, -, rfl⟩ | ⟨-, -, -, rfl⟩ := ends <;> exact ⟨rfl, rfl⟩

end

/-- The store condition changes, and the work is still ended. -/
theorem WorkEnded.settled {s : State} (ended : WorkEnded s) (condition : StoreCondition) (status : List SegStatus) :
    WorkEnded (s.setJst { s.jst with condition := condition, status := status }) := by
  obtain ⟨⟨hr, service, want, queue, idle, thawed, alive, whole⟩, phase, cleanup⟩ := ended
  exact ⟨⟨hr, service, want, queue, idle, thawed, alive, whole⟩, phase, cleanup⟩

theorem erases_return_normal (left : EraseLeft) (env : Env) (i : Nat) (s : State) (follows : JobFollows s)
    (alive : s.jst.job.stopped = false) (whole : s.jst.job.suspended = none) (normal : s.jst.condition = .normal)
    (inStore : i < s.store.length) (command : Instr) (ended : State) (ends : EraseEnds command left env i s ended)
    (many : s.eve.station = .active → 4 ≤ blankCount ended) : exec command s = .next (kick env ended) := by
  have work := ends.workEnded follows alive whole
  obtain ⟨eve, condition⟩ := ends.same
  have notShort : ended.jst.condition ≠ .short := fun short => by cases normal.symm.trans (condition.symm.trans short)
  have notFull : ended.jst.condition ≠ .journalFull := fun full => by cases normal.symm.trans (condition.symm.trans full)
  rw [ends.exec follows.running inStore, settleShort_normal notShort, work.settle_rests]
  rw [work.triggers_iff notFull, eve]
  exact fun ⟨active, few⟩ => absurd (many active) (by omega)

/-- Settles O60: the erase's end returns the segment (`endErase_ended`), the work that is over settles the store condition and
evaluates the trigger (`WorkEnded`), and the job's other ends settle a SHORT store too (`endJob_fills`). -/
theorem erasesReturnSegments : Obligations.ErasesReturnSegments := by
  refine ⟨fun left env i s logic want queue service thawed alive whole normal inStore => ?_,
    fun left env i s logic want queue service thawed alive whole inStore => ?_,
    fun left env i b qb s logic want queue service thawed alive whole short inStore access phase second other unmarked => ?_,
    fun env s logic want queue service thawed alive whole short => ?_⟩
  · intro after status many
    have follows : JobFollows s := ⟨running_of_logic logic, service, want, queue, thawed⟩
    have ordinary := erases_return_normal left env i s follows alive whole normal inStore
    refine ⟨fun b qb access phase second other unmarked => ?_, fun access phase => ?_, fun access phase => ?_⟩
    · refine exec_sourceEraseEnd_first (condition := s.jst.condition) follows alive whole access inStore phase second other
        unmarked ?_
      exact settleShort_normal fun short => by cases normal.symm.trans short
    · exact ordinary _ _ (.inl ⟨rfl, access, phase, rfl⟩) many
    · exact ordinary _ _ (.inr ⟨rfl, access, phase, rfl⟩) many
  · intro after erased command ended ends triggers
    have follows : JobFollows s := ⟨running_of_logic logic, service, want, queue, thawed⟩
    have ends : EraseEnds command left env i s ended := ends
    have work := ends.workEnded follows alive whole
    obtain ⟨eve, condition⟩ := ends.same
    have holds : triggers ↔ ended.eve.station = .active ∧ blankCount ended ≤ 3 := by rw [eve]
    have wanted : ended.jst.wantOpen = none := work.want
    have normalWork := work.settled .normal ended.jst.status
    have normalHolds := normalWork.triggers_iff fun h => by cases h
    rw [ends.exec follows.running inStore]
    refine ⟨fun short fails plan => ?_, fun short trig plan => ⟨fun k pair => ?_, fun pair => ?_⟩,
      fun short plan unable => ?_, fun k normal trig pair => ?_, fun normal trig pair => ?_⟩
    · rw [settleShort_allocates wanted (condition.trans short) plan]
      exact congrArg Host.Outcome.next (normalWork.settle_rests fun t => fails (holds.mpr (normalHolds.mp t)))
    · rw [settleShort_allocates wanted (condition.trans short) plan]
      exact congrArg Host.Outcome.next (normalWork.settle_plans (normalHolds.mpr (holds.mp trig)) pair)
    · rw [settleShort_allocates wanted (condition.trans short) plan]
      exact congrArg Host.Outcome.next (normalWork.settle_unpaired (normalHolds.mpr (holds.mp trig)) (fun h => by cases h) pair)
    · rw [settleShort_fills wanted (condition.trans short) plan unable]
      exact congrArg Host.Outcome.next ((work.settled .journalFull _).settle_rests fun ⟨_, full, _⟩ => full rfl)
    · have is : ended.jst.condition = .normal := condition.trans normal
      rw [settleShort_normal fun h => by cases is.symm.trans h]
      exact congrArg Host.Outcome.next (work.settle_plans
        ((work.triggers_iff fun h => by cases is.symm.trans h).mpr (holds.mp trig)) pair)
    · have is : ended.jst.condition = .normal := condition.trans normal
      rw [settleShort_normal fun h => by cases is.symm.trans h]
      exact congrArg Host.Outcome.next (work.settle_unpaired
        ((work.triggers_iff fun h => by cases is.symm.trans h).mpr (holds.mp trig)) (fun h => by cases is.symm.trans h) pair)
  · intro after status allocates next
    have follows : JobFollows s := ⟨running_of_logic logic, service, want, queue, thawed⟩
    have erases (condition : StoreCondition) := exec_sourceEraseEnd_first (condition := condition) (left := left) (env := env)
      follows alive whole access inStore phase second other unmarked
    refine ⟨fun plan => erases .normal ?_, fun plan => erases .short ?_⟩
    · exact settleShort_allocates (s := setJob { s.jst.job with phase := .erase2 } (eraseEnded left i s)) want short plan
    · refine (settleShort_able (s := setJob { s.jst.job with phase := .erase2 } (eraseEnded left i s)) want short plan ?_).trans ?_
      · simp [canFree, setJob, alive]
      · rw [← short]
        rfl
  · intro full
    have follows : JobFollows s := ⟨running_of_logic logic, service, want, queue, thawed⟩
    have rests : quiet (full s) = true := quiet_idle (s := full s) service want queue rfl
    refine ⟨fun composed a b access phase reading last cleanup pair plan unable => ?_,
      fun result i f a access phase results => ?_⟩
    · intro slots which
      have taken := (pageReadTaken_plans composed service phase reading).trans (planningRead_last last pair)
      rw [exec_pageReadEnd follows access taken (by exact service)]
      refine congrArg Host.Outcome.next (settle_jobStep (follows.ready ?_ ?_) ?_ rests)
      · split_ifs <;> exact alive
      · split_ifs <;> exact whole
      · obtain ⟨large, next⟩ | ⟨fits, blank⟩ := which
        · rw [if_neg (by exact Nat.not_le_of_lt large)]
          refine (jobStep_unpaired (s := stepEnded (pairPassed s) s) phase rfl next).trans ?_
          rw [show (stepEnded (pairPassed s) s).jst.job.cleanup = none from cleanup]
          exact endJob_fills (s := stepEnded (pairPassed s) s) rfl want short plan unable
        · rw [if_pos (by exact fits)]
          have target : planTarget (stepEnded (pairChosen a b s) s) = none :=
            planTarget_unblank (s := stepEnded (pairChosen a b s) s) blank
          refine (jobStep_unallocated (s := stepEnded (pairChosen a b s) s) rfl target).trans ?_
          exact endJob_fills (s := stepEnded (pairChosen a b s) s) rfl want short plan unable
    · intro failed target plan unable
      have unawaited : jobAwaited s = false := follows.unawaited
      have fails : exec (.allocationProgramEnd result env) s = .next (settle env (setAccess .none failed)) := by
        obtain ⟨shown, rfl, rfl⟩ | ⟨rfl, rfl⟩ := results
        · rw [exec_allocation_part follows.running access, afterJobStep_other env (by exact unawaited)]
          rfl
        · rw [exec_allocation_nothing follows.running access, afterJobStep_other env (by exact unawaited),
            ← allocRead_same]
          rfl
      rw [fails]
      refine congrArg Host.Outcome.next (settle_jobStep (follows.ready_of rfl rfl rfl rfl rfl rfl alive whole) ?_
        (quiet_idle (s := full failed) service want queue rfl))
      refine (jobStep_unallocated (s := setAccess .none failed) phase target).trans ?_
      exact endJob_fills (s := setAccess .none failed) rfl want short plan unable

end Sys2Proof.Machine

/-! The lock marks of a conclusion and the CONCLUDED station (R160): the array's turn with a lock mark due, the end of a
lock mark's program, and the state after the last live segment. -/

namespace Sys2Proof.Machine

/-! ### The lock mark's turn -/

section
variable {env : Env} {s t : State} {reader : PartyId} {tag : List Byte} {step : ConcludeStep} {f : FinalFigures}
  {recorded again : Bool} {tried : List Nat} {locked failed i : Nat}

/-- With a conclusion in service and no entry waiting, the marks alone take the array. -/
theorem turn_conclusion (service : s.rqs.service = some (.conclude reader tag step)) (want : s.jst.wantOpen = none)
    (queue : s.jst.queue = []) (marked : markStage s = t) (stopped : clearForJob t = false) : turn env s = t := by
  have staged : checkpointStage s = s := by simp [checkpointStage, service]
  have reads (first : Bool) : readStage first s = s := by simp [readStage, service]
  rw [turn, staged, openStage_unasked want, reads, ite_self, headStage_empty queue, reads, marked, jobStage, stopped]
  rfl

section
variable (service : s.rqs.service = some (.conclude reader tag (.locking f recorded tried again locked failed)))
  (hr : running s = true) (want : s.jst.wantOpen = none) (queue : s.jst.queue = []) (idle : s.jst.access = .none)
include service hr want queue idle

theorem settle_locks (next : nextLock s tried = some i) : settle env s = kick env (setAccess (.lockMark i) s) := by
  have isFree := (arrayFree_iff s).mpr idle
  have marked : markStage s = setAccess (.lockMark i) s := by simp only [markStage, isFree, if_true, service, next]
  have busy : (setAccess (.lockMark i) s).jst.access ≠ .none := fun h => by cases h
  have turned : turn env s = setAccess (.lockMark i) s :=
    turn_conclusion service want queue marked (by simp [clearForJob, serviceClear, setAccess, service])
  have rests : checkpointRests (setAccess (.lockMark i) s) = true := by simp [checkpointRests, setAccess, service]
  rw [settle, if_pos hr, turned, turn_quiet env (quiet_busy busy rests)]

/-- After the last live segment the station concludes, and the frozen store leaves the array idle. -/
theorem settle_concludes (frozen : s.jst.frozen = true) (next : nextLock s tried = none)
    (concluded : becomeConcluded reader f recorded locked failed s = t) (free : t.rqs.service = none)
    (unwanted : t.jst.wantOpen = none) (emptied : t.jst.queue = []) (still : t.jst.frozen = true) :
    settle env s = kick env t := by
  have isFree := (arrayFree_iff s).mpr idle
  have marked : markStage s = t := by simp only [markStage, isFree, if_true, service, next, concluded]
  have stopped : clearForJob t = false := by simp [clearForJob, still]
  have turned : turn env s = t := turn_conclusion service want queue marked stopped
  have rests : quiet t = true := by simp [quiet, checkpointRests, free, unwanted, emptied, serviceRests, jobRests, stopped]
  rw [settle, if_pos hr, turned, turn_quiet env rests]

end

/-! ### The end of a lock mark's program -/

/-- The next step of a conclusion whose lock mark reads so. -/
def lockCounted (set : Bool) (f : FinalFigures) (recorded : Bool) (tried : List Nat) (again : Bool) (locked failed i : Nat) :
    ConcludeStep :=
  if set then .locking f recorded (tried ++ [i]) false (locked + 1) failed
  else if again then .locking f recorded (tried ++ [i]) false locked (failed + 1)
  else .locking f recorded tried true locked failed

/-- The store with the mark as it reads, and the array free. -/
def lockRead (set : Bool) (i : Nat) (s : State) : State :=
  (s.setStore (s.store.set i ⟨{ (segAt s i).header with lock := set }, (segAt s i).slots⟩)).setJst
    { s.jst with access := .none }

theorem lockRead_again {set : Bool} {service : Option Service} (access : s.jst.access = .lockMark i) :
    setAccess (.lockMark i) (setService service (lockRead set i s)) = setService service
      (s.setStore (s.store.set i ⟨{ (segAt s i).header with lock := set }, (segAt s i).slots⟩)) := by
  rw [← access]
  rfl

theorem exec_lockMark (set : Bool) (hr : running s = true) (access : s.jst.access = .lockMark i)
    (service : s.rqs.service = some (.conclude reader tag (.locking f recorded tried again locked failed))) :
    exec (.lockMarkProgrammed set env) s = .next (settle env (setService
      (some (.conclude reader tag (lockCounted set f recorded tried again locked failed i))) (lockRead set i s))) := by
  change execLockMarkProgrammed set env s = _
  simp only [execLockMarkProgrammed, done, hr, access, service]
  unfold lockCounted
  split_ifs <;> rfl

/-! ### The CONCLUDED station -/

theorem closeOpen_eq : closeOpen s = s.setJst { s.jst with
    status := match openSeg s with
      | some j => s.jst.status.set j .full
      | none => s.jst.status } := by
  unfold closeOpen
  cases openSeg s <;> rfl

theorem concluded_halts (r : Retention) : r.concluded = { r with
    schedule := .stopped
    countdown := if r.countdown.isCounting = true then .halted else r.countdown } := by
  obtain ⟨schedule, epoch, quarter, position, countdown, restarts, cause, stopped, first⟩ := r
  cases countdown <;> rfl

theorem becomeConcluded_replied : becomeConcluded reader f recorded locked failed s = replied reader
    (.conclude f recorded locked failed) { s with
      ret := { s.ret with
        schedule := .stopped
        countdown := if s.ret.countdown.isCounting = true then .halted else s.ret.countdown }
      tmb := { s.tmb with stall := none }
      chc := s.chc.conclude
      eve := { s.eve with
        station := .concluded
        committedExposure := if s.cmr.figureWhole 2 = true then s.cmr.number 55 4 else s.eve.committedExposure
        committedDrawn := if s.cmr.figureWhole 3 = true then s.cmr.number 59 2 else s.eve.committedDrawn
        lastVerdict := s.eve.lastVerdict.higher f.verdict
        inputs := [] }
      jst := { s.jst with
        status := match openSeg s with
          | some j => s.jst.status.set j .full
          | none => s.jst.status }
      rqs := { s.rqs with service := none } } := by
  rw [becomeConcluded_eq, closeOpen_eq, ← sendReply_eq, complete, concludeBlocks]
  refine congrArg (sendReply reader _) ?_
  simp only [State.setJst_ret, concluded_halts]
  rfl

theorem conclude_frame (c : Chc) : c.conclude.queue = c.queue.filter (fun x => !x.isNote) ∧ c.conclude.schedule = .none ∧
    c.conclude.content = none ∧ c.conclude.hold = c.hold := by
  unfold Chc.conclude
  dsimp only
  split <;> exact ⟨rfl, rfl, rfl, rfl⟩

end

/-- Settles O55: a lock mark's end (`exec_lockMark`) leaves the next one due (`settle_locks`), or the station concluded
(`settle_concludes`). -/
theorem lastLockMarkConcludes : Obligations.LastLockMarkConcludes := by
  intro set env i locked failed reader tag f recorded again tried s logic want queue access frozen service s'
  have hr := running_of_logic logic
  have locks {f' : FinalFigures} {recorded' again' : Bool} {tried' : List Nat} {locked' failed' j : Nat} (step : ConcludeStep)
      (is : step = .locking f' recorded' tried' again' locked' failed') (next : nextLock s' tried' = some j) :
      settle env (setService (some (.conclude reader tag step)) (lockRead set i s)) =
        kick env (setAccess (.lockMark j) (setService (some (.conclude reader tag step)) (lockRead set i s))) := by
    subst is
    exact settle_locks (s := setService (some (.conclude reader tag (.locking f' recorded' tried' again' locked' failed')))
      (lockRead set i s)) rfl hr want queue rfl next
  rw [exec_lockMark set hr access service]
  refine ⟨fun j isSet next => ?_, fun j clear second next => ?_, fun clear first next => ?_, fun ended next => ?_,
    conclude_frame s.chc⟩
  · subst isSet
    exact congrArg Host.Outcome.next (locks _ rfl next)
  · subst clear second
    exact congrArg Host.Outcome.next (locks _ rfl next)
  · subst clear first
    refine congrArg Host.Outcome.next ((locks (.locking f recorded tried true locked failed) rfl next).trans ?_)
    rw [lockRead_again access]
    rfl
  · have step : lockCounted set f recorded tried again locked failed i = .locking f recorded (tried ++ [i]) false
        (if set = true then locked + 1 else locked) (if set = true then failed else failed + 1) := by
      obtain rfl | rfl := ended
      · rfl
      · cases set <;> rfl
    rw [step]
    exact congrArg Host.Outcome.next (settle_concludes (s := setService
      (some (.conclude reader tag (.locking f recorded (tried ++ [i]) false _ _))) (lockRead set i s)) rfl hr want queue rfl
      frozen next becomeConcluded_replied rfl want queue frozen)

end Sys2Proof.Machine

/-! The end of an entry program (R117, R118): what the attempt leaves in the segment, the fate of the head, the entry that
follows it, and the freezing of the store (R122). -/

namespace Sys2Proof.Machine

/-! ### What an attempt leaves -/

section
variable {env : Env} {ok void1 void2 : Bool} {i n : Nat} {x : Entry} {rest : List Entry} {slots : List Slot} {s t : State}

/-- The state once an attempt has ended with these slots, the array free. -/
def attempted (slots : List Slot) (i n : Nat) (s : State) : State :=
  (s.setStore (s.store.set i ((segAt s i).put n slots))).setJst { s.jst with access := .none }

/-- The head has left the queue. -/
def headGone (rest : List Entry) (s : State) : State := s.setJst { s.jst with queue := rest, secondTry := false }

theorem entryFailed_last (second : s.jst.secondTry = true) : entryFailed x s = settleHead false x s :=
  if_pos (by simp [second])

theorem entryFailed_first (first : s.jst.secondTry = false) (thawed : s.jst.frozen = false) :
    entryFailed x s = s.setJst { s.jst with secondTry := true } :=
  if_neg (by simp [first, thawed])

section
variable (hr : running s = true) (access : s.jst.access = .entry i n) (queue : s.jst.queue = x :: rest)
include hr access queue

theorem exec_entryProgramEnd_settled (last : ok = true ∨ s.jst.secondTry = true) :
    exec (.entryProgramEnd ok void1 void2 env) s = .next (settle env (reportFate ok x (headGone rest
      (attempted (if ok = true then x.slots else voidSlots x void1 void2) i n s)))) := by
  change execEntryProgramEnd ok void1 void2 env s = _
  simp only [execEntryProgramEnd, done, hr, access, queue]
  have rest' : rest = s.jst.queue.tail := by rw [queue]; rfl
  subst rest'
  cases ok with
  | true => rfl
  | false =>
    have second : s.jst.secondTry = true := last.resolve_left Bool.false_ne_true
    exact congrArg (Host.Outcome.next ∘ settle env) (entryFailed_last second)

/-- After its first failure the entry is still the head. -/
theorem exec_entryProgramEnd_again (first : s.jst.secondTry = false) (thawed : s.jst.frozen = false) :
    exec (.entryProgramEnd false void1 void2 env) s = .next (settle env ((attempted (voidSlots x void1 void2) i n s).setJst
      { (attempted (voidSlots x void1 void2) i n s).jst with secondTry := true })) := by
  change execEntryProgramEnd false void1 void2 env s = _
  simp only [execEntryProgramEnd, done, hr, access, queue]
  exact congrArg (Host.Outcome.next ∘ settle env) (entryFailed_first first thawed)

end

/-! ### The entry that follows (R115, R116) -/

/-- What the array takes up with these entries waiting, each of which fits the OPEN segment. -/
def NextHead (rest : List Entry) (access : Access) (s : State) : Prop :=
  rest = [] ∧ access = .none ∨ ∃ y more k, rest = y :: more ∧ openSeg s = some k ∧
    (segAt s k).slots.length + 1 + y.size ≤ 127 ∧ access = .entry k ((segAt s k).slots.length + 1)

theorem settle_nextHead {access : Access} (hr : running s = true) (idle : s.jst.access = .none) (want : s.jst.wantOpen = none)
    (service : s.rqs.service = none) (job : s.jst.job = .initial) (next : NextHead s.jst.queue access s) :
    settle env s = kick env (setAccess access s) := by
  obtain ⟨queue, rfl⟩ | ⟨y, more, k, queue, opened, room, rfl⟩ := next
  · rw [settle_quiet env hr (quiet_idle service want queue job), ← idle]
    rfl
  · exact settle_programs hr idle want service queue opened ((fits_iff _ _).mpr room)

/-- An entry whose first attempt has failed takes the array before any read. -/
theorem settle_again (hr : running s = true) (staged : checkpointStage s = s) (want : s.jst.wantOpen = none)
    (again : s.jst.secondTry = true) (head : headStage s = t) (busy : t.jst.access ≠ .none)
    (rests : checkpointRests t = true) : settle env s = kick env t := by
  have turned : turn env s = t := by
    rw [turn, staged, openStage_unasked want, again, Bool.not_true, Bool.and_false, if_neg Bool.false_ne_true, head,
      readStage_busy _ busy, markStage_busy busy, jobStage_busy busy]
  rw [settle, if_pos hr, turned, turn_quiet env (quiet_busy busy rests)]

/-! ### The fates of the blocks (R65, R99, R100) -/

theorem settleLeg_turnover {e : LegEntry} (turnover : s.ptb.turnover = some ⟨e.leg, e.start, e.founders⟩) :
    settleLeg e ok s = s.setPtb (if ok = true
      then { s.ptb with leg := some e.leg, founders := e.founders, turnover := none }
      else { s.ptb with turnover := none }) := by
  unfold settleLeg
  rw [turnover]
  cases ok <;> exact if_pos rfl

theorem settleLeg_other {e : LegEntry} (turnover : s.ptb.turnover = none) : settleLeg e ok s = s := by
  simp only [settleLeg, turnover]

/-! ### Freezing (R122) -/

/-- A refused entry's block: a coverage entry goes on the work list, a LEG entry may end its turnover. -/
theorem blockFate_refuses (noRun : ∀ r, x ≠ .run r) : ∃ p, p.leg = s.ptb.leg ∧
    blockFate false x s = (s.setPtb p).setEve { s.eve with work := s.eve.work ++ lateRefusals [x] } := by
  cases x with
  | run r => exact absurd rfl (noRun r)
  | epoch | gap => exact ⟨s.ptb, rfl, rfl⟩
  | leg e =>
    have ended : ∃ p, p.leg = s.ptb.leg ∧ settleLeg e false s = s.setPtb p := by
      unfold settleLeg
      split
      · split
        · exact ⟨{ s.ptb with turnover := none }, rfl, rfl⟩
        · exact ⟨s.ptb, rfl, rfl⟩
      · exact ⟨s.ptb, rfl, rfl⟩
    obtain ⟨p, leg, same⟩ := ended
    exact ⟨p, leg, same.trans (setEve_noWork (s.setPtb p)).symm⟩
  | door | checkpoint | conclude => exact ⟨s.ptb, rfl, (setEve_noWork s).symm⟩

theorem blockFate_refuses_all : ∀ (es : List Entry) {s : State}, (∀ r, Entry.run r ∉ es) →
    ∃ p, p.leg = s.ptb.leg ∧ es.foldl (fun s e => blockFate false e s) s =
      (s.setPtb p).setEve { s.eve with work := s.eve.work ++ lateRefusals es }
  | [], s, _ => ⟨s.ptb, rfl, by simp [lateRefusals, State.setEve, State.setPtb]⟩
  | e :: es, s, noRun => by
    obtain ⟨p, leg, first⟩ := blockFate_refuses (s := s) fun r h => noRun r (h ▸ .head _)
    obtain ⟨q, leg', others⟩ := blockFate_refuses_all es (s := (s.setPtb p).setEve _) fun r h => noRun r (.tail _ h)
    exact ⟨q, leg'.trans leg, by
      rw [List.foldl_cons, first, others, lateRefusals_cons e es]
      simp [State.setEve, State.setPtb]⟩

/-- The frozen store keeps these entries, and the others are refused. -/
theorem freeze_eq {kept refused : List Entry} (keeps : (if programmingEntry s then s.jst.queue.take 1 else []) = kept)
    (refuses : (if programmingEntry s then s.jst.queue.tail else s.jst.queue) = refused) (noRun : ∀ r, Entry.run r ∉ refused) :
    ∃ p, p.leg = s.ptb.leg ∧ freeze s = ((s.setJst { s.jst with queue := kept, frozen := true }).setPtb p).setEve
      { s.eve with work := s.eve.work ++ lateRefusals refused } := by
  obtain ⟨p, leg, frozen⟩ := blockFate_refuses_all refused (s := s.setJst { s.jst with queue := kept, frozen := true }) noRun
  refine ⟨p, leg, ?_⟩
  subst keeps refuses
  exact frozen

theorem freeze_empty (idle : s.jst.access = .none) (queue : s.jst.queue = []) :
    freeze s = s.setJst { s.jst with queue := [], frozen := true } := by
  have none : programmingEntry s = false := by simp [programmingEntry, idle]
  simp only [freeze, none, queue, Bool.false_eq_true, if_false, List.foldl_nil]

end

/-! ### A conclusion's entry (R159, R160) -/

theorem nextLock_congr {s t : State} (span : ∀ j, (segAt t j).span = (segAt s j).span)
    (live : ∀ j, (statusAt t j).live = (statusAt s j).live) (tried : List Nat) : nextLock t tried = nextLock s tried := by
  unfold nextLock liveMap
  simp only [span, live]

theorem span_attempted (slots : List Slot) (i n j : Nat) (s : State) :
    (segAt (attempted slots i n s) j).span = (segAt s j).span := by
  unfold attempted segAt
  simp only [State.setStore_store, State.setJst_store, List.getD_eq_getElem?_getD, List.getElem?_set]
  split_ifs with same inside
  · subst same
    simp only [inside, List.getElem?_eq_getElem, Option.getD_some]
    rfl
  · subst same
    rw [List.getElem?_eq_none (by omega)]
  · rfl

/-! ### The obligation -/

section
variable {env : Env} {ok void1 void2 : Bool} {i n k : Nat} {x : Entry} {rest : List Entry} {s : State}

section
variable (hr : running s = true) (access : s.jst.access = .entry i n) (queue : s.jst.queue = x :: rest)
include hr access queue

/-- An entry that is programmed again follows its first failure at once. -/
theorem exec_entry_again (want : s.jst.wantOpen = none) (first : s.jst.secondTry = false) (thawed : s.jst.frozen = false)
    (light : s.rqs.service = none ∨ ∃ c asked, s.rqs.service = some (.fragment c asked none none))
    {a : Access} (busy : a ≠ .none)
    (head : headStage ((attempted (voidSlots x void1 void2) i n s).setJst
        { (attempted (voidSlots x void1 void2) i n s).jst with secondTry := true }) =
      (attempted (voidSlots x void1 void2) i n s).setJst
        { (attempted (voidSlots x void1 void2) i n s).jst with access := a, secondTry := true }) :
    exec (.entryProgramEnd false void1 void2 env) s =
      .next (kick env ((attempted (voidSlots x void1 void2) i n s).setJst
        { (attempted (voidSlots x void1 void2) i n s).jst with access := a, secondTry := true })) := by
  rw [exec_entryProgramEnd_again hr access queue first thawed]
  have staged (u : State) (rqs : u.rqs = s.rqs) : checkpointStage u = u ∧ checkpointRests u = true := by
    obtain service | ⟨c, asked, service⟩ := light <;> simp [checkpointStage, checkpointRests, rqs, service]
  exact congrArg Host.Outcome.next (settle_again hr (staged _ (by rfl)).1 want rfl head busy (staged _ (by rfl)).2)

theorem entry_programmed_again (want : s.jst.wantOpen = none) (first : s.jst.secondTry = false)
    (thawed : s.jst.frozen = false) (opened : openSeg s = some k)
    (light : s.rqs.service = none ∨ ∃ c asked, s.rqs.service = some (.fragment c asked none none)) :
    let voided := attempted (voidSlots x void1 void2) i n s
    let fill := (segAt voided k).slots.length + 1
    let again (access : Access) : State := voided.setJst { voided.jst with access := access, secondTry := true }
    (fill + x.size ≤ 127 →
      exec (.entryProgramEnd false void1 void2 env) s = .next (kick env (again (.entry k fill)))) ∧
    (∀ j f, 127 < fill + x.size → planOpen voided = some (j, f) →
      exec (.entryProgramEnd false void1 void2 env) s = .next (kick env (again (.alloc .rollover j f)))) := by
  intro voided fill again
  refine ⟨fun room => ?_, fun j f full plan => ?_⟩
  · refine exec_entry_again hr access queue want first thawed light (a := .entry k fill) (fun h => by cases h) ?_
    exact headStage_fits (s := voided.setJst { voided.jst with secondTry := true }) queue rfl opened ((fits_iff _ _).mpr room)
  · refine exec_entry_again hr access queue want first thawed light (a := .alloc .rollover j f) (fun h => by cases h) ?_
    refine (headStage_rollover (s := voided.setJst { voided.jst with secondTry := true }) queue rfl fun b found => ?_).trans ?_
    · have same : b = k := Option.some.inj (found.symm.trans opened)
      subst same
      refine Bool.eq_false_iff.mpr fun fits => absurd ((fits_iff _ _).mp fits) ?_
      exact Nat.not_le_of_lt full
    · have plan' : planOpen (voided.setJst { voided.jst with secondTry := true }) = some (j, f) := plan
      rw [rollover, plan']
      rfl

end

end

/-- Settles O56: the end of the program leaves the attempt's slots (`exec_entryProgramEnd_settled`), the head's fate goes to
its block, and the next head follows (`settle_nextHead`); a frozen store refuses what waits (`freeze_eq`). -/
theorem entryProgramEndReports : Obligations.EntryProgramEndReports := by
  refine ⟨fun void1 void2 env i n x rest s logic light access queue => ?_,
    fun void1 void2 env i n x rest s logic light access queue => ?_,
    fun void1 void2 env i n k x rest s logic access queue want first thawed opened service => ?_,
    fun ok void1 void2 env i n x rest access s logic inProgress queue want job last => ?_, fun s noRun => ?_⟩
  · intro written
    have stored := exec_entryProgramEnd_settled (env := env) (ok := true) (void1 := void1) (void2 := void2)
      (running_of_logic logic) access queue (.inl rfl)
    refine ⟨fun e is => ?_, fun e is => ?_, fun e is turnover => ?_, fun e is => ?_⟩ <;> subst is <;> refine ⟨_, stored, ?_⟩
    · refine Ends.settled ?_ env light
      exact ends_of_jst (by rfl) (by rfl) light
    · refine Ends.settled ?_ env light
      exact ends_of_jst (by rfl) (by rfl) light
    · have leg : reportFate true (.leg e) (headGone rest (attempted (Entry.leg e).slots i n s)) = _ :=
        settleLeg_turnover (ok := true) (s := headGone rest (attempted (Entry.leg e).slots i n s)) turnover
      rw [if_pos rfl, leg]
      refine Ends.settled ?_ env light
      exact ends_of_jst (by rfl) (by rfl) light
    · refine Ends.settled ?_ env light
      exact ends_of_jst (by rfl) (by rfl) light
  · intro slot voided
    have hr := running_of_logic logic
    refine ⟨fun first thawed => ?_, fun e is second => ?_⟩
    · refine ⟨_, exec_entryProgramEnd_again hr access queue first thawed, ?_⟩
      refine Ends.settled ?_ env light
      exact ends_of_jst (by rfl) (by rfl) light
    · subst is
      refine ⟨_, exec_entryProgramEnd_settled hr access queue (.inr second), ?_⟩
      refine Ends.settled ?_ env light
      exact ends_of_jst (by rfl) (by rfl) light
  · exact entry_programmed_again (running_of_logic logic) access queue want first thawed opened service
  · intro slot slots store next left late ended
    have hr := running_of_logic logic
    have runs := exec_entryProgramEnd_settled (env := env) (ok := ok) (void1 := void1) (void2 := void2) hr inProgress queue last
    have next : NextHead rest access (headGone rest (attempted slots i n s)) := next
    have follows {u : State} (fate : reportFate ok x (headGone rest (attempted slots i n s)) = u) (hr : running u = true)
        (idle : u.jst.access = .none) (want : u.jst.wantOpen = none) (service : u.rqs.service = none)
        (job : u.jst.job = .initial) (next : NextHead u.jst.queue access u) : ended (setAccess access u) := by
      refine runs.trans (congrArg Host.Outcome.next ((congrArg (settle env) fate).trans ?_))
      exact settle_nextHead hr idle want service job next
    refine ⟨fun service => ⟨fun e is good => ?_, fun e is good => ?_, fun e is bad => ?_, fun e is bad => ?_,
      fun e is turnover => ?_, fun e is turnover => ?_, fun e is => ?_⟩,
      fun c reader number epoch verdict exposure newly failed is service => ?_,
      fun c reader tag f j is emptied service due => ?_⟩
    · subst is good
      exact follows rfl hr rfl want service job next
    · subst is good
      exact follows rfl hr rfl want service job next
    · subst is bad
      exact follows rfl hr rfl want service job next
    · subst is bad
      exact follows rfl hr rfl want service job next
    · subst is
      have leg := follows (settleLeg_turnover (s := headGone rest (attempted slots i n s)) turnover) hr rfl want service job next
      refine leg.trans ?_
      split_ifs <;> rfl
    · subst is
      exact follows (settleLeg_other (s := headGone rest (attempted slots i n s)) turnover) hr rfl want service job next
    · subst is
      exact follows rfl hr rfl want service job next
    · subst is
      have fate : reportFate ok (.checkpoint c) (headGone rest (attempted slots i n s)) =
          replied reader (.checkpoint number epoch verdict exposure ok newly failed)
            (setService none (headGone rest (attempted slots i n s))) := by
        have service' : (headGone rest (attempted slots i n s)).rqs.service =
          some (.checkpoint reader number epoch (.entry verdict exposure newly failed)) := service
        simp only [reportFate, checkpointFate, service', complete]
        exact sendReply_eq ..
      exact follows fate hr rfl want rfl job next
    · subst is emptied
      have fate : reportFate ok (.conclude c) (headGone [] (attempted slots i n s)) =
          (setService (some (.conclude reader tag (.locking f ok [] false 0 0))) (headGone [] (attempted slots i n s))).setJst
            { (headGone [] (attempted slots i n s)).jst with queue := [], frozen := true } := by
        have service' : (headGone [] (attempted slots i n s)).rqs.service = some (.conclude reader tag (.entry f)) := service
        simp only [reportFate, concludeFate, service']
        exact freeze_empty rfl rfl
      refine runs.trans (congrArg Host.Outcome.next ((congrArg (settle env) fate).trans ?_))
      refine settle_locks (s := (setService (some (.conclude reader tag (.locking f ok [] false 0 0)))
        (headGone [] (attempted slots i n s))).setJst
          { (headGone [] (attempted slots i n s)).jst with queue := [], frozen := true }) rfl hr want rfl rfl ?_
      exact (nextLock_congr (span_attempted slots i n · s) (fun _ => rfl) []).trans due
  · intro frozen
    refine ⟨fun idle => ?_, fun busy => ?_⟩
    · obtain ⟨p, leg, same⟩ := freeze_eq (s := s) (kept := []) (refused := s.jst.queue) (by rw [idle] <;> rfl) (by rw [idle] <;> rfl) noRun
      rw [same]
      exact ⟨rfl, rfl, rfl, rfl, rfl, rfl, leg⟩
    · obtain ⟨p, leg, same⟩ := freeze_eq (s := s) (kept := s.jst.queue.take 1) (refused := s.jst.queue.tail) (by rw [busy] <;> rfl)
        (by rw [busy] <;> rfl) fun r h => noRun r (List.mem_of_mem_tail h)
      rw [same]
      exact ⟨rfl, rfl, rfl, rfl, rfl, rfl, leg⟩

end Sys2Proof.Machine

/-! The programs of a conclusion (R157 to R159, R165): its mark, its five figures, the verdict marks that come between them,
and the offer of its entry. -/

namespace Sys2Proof.Machine

/-! ### Bytes programmed over erased ones (R105, R181) -/

section
variable {m : Memory} {a : Nat}

theorem Memory.readBytes_succ (m : Memory) (a n : Nat) :
    Memory.readBytes m a (n + 1) = Memory.read m a :: Memory.readBytes m (a + 1) n := by
  simp only [Memory.readBytes, List.range_succ_eq_map, List.map_cons, List.map_map, Nat.add_zero]
  refine congrArg _ (List.map_congr_left fun i _ => ?_)
  simp only [Function.comp_apply, Nat.succ_eq_add_one, Nat.add_comm 1 i, Nat.add_assoc]

/-- A program without a missed bit over erased bytes leaves the bytes as composed. -/
theorem Memory.readBytes_programBytes (vs : List Byte) : ∀ {m : Memory} {a : Nat} {miss : List Byte}, m.wf = true →
    (∀ b ∈ miss, b = 0) → (∀ k, k < vs.length → Memory.read m (a + k) = 0xFF) →
    Memory.readBytes (m.programBytes a vs miss) a vs.length = vs := by
  induction vs with
  | nil => exact fun _ _ _ => rfl
  | cons v vs ih =>
    intro m a miss wf zero erased
    have wf' := Memory.program_wf wf a v (miss.headD 0)
    have none : miss.headD 0 = 0 := by
      cases miss with
      | nil => rfl
      | cons b miss => exact zero b (.head _)
    have first : Memory.read (m.program a v (miss.headD 0)) a = v := by
      have blank : Memory.read m a = BitVec.allOnes 8 := erased 0 (Nat.succ_pos _)
      rw [Memory.read_program wf, if_pos rfl, blank, none, BitVec.allOnes_and]
      exact BitVec.or_zero
    rw [List.length_cons, Memory.readBytes_succ, Memory.programBytes,
      Memory.read_programBytes_outside vs _ wf' (.inl (Nat.lt_succ_self a)), first]
    refine congrArg _ (ih wf' (fun b mem => zero b (List.mem_of_mem_tail mem)) fun k small => ?_)
    rw [Memory.read_program wf, if_neg (by omega)]
    have := erased (k + 1) (by simpa using small)
    rwa [show a + (k + 1) = a + 1 + k by omega] at this

theorem beBytes_zero (w : Nat) : ∀ b ∈ beBytes w 0, b = 0 := by
  induction w with
  | zero => exact fun b mem => by cases mem
  | succ w ih =>
    intro b mem
    obtain old | new := List.mem_append.mp mem
    · exact ih b old
    · exact (List.mem_singleton.mp new).trans rfl

/-! ### The figures-done byte (R185) -/

theorem figure_below {f : FinalFigures} {i : Nat} (small : i < 5) :
    figureAddress i + (f.bytes i).length ≤ doneAddress := by
  have bytes : (f.bytes i).length ≤ figureWidth i := by
    match i with
    | 0 =>
      unfold FinalFigures.bytes
      cases f.epoch <;> simp [figureWidth]
    | 1 | 2 | 3 | 4 => simp [FinalFigures.bytes, figureWidth]
  have room : figureAddress i + figureWidth i ≤ doneAddress := by
    interval_cases i <;> decide
  omega

theorem getLsbD_doneByte {i k : Nat} (hi : i < 5) (hk : k < 5) : (doneByte i).getLsbD k = decide (k ≠ i) := by
  interval_cases i <;> interval_cases k <;> decide

/-- A figure over erased bytes reads as composed, and its done bit alone follows. -/
theorem figureTaken_whole {f : FinalFigures} {c : Cmr} {i : Nat} (wf : Memory.wf c.consignment = true) (small : i < 5)
    (erased : ∀ k, k < (f.bytes i).length → c.byte (figureAddress i + k) = 0xFF) :
    let d := figureTaken i (figureAddress i) (f.bytes i) 0 c
    d.figureWhole i = true ∧ Memory.readBytes d.consignment (figureAddress i) (f.bytes i).length = f.bytes i ∧
      ∀ k, k < 5 → k ≠ i → d.figureWhole k = c.figureWhole k := by
  intro d
  have below := figure_below (f := f) small
  have reads := Memory.readBytes_programBytes (f.bytes i) (miss := missBytes (f.bytes i).length 0) wf (beBytes_zero _) erased
  have wf' := Memory.programBytes_wf (f.bytes i) (figureAddress i) (missBytes (f.bytes i).length 0) wf
  have taken : d.consignment = Memory.program (Memory.programBytes c.consignment (figureAddress i) (f.bytes i)
      (missBytes (f.bytes i).length 0)) doneAddress (doneByte i) 0 := if_pos reads
  have done (k : Nat) : (d.byte doneAddress).getLsbD k = ((c.byte doneAddress).getLsbD k && (doneByte i).getLsbD k) := by
    rw [Cmr.byte_def, taken, Memory.read_program wf', if_pos rfl, Memory.read_programBytes_outside _ _ wf (.inr below),
      show doneByte i ||| 0 = doneByte i from BitVec.or_zero, BitVec.getLsbD_and]
    rfl
  refine ⟨?_, ?_, fun k hk other => ?_⟩
  · rw [Cmr.figureWhole, done, getLsbD_doneByte small small]
    simp
  · rw [taken]
    refine Eq.trans (List.map_congr_left fun k mem => ?_) reads
    have := List.mem_range.mp mem
    exact Memory.read_program_other _ _ _ (by omega)
  · rw [Cmr.figureWhole, done, getLsbD_doneByte small hk, decide_eq_true other, Bool.and_true]
    rfl

end

/-! ### The next program of the commission record (R158) -/

section
variable {env : Env} {s t : State} {reader : PartyId} {tag : List Byte} {step step' : ConcludeStep} {mark : Option Verdict}
  {p : CrProgram}

/-- A conclusion that has begun its programs leaves the array to what waits; the queue of the store decides alone. -/
theorem quiet_concluding (rests : quiet s = true) (service : s.rqs.service = some (.conclude reader tag step))
    (service' : t.rqs.service = some (.conclude reader tag step')) (jst : t.jst = s.jst)
    (stepRests : serviceRests (some (.conclude reader tag step')) = true) : quiet t = true := by
  simp only [quiet, checkpointRests, service, serviceRests, arrayFree, Bool.true_and, Bool.or_eq_true, Bool.and_eq_true] at rests
  simp only [quiet, checkpointRests, service', arrayFree, jst, stepRests, jobRests, clearForJob, serviceClear, Bool.true_and,
    Bool.and_false, Bool.false_and, Bool.not_false, Bool.true_or, Bool.and_true, Bool.or_eq_true, Bool.and_eq_true]
  exact rests.imp_right fun ⟨⟨⟨want, queue⟩, _⟩, _⟩ => ⟨want, queue⟩

/-- The program that the order drawn chooses. -/
def chosenProgram (env : Env) (due : Option CrProgram) (mark : Option Verdict) : Option CrProgram :=
  if env.conclusionFirst then due.or (mark.map .verdictMark) else (mark.map .verdictMark).or due

theorem chosen_conclusion (first : mark = none ∨ env.conclusionFirst = true) : chosenProgram env (some p) mark = some p := by
  obtain rfl | first := first
  · unfold chosenProgram
    split_ifs <;> rfl
  · rw [chosenProgram, if_pos first]
    rfl

theorem chosen_mark {due : Option CrProgram} {v : Verdict} (first : env.conclusionFirst = false ∨ due = none) :
    chosenProgram env due (some v) = some (.verdictMark v) := by
  obtain first | rfl := first
  · rw [chosenProgram, if_neg (by rw [first]; decide)]
    rfl
  · unfold chosenProgram
    split_ifs <;> rfl

theorem nextProgram_chosen (idle : s.cmr.program = .none) (chosen : chosenProgram env (conclusionDue s) mark = some p) :
    nextProgram env mark s = s.setCmr { s.cmr with program := p } := by
  have chosen' : (if env.conclusionFirst then (conclusionDue s).or (mark.map CrProgram.verdictMark)
      else (mark.map CrProgram.verdictMark).or (conclusionDue s)) = some p := chosen
  rw [nextProgram, if_pos idle]
  simp only [chosen']

/-- At the end of a program the next one begins, and the DISCOVERs that waited are answered. -/
theorem settle_nextProgram (hr : running t = true) (idle : t.cmr.program = .none)
    (chosen : chosenProgram env (conclusionDue t) mark = some p) (rests : quiet s = true)
    (service : s.rqs.service = some (.conclude reader tag step)) (service' : t.rqs.service = some (.conclude reader tag step'))
    (jst : t.jst = s.jst) (stepRests : serviceRests (some (.conclude reader tag step')) = true) :
    settle env (answerDiscovers env (nextProgram env mark t)) =
      kick env (answered env (t.setCmr { t.cmr with program := p })) := by
  rw [nextProgram_chosen idle chosen]
  exact settle_answered env hr (quiet_concluding (t := t.setCmr _) rests service service' jst stepRests)

end

/-! ### The conclusion's own programs -/

section
variable {env : Env} {s : State} {reader : PartyId} {tag : List Byte} {f : FinalFigures}

theorem exec_finalFigures {epoch : Option Nat} (hr : running s = true) (work : s.eve.work = [])
    (covers : s.jst.queue.any Entry.covers = false) (service : s.rqs.service = some (.conclude reader tag (.draining epoch))) :
    exec (.conclusionFinalFigures env) s = .next (settle env (nextProgram env none (figuresStage
      (setService (some (.conclude reader tag (.composing epoch))) s)))) := by
  change execConclusionFinalFigures env s = _
  simp only [execConclusionFinalFigures, done, hr, work, coverageWaits, covers, service, List.isEmpty_nil, Bool.not_false,
    Bool.and_self]

theorem exec_conclusionMark (miss : Byte) (hr : running s = true) (program : s.cmr.program = .conclusionMark)
    (service : s.rqs.service = some (.conclude reader tag (.mark f))) {m : Memory}
    (is : m = Memory.program s.cmr.consignment 49 0x00 miss) :
    exec (.conclusionMarkProgrammed miss env) s = .next (settle env (answerDiscovers env (nextProgram env (markDue s.eve)
      (if Memory.read m 49 = 0xFF then programmed m s
        else setService (some (.conclude reader tag (.figure f 0))) (programmed m s))))) := by
  subst is
  change execConclusionMarkProgrammed miss env s = _
  simp only [execConclusionMarkProgrammed, done, hr, program, service]
  by_cases clear : Memory.read (Memory.program s.cmr.consignment 49 0x00 miss) 49 = 0xFF
  · have unset : ¬ (programmed (Memory.program s.cmr.consignment 49 0x00 miss) s).cmr.concluded = true :=
      fun h => bne_iff_ne.mp h clear
    rw [if_pos clear]
    exact congrArg (fun t => Host.Outcome.next (settle env (answerDiscovers env (nextProgram env (markDue s.eve) t))))
      (if_neg unset)
  · have isSet : (programmed (Memory.program s.cmr.consignment 49 0x00 miss) s).cmr.concluded = true :=
      bne_iff_ne.mpr clear
    rw [if_neg clear]
    exact congrArg (fun t => Host.Outcome.next (settle env (answerDiscovers env (nextProgram env (markDue s.eve) t))))
      (if_pos isSet)

/-- The state once the figure's program has ended. -/
def figureEnded (reader : PartyId) (tag : List Byte) (f : FinalFigures) (i : Nat) (taken : Cmr) (s : State) : State :=
  setService (some (.conclude reader tag (.figure f (i + 1)))) (s.setCmr taken)

theorem exec_finalFigure {miss : BitVec 32} {i k a : Nat} {bs : List Byte} (hr : running s = true)
    (program : s.cmr.program = .figure i a bs) (service : s.rqs.service = some (.conclude reader tag (.figure f k))) :
    exec (.finalFigureProgrammed miss env) s = .next (settle env (answerDiscovers env (nextProgram env (markDue s.eve)
      (figureEnded reader tag f i (figureTaken i a bs miss s.cmr) s)))) := by
  change execFinalFigureProgrammed miss env s = _
  simp only [execFinalFigureProgrammed, done, hr, program, service]
  rfl

/-! ### The offer of its entry (R159) -/

/-- The entry of a conclusion. -/
def concludeEntry (reader : PartyId) (tag : List Byte) (f : FinalFigures) (s : State) : Entry :=
  .conclude ⟨f, reader, tag, f.epoch.getD s.ret.epoch⟩

theorem offerConclude_cmr (s : State) : (offerConclude reader tag f s).cmr = s.cmr := by
  have offered : (offer (concludeEntry reader tag f s) s).1.cmr = s.cmr := (offer_kept _ s).1.cmr
  unfold offerConclude
  dsimp only
  split
  · exact offered
  · exact (freeze_kept _).1.cmr.trans offered

theorem offerConclude_accepted {k n : Nat} (access : s.jst.access = .entry k n) (normal : s.jst.condition = .normal)
    (thawed : s.jst.frozen = false) (room : s.jst.queue.length < 6) : offerConclude reader tag f s =
      setService (some (.conclude reader tag (.entry f)))
        (s.setJst { s.jst with queue := s.jst.queue ++ [concludeEntry reader tag f s] }) := by
  have offered : offer (concludeEntry reader tag f s) s = _ := offer_entry _ access normal thawed room
  unfold offerConclude
  rw [show Entry.conclude ⟨f, reader, tag, f.epoch.getD s.ret.epoch⟩ = concludeEntry reader tag f s from rfl, offered]
  rfl

theorem offerConclude_refused {k n : Nat} {x : Entry} (access : s.jst.access = .entry k n)
    (full : s.jst.condition ≠ .normal ∨ s.jst.frozen = true ∨ 6 ≤ s.jst.queue.length) (queue : s.jst.queue = [x]) :
    offerConclude reader tag f s = setService (some (.conclude reader tag (.locking f false [] false 0 0)))
      (s.setJst { s.jst with frozen := true }) := by
  have busy : programmingEntry s = true := by simp [programmingEntry, access]
  unfold offerConclude
  rw [offer_refused full]
  show freeze (setService (some (.conclude reader tag (.locking f false [] false 0 0))) s) = _
  have busy' : programmingEntry (setService (some (.conclude reader tag (.locking f false [] false 0 0))) s) = true := busy
  unfold freeze
  rw [busy']
  have queue' : (setService (some (.conclude reader tag (.locking f false [] false 0 0))) s).jst.queue = [x] := queue
  rw [queue']
  show (setService (some (.conclude reader tag (.locking f false [] false 0 0))) s).setJst { s.jst with
    queue := [x], frozen := true } = _
  rw [← queue]
  rfl

end

/-! ### A verdict mark's program while a conclusion programs its own (R83, R158, R165) -/

theorem setService_self {s : State} {x : Option Service} (service : s.rqs.service = x) : setService x s = s := by
  subst service
  rfl

section
variable {env : Env} {miss : Byte} {s : State} {v : Verdict} {w : Waiting} {reader : PartyId} {tag : List Byte}
  {step after : ConcludeStep} {f : FinalFigures}

/-- The state at the end of the program, with the conclusion at this step. -/
def markConcluding (v : Verdict) (miss : Byte) (reader : PartyId) (tag : List Byte) (after : ConcludeStep) (s : State) : State :=
  setService (some (.conclude reader tag after)) (markEnded v miss s)

theorem recordStages_programs (service : s.rqs.service = some (.conclude reader tag step))
    (due : step = .mark f ∨ ∃ i, step = .figure f i) :
    recordStages (markEnded v miss s) = markConcluding v miss reader tag step s := by
  have other (epoch : Option Nat) : step ≠ .composing epoch := by
    obtain rfl | ⟨i, rfl⟩ := due <;> exact fun h => by cases h
  have service' : (markEnded v miss s).rqs.service = some (.conclude reader tag step) := service
  rw [markConcluding, setService_self service', recordStages, figuresStage_other (by simp [service', other])]
  simp only [checkpointStage, service', fragmentStage]

/-- Figures that are due when the program ends are composed then. -/
theorem recordStages_figures {epoch : Option Nat} (service : s.rqs.service = some (.conclude reader tag (.composing epoch))) :
    recordStages (markEnded v miss s) =
      markConcluding v miss reader tag (.mark (finalFigures epoch (markEnded v miss s))) s := by
  rw [recordStages, figuresStage_composing (s := markEnded v miss s) service rfl]
  rfl

section
variable (hr : running s = true) (rests : quiet s = true) (program : s.cmr.program = .verdictMark v)
  (current : s.eve.current = some w) (service : s.rqs.service = some (.conclude reader tag step))
  (staged : recordStages (markEnded v miss s) = markConcluding v miss reader tag after s)
  (stepRests : serviceRests (some (.conclude reader tag after)) = true)
include hr rests program current service staged stepRests

/-- A mark that reads clear is still due; the order drawn decides. -/
theorem exec_verdictMark_clear_concluding {p : CrProgram}
    (clear : Memory.read (Memory.program s.cmr.consignment (verdictMarkAddress v) 0x00 miss) (verdictMarkAddress v) = 0xFF)
    (chosen : chosenProgram env (conclusionDue (markConcluding v miss reader tag after s)) (some v) = some p) :
    exec (.verdictMarkProgrammed miss env) s = .next (kick env (answered env ((markConcluding v miss reader tag after s).setCmr
      { (markConcluding v miss reader tag after s).cmr with program := p }))) := by
  rw [exec_verdictMark_clear hr program current clear, staged]
  exact congrArg Host.Outcome.next (settle_nextProgram (s := s) (t := markConcluding v miss reader tag after s) hr rfl chosen
    rests service rfl rfl stepRests)

section
variable
  (set : Memory.read (Memory.program s.cmr.consignment (verdictMarkAddress v) 0x00 miss) (verdictMarkAddress v) ≠ 0xFF)
include set

/-- A mark that reads set makes the next one due. -/
theorem exec_verdictMark_more_concluding {p : CrProgram} {x : Verdict} {rest : List Verdict}
    (marks : w.marks = v :: x :: rest)
    (chosen : chosenProgram env (conclusionDue (markConcluding v miss reader tag after s)) (some x) = some p) :
    exec (.verdictMarkProgrammed miss env) s = .next (kick env (answered env
      (((markConcluding v miss reader tag after s).setEve { s.eve with current := some { w with marks := x :: rest } }).setCmr
        { (markConcluding v miss reader tag after s).cmr with program := p }))) := by
  have more : w.marks.tail = x :: rest := by rw [marks, List.tail_cons]
  rw [exec_verdictMark_set hr program current set, staged, markIsSet_more _ more, more]
  exact congrArg Host.Outcome.next (settle_nextProgram (s := s) (mark := some x)
    (t := (markConcluding v miss reader tag after s).setEve { s.eve with current := some { w with marks := x :: rest } })
    hr rfl chosen rests service rfl rfl stepRests)

end

end

/-- After its last mark the piece ends, and the conclusion goes on. -/
theorem exec_verdictMark_last_concluding (hr : running s = true) (program : s.cmr.program = .verdictMark v)
    (current : s.eve.current = some w)
    (staged : recordStages (markEnded v miss s) = markConcluding v miss reader tag after s)
    (unclosing : ∀ late, after ≠ .closing late)
    (set : Memory.read (Memory.program s.cmr.consignment (verdictMarkAddress v) 0x00 miss) (verdictMarkAddress v) ≠ 0xFF)
    (marks : w.marks = [v]) (next : w.next = .done) : exec (.verdictMarkProgrammed miss env) s =
      .next (settle env (answerDiscovers env (nextProgram env none ((markConcluding v miss reader tag after s).setEve
        { s.eve with current := none, verdict := w.target })))) := by
  have last : w.marks.tail = [] := by rw [marks, List.tail_cons]
  have ended : runContinuation w.next ((markConcluding v miss reader tag after s).setEve
      { s.eve with current := none, verdict := w.target }) =
      (markConcluding v miss reader tag after s).setEve { s.eve with current := none, verdict := w.target } := by
    rw [next]
    rfl
  rw [exec_verdictMark_set hr program current set, staged, markIsSet_last _ last, last]
  refine congrArg (fun t => Host.Outcome.next (settle env (answerDiscovers env (nextProgram env none t))))
    ((congrArg lateConcluding ended).trans (lateConcluding_unclosing fun _ _ late h => ?_))
  cases h
  exact unclosing late rfl

end

/-! ### The obligation -/

section
variable {env : Env} {reader : PartyId} {tag : List Byte} {f : FinalFigures} {s : State}

theorem finalFigures_composed {epoch : Option Nat} (hr : running s = true) (rests : quiet s = true) (work : s.eve.work = [])
    (covers : s.jst.queue.any Entry.covers = false)
    (service : s.rqs.service = some (.conclude reader tag (.draining epoch))) :
    exec (.conclusionFinalFigures env) s = .next (kick env { s with
      rqs := { s.rqs with service := some (.conclude reader tag
        (if s.cmr.program = .none then .mark ⟨epoch, committedVerdict s, s.eve.exposure, s.eve.drawn, s.ret.restarts⟩
        else .composing epoch)) }
      cmr := { s.cmr with program := if s.cmr.program = .none then .conclusionMark else s.cmr.program } }) := by
  rw [exec_finalFigures hr work covers service]
  by_cases idle : s.cmr.program = .none
  · have composed : figuresStage (setService (some (.conclude reader tag (.composing epoch))) s) =
        setService (some (.conclude reader tag (.mark (finalFigures epoch s)))) s := figuresStage_composing rfl idle
    rw [if_pos idle, if_pos idle, composed, nextProgram_chosen
      (s := setService (some (.conclude reader tag (.mark (finalFigures epoch s)))) s) idle
      (chosen_conclusion (p := .conclusionMark) (.inl rfl))]
    refine congrArg Host.Outcome.next (settle_quiet env ?_ (quiet_concluding (s := s) rests service rfl rfl rfl))
    exact hr
  · rw [if_neg idle, if_neg idle, figuresStage_programming
      (s := setService (some (.conclude reader tag (.composing epoch))) s) idle, nextProgram_programming
      (s := setService (some (.conclude reader tag (.composing epoch))) s) env _ idle]
    refine congrArg Host.Outcome.next (settle_quiet env ?_ (quiet_concluding (s := s) rests service rfl rfl rfl))
    exact hr

theorem markDue_none (current : s.eve.current = none) : markDue s.eve = none := by
  rw [markDue, current]
  rfl

theorem markDue_some {w : Waiting} {v : Verdict} {rest : List Verdict} (current : s.eve.current = some w)
    (marks : w.marks = v :: rest) : markDue s.eve = some v := by
  rw [markDue, current]
  simp [marks]

/-- The mark of the conclusion has been programmed, and the order drawn names what comes next. -/
theorem conclusionMark_followed {miss : Byte} {p q : CrProgram} (hr : running s = true) (rests : quiet s = true)
    (program : s.cmr.program = .conclusionMark) (service : s.rqs.service = some (.conclude reader tag (.mark f)))
    (again : chosenProgram env (some .conclusionMark) (markDue s.eve) = some p)
    (goes : chosenProgram env (some (figureProgram f 0)) (markDue s.eve) = some q) :
    let m := Memory.program s.cmr.consignment 49 0x00 miss
    let at_ (step : ConcludeStep) (program : CrProgram) : Prop :=
      exec (.conclusionMarkProgrammed miss env) s = .next (kick env (answered env { s with
        rqs := { s.rqs with service := some (.conclude reader tag step) }
        cmr := { s.cmr with consignment := m, program := program } }))
    (Memory.read m 49 = 0xFF → at_ (.mark f) p) ∧ (Memory.read m 49 ≠ 0xFF → at_ (.figure f 0) q) := by
  intro m at_
  refine ⟨fun clear => ?_, fun set => ?_⟩
  · refine (exec_conclusionMark (m := m) miss hr program service rfl).trans ?_
    rw [if_pos clear]
    have service' : (programmed m s).rqs.service = some (.conclude reader tag (.mark f)) := service
    rw [← setService_self service']
    refine congrArg Host.Outcome.next ((settle_nextProgram (s := s)
      (t := setService (some (.conclude reader tag (.mark f))) (programmed m s)) hr rfl again rests service rfl rfl rfl).trans ?_)
    rfl
  · refine (exec_conclusionMark (m := m) miss hr program service rfl).trans ?_
    rw [if_neg set]
    exact congrArg Host.Outcome.next (settle_nextProgram (s := s)
      (t := setService (some (.conclude reader tag (.figure f 0))) (programmed m s)) hr rfl goes rests service rfl rfl rfl)

theorem finalFigure_followed {miss : BitVec 32} {i k a : Nat} {bs : List Byte} {p : CrProgram} (hr : running s = true)
    (rests : quiet s = true) (program : s.cmr.program = .figure i a bs)
    (service : s.rqs.service = some (.conclude reader tag (.figure f k)))
    (chosen : chosenProgram env (if i + 1 < 5 then some (figureProgram f (i + 1)) else none) (markDue s.eve) = some p) :
    exec (.finalFigureProgrammed miss env) s = .next (kick env (answered env { s with
      rqs := { s.rqs with service := some (.conclude reader tag (.figure f (i + 1))) }
      cmr := { figureTaken i a bs miss s.cmr with program := p } })) := by
  rw [exec_finalFigure hr program service]
  exact congrArg Host.Outcome.next (settle_nextProgram (s := s)
    (t := figureEnded reader tag f i (figureTaken i a bs miss s.cmr) s) hr rfl chosen rests service rfl rfl rfl)

theorem answered_cmr (env : Env) (s : State) : (answered env s).cmr = s.cmr := by
  unfold answered
  split <;> rfl

/-- The state in which the offer of the entry ends, with an access in progress. -/
theorem settle_offered {t : State} (hr : running s = true) (offered : offerConclude reader tag f s = t)
    (logic : t.logic = s.logic) (busy : t.jst.access ≠ .none) {step : ConcludeStep}
    (service : t.rqs.service = some (.conclude reader tag step)) :
    settle env (answerDiscovers env (offerConclude reader tag f s)) = kick env (answered env t) := by
  rw [offered]
  refine settle_answered env ((congrArg (· == Logic.running) logic).trans hr) (quiet_busy busy ?_)
  simp only [checkpointRests, service]

end

/-- Settles O53: the end of each program begins the next (`settle_nextProgram`), the order drawn deciding between a verdict mark
and the conclusion's own (`chosenProgram`); with none due the entry is offered (`offerConclude_accepted`). -/
theorem conclusionProgramsItsFigures : Obligations.ConclusionProgramsItsFigures := by
  refine ⟨fun env reader tag s logic rests => ?_, fun miss env v w reader tag f s logic rests program current => ?_,
    fun i f c wf small erased => figureTaken_whole wf small erased⟩
  · have hr := running_of_logic logic
    refine ⟨fun epoch work covers service => finalFigures_composed hr rests work covers service,
      fun miss f program service => ⟨fun first => ?_, fun w v rest current marks second => ?_⟩,
      fun miss f i k a bs program service => ⟨fun first small => ?_, fun w v rest current marks second => ?_⟩,
      fun miss f k a bs program current service => ?_⟩
    · have first : markDue s.eve = none ∨ env.conclusionFirst = true := first.imp_left markDue_none
      exact conclusionMark_followed hr rests program service (chosen_conclusion first) (chosen_conclusion first)
    · have due := markDue_some current marks
      exact conclusionMark_followed hr rests program service (due ▸ chosen_mark (.inl second)) (due ▸ chosen_mark (.inl second))
    · refine finalFigure_followed hr rests program service ?_
      rw [if_pos (by omega)]
      exact chosen_conclusion (first.imp_left markDue_none)
    · refine finalFigure_followed hr rests program service ?_
      rw [markDue_some current marks]
      refine chosen_mark (second.imp_right fun last => if_neg (by omega))
    · have ends : exec (.finalFigureProgrammed miss env) s = .next (settle env (answerDiscovers env (offerConclude reader tag f
          (figureEnded reader tag f 4 (figureTaken 4 a bs miss s.cmr) s)))) := by
        rw [exec_finalFigure hr program service, markDue_none current, nextProgram_done
          (s := figureEnded reader tag f 4 (figureTaken 4 a bs miss s.cmr) s) env rfl rfl]
        rfl
      refine ⟨_, ends, ?_, fun k n access => ⟨fun normal thawed room => ?_, fun full x queue => ?_⟩⟩
      · rw [(settle_core env _).cmr, answerDiscovers_eq, answered_cmr, offerConclude_cmr]
        rfl
      · exact settle_offered (s := figureEnded reader tag f 4 (figureTaken 4 a bs miss s.cmr) s) hr
          (offerConclude_accepted access normal thawed room) rfl (fun none => by cases access.symm.trans none) rfl
      · exact settle_offered (s := figureEnded reader tag f 4 (figureTaken 4 a bs miss s.cmr) s) hr
          (offerConclude_refused access full queue) rfl (fun none => by cases access.symm.trans none) rfl
  · intro m at_ marked next ended
    have hr := running_of_logic logic
    refine ⟨fun step after own service steps => ?_, fun service => ?_⟩
    · intro either goes
      obtain ⟨staged, stepRests, due, unclosing⟩ :
          recordStages (markEnded v miss s) = markConcluding v miss reader tag after s ∧
            serviceRests (some (.conclude reader tag after)) = true ∧
            conclusionDue (markConcluding v miss reader tag after s) = some own ∧ ∀ late, after ≠ .closing late := by
        obtain ⟨rfl, rfl, rfl⟩ | ⟨i, small, rfl, rfl, rfl⟩ | ⟨epoch, rfl, rfl, rfl⟩ := steps
        · exact ⟨recordStages_programs service (.inl rfl), rfl, rfl, fun _ h => by cases h⟩
        · exact ⟨recordStages_programs service (.inr ⟨i, rfl⟩), rfl, if_pos small, fun _ h => by cases h⟩
        · exact ⟨recordStages_figures service, rfl, rfl, fun _ h => by cases h⟩
      have chosen (x : Verdict) :
          chosenProgram env (conclusionDue (markConcluding v miss reader tag after s)) (some x) = some (either x) := by
        rw [due]
        by_cases first : env.conclusionFirst = true
        · exact (chosen_conclusion (.inr first)).trans (congrArg some (if_pos first).symm)
        · exact (chosen_mark (.inl (Bool.eq_false_iff.mpr first))).trans (congrArg some (if_neg first).symm)
      refine ⟨fun clear => ?_, fun set => ⟨fun x rest marks => ?_, fun marks done => ?_⟩⟩
      · exact exec_verdictMark_clear_concluding hr rests program current service staged stepRests clear (chosen v)
      · exact exec_verdictMark_more_concluding hr rests program current service staged stepRests set marks (chosen x)
      · refine (exec_verdictMark_last_concluding hr program current staged unclosing set marks done).trans ?_
        exact congrArg Host.Outcome.next (settle_nextProgram (s := s)
          (t := (markConcluding v miss reader tag after s).setEve { s.eve with current := none, verdict := w.target })
          hr rfl ((congrArg (chosenProgram env · none) due).trans (chosen_conclusion (.inl rfl))) rests service rfl rfl stepRests)
    · have staged := recordStages_programs (v := v) (miss := miss) service (.inr ⟨5, rfl⟩)
      have same : markConcluding v miss reader tag (.figure f 5) s = markEnded v miss s :=
        setService_self (s := markEnded v miss s) service
      refine ⟨fun clear => ?_, fun set => ⟨fun x rest marks => ?_, fun k n marks done access normal thawed room => ?_⟩⟩
      · refine (exec_verdictMark_clear_concluding hr rests program current service staged rfl clear
          (chosen_mark (.inr rfl))).trans ?_
        rw [same]
        rfl
      · refine (exec_verdictMark_more_concluding hr rests program current service staged rfl set marks
          (chosen_mark (.inr rfl))).trans ?_
        rw [same]
        rfl
      · refine (exec_verdictMark_last_concluding hr program current staged (fun _ h => by cases h) set marks done).trans ?_
        rw [nextProgram_done (s := (markConcluding v miss reader tag (.figure f 5) s).setEve
          { s.eve with current := none, verdict := w.target }) env rfl rfl]
        exact congrArg Host.Outcome.next (settle_offered (s := (markConcluding v miss reader tag (.figure f 5) s).setEve
          { s.eve with current := none, verdict := w.target }) hr
          (offerConclude_accepted access normal thawed room) rfl (fun none => by cases access.symm.trans none) rfl)

end Sys2Proof.Machine

/-! The requests that a conclusion makes of the blocks (R10, R67, R81, R85, R155), and the stop of consolidation that comes
before them (R144). -/

namespace Sys2Proof.Machine

/-! ### The inputs of a close (R85) -/

section
variable {key : Nat} {f : CloseInputs → CloseInputs} {before : List CloseInputs} {c d : CloseInputs} {e : Eve}

/-- The evidence engine with an input received. -/
def gathered (key : Nat) (f : CloseInputs → CloseInputs) (e : Eve) : Eve :=
  match ((updateInputs key f e.inputs).find? fun c => c.epoch == key).bind CloseInputs.joined with
  | some j => { e with
      inputs := (updateInputs key f e.inputs).filter (fun c => c.epoch != key), work := e.work ++ [j.piece] }
  | none => { e with inputs := updateInputs key f e.inputs }

theorem handInput_gathered (key : Nat) (f : CloseInputs → CloseInputs) (s : State) :
    handInput key f s = s.setEve (gathered key f s.eve) := by
  unfold handInput gathered
  dsimp only
  cases ((updateInputs key f s.eve.inputs).find? fun c => c.epoch == key).bind CloseInputs.joined <;> rfl

theorem updateInputs_append (cs : List CloseInputs) (others : ∀ c ∈ before, c.epoch ≠ key) :
    updateInputs key f (before ++ cs) = before ++ updateInputs key f cs := by
  induction before with
  | nil => rfl
  | cons b before ih =>
    rw [List.cons_append, updateInputs, if_neg (others b (.head _)), ih fun c mem => others c (.tail _ mem)]
    rfl

theorem find_last (others : ∀ c ∈ before, c.epoch ≠ key) (epoch : d.epoch = key) :
    ((before ++ [d]).find? fun c => c.epoch == key) = some d := by
  have absent : before.find? (fun c => c.epoch == key) = none :=
    List.find?_eq_none.mpr fun c mem => by simpa using others c mem
  simp [absent, epoch]

section
variable (updated : updateInputs key f e.inputs = before ++ [d]) (others : ∀ c ∈ before, c.epoch ≠ key)
  (epoch : d.epoch = key)
include updated others epoch

theorem gathered_incomplete (waits : d.joined = none) : gathered key f e = { e with inputs := before ++ [d] } := by
  rw [gathered, updated, find_last others epoch]
  simp only [Option.bind_some, waits]

theorem gathered_complete {j : Joined} (joined : d.joined = some j) :
    gathered key f e = { e with inputs := before, work := e.work ++ [j.piece] } := by
  have kept : (before ++ [d]).filter (fun c => c.epoch != key) = before := by
    rw [List.filter_append, List.filter_eq_self.mpr fun c mem => bne_iff_ne.mpr (others c mem)]
    simp [epoch]
  rw [gathered, updated, find_last others epoch]
  simp only [Option.bind_some, joined, kept]

end

section
variable (others : ∀ c ∈ before, c.epoch ≠ key) (epoch : d.epoch = key)
include others epoch

/-- The first input of a close opens its record behind those held. -/
theorem gathered_opens (inputs : e.inputs = before) (is : f ⟨key, none, none, none⟩ = d) (waits : d.joined = none) :
    gathered key f e = { e with inputs := before ++ [d] } := by
  refine gathered_incomplete ?_ others epoch waits
  rw [inputs, ← List.append_nil before, updateInputs_append _ (by simpa using others), updateInputs, is, List.append_nil]

section
variable (inputs : e.inputs = before ++ [c]) (held : c.epoch = key) (is : f c = d)
include inputs held is

theorem updateInputs_last : updateInputs key f e.inputs = before ++ [d] := by
  rw [inputs, updateInputs_append _ others, updateInputs, if_pos held, is]

/-- An input that leaves the last close held incomplete waits there. -/
theorem gathered_waits (waits : d.joined = none) : gathered key f e = { e with inputs := before ++ [d] } :=
  gathered_incomplete (updateInputs_last others epoch inputs held is) others epoch waits

/-- An input that completes the last close held makes its piece of work. -/
theorem gathered_joins {j : Joined} (joined : d.joined = some j) :
    gathered key f e = { e with inputs := before, work := e.work ++ [j.piece] } :=
  gathered_complete (updateInputs_last others epoch inputs held is) others epoch joined

end

end

end

/-! ### The three requests (R10, R67, R81) -/

theorem converting_any (q : Quad) : q.slots.any (· == .converting) = q.converting.isSome := by
  unfold Quad.converting Quad.slots
  split_ifs <;> simp_all

theorem busy_any (t : Tch) : (t.probe.slots ++ t.air.slots).any (· == .converting) = t.busy := by
  rw [List.any_append, converting_any, converting_any]
  rfl

/-- The evidence engine with the readings of the epoch in progress received. -/
def readingsTaken (s : State) : Eve :=
  let e := gathered (readingsKey s.tch.readings s) (fun c => { c with readings := some s.tch.readings }) s.eve
  { e with readingsEpoch := e.readingsEpoch + 1 }

theorem requestReadings_eq (s : State) : requestReadings s =
    (s.setTch { s.tch with taking := false, partialWaiting := s.tch.busy }).setEve
      (if s.tch.busy = true then s.eve else readingsTaken s) := by
  unfold requestReadings
  dsimp only
  rw [busy_any]
  by_cases busy : s.tch.busy = true
  · rw [if_pos busy, if_pos busy]
    rfl
  · rw [if_neg busy, if_neg busy]
    unfold handReadings readingsTaken readingsKey
    dsimp only
    rw [handInput_gathered]
    rfl

theorem requestView_eq (s : State) : requestView s = (s.setPtb { s.ptb with viewTaken := true }).setEve
    (gathered (conclusionKey s) (fun c => { c with view := some (closeView s.ret.epoch s.ptb) }) s.eve) :=
  handInput_gathered ..

theorem requestDoor_eq (s : State) : requestDoor s = (s.setDmn { s.dmn.viewed with taking := false }).setEve
    (gathered (conclusionKey s) (fun c => { c with door := some (doorView s.ret.epoch s.dmn) }) s.eve) :=
  handInput_gathered ..

theorem viewed_eq (d : Dmn) : d.viewed = { d with
    episode := d.episode.map fun e => if 30 ≤ e.age then { e with overrun := true } else e } := by
  unfold Dmn.viewed
  cases d.episode with
  | none => rfl
  | some e =>
    simp only [Option.map_some]
    by_cases old : 30 ≤ e.age
    · rw [if_pos old, decide_eq_true old, Bool.or_true]
    · rw [if_neg old, decide_eq_false old, Bool.or_false]

/-- The evidence engine once the blocks named have answered. -/
def answeredRequests (b : Overtaken) (s : State) : Eve :=
  let read := if b.readings = true ∧ s.tch.busy = false then readingsTaken s else s.eve
  let viewed := if b.view = true then
      gathered (conclusionKey s) (fun c => { c with view := some (closeView s.ret.epoch s.ptb) }) read
    else read
  if b.door = true then gathered (conclusionKey s) (fun c => { c with door := some (doorView s.ret.epoch s.dmn) }) viewed
  else viewed

/-- The blocks as their requests leave them. -/
def blocksRequested (b : Overtaken) (s : State) : State :=
  ((s.setTch (if b.readings = true then { s.tch with taking := false, partialWaiting := s.tch.busy } else s.tch)).setPtb
    (if b.view = true then { s.ptb with viewTaken := true } else s.ptb)).setDmn
      (if b.door = true then { s.dmn.viewed with taking := false } else s.dmn)

theorem takeRequests_eq (b : Overtaken) (s : State) :
    takeRequests b s = (blocksRequested b s).setEve (answeredRequests b s) := by
  obtain ⟨r, v, d⟩ := b
  have readings : (if r = true then requestReadings s else s) =
      (s.setTch (if r = true then { s.tch with taking := false, partialWaiting := s.tch.busy } else s.tch)).setEve
        (if r = true ∧ s.tch.busy = false then readingsTaken s else s.eve) := by
    cases r with
    | false => rfl
    | true =>
      rw [if_pos rfl, requestReadings_eq]
      cases s.tch.busy <;> rfl
  have view (t : State) : (if v = true then requestView t else t) =
      (t.setPtb (if v = true then { t.ptb with viewTaken := true } else t.ptb)).setEve
        (if v = true then gathered (conclusionKey t) (fun c => { c with view := some (closeView t.ret.epoch t.ptb) }) t.eve
          else t.eve) := by
    cases v with
    | false => rfl
    | true => exact requestView_eq t
  have door (t : State) : (if d = true then requestDoor t else t) =
      (t.setDmn (if d = true then { t.dmn.viewed with taking := false } else t.dmn)).setEve
        (if d = true then gathered (conclusionKey t) (fun c => { c with door := some (doorView t.ret.epoch t.dmn) }) t.eve
          else t.eve) := by
    cases d with
    | false => rfl
    | true => exact requestDoor_eq t
  unfold takeRequests
  dsimp only
  rw [readings, view, door]
  rfl

/-! ### The stop of consolidation (R144) -/

section
variable {left : Leftover} {k : Nat} {kept : SegStatus} {s : State}

theorem stopPhase_stops {erasing : Bool} (acts : s.jst.job.phase = .none → erasing = true)
    (unplanned : s.jst.job.phase ≠ .planning) : stopPhase erasing s = setJob { s.jst.job with stopped := true } s := by
  unfold stopPhase
  split
  case h_1 none => exact if_pos (acts none)
  case h_2 planning => exact absurd planning unplanned
  all_goals rfl

/-- With no step in flight that a conclusion suspends, its stop concerns the job's phase alone. -/
theorem stopConsolidation_phase (still : suspend s = s) (whole : s.jst.job.suspended = none) :
    stopConsolidation left s = stopPhase false s := by
  rw [stopConsolidation_eq, still, whole, dropSuspended_none left whole]
  rfl

theorem stopConsolidation_idle (still : suspend s = s) (whole : s.jst.job.suspended = none) (phase : s.jst.job.phase = .none) :
    stopConsolidation left s = s := by
  rw [stopConsolidation_phase still whole, stopPhase, phase]
  rfl

/-- The journal store's state with the job stopped and the array free. -/
def jobStopped (status : List SegStatus) (s : State) : Jst :=
  { s.jst with
    access := .none
    status := status
    job := { s.jst.job with stopped := true, suspended := none } }

/-- An erase that is stopped leaves its segment BLANK, or what it was before. -/
theorem stopConsolidation_erase (step : s.jst.access = .sourceErase k ∧ kept = .retiring ∨
      s.jst.access = .cleanupErase k ∧ kept = .targetPending) (inStore : k < s.store.length)
    (unplanned : s.jst.job.phase ≠ .planning) : stopConsolidation left s =
      (s.setStore (s.store.set k ((segAt s k).erasedTo left.erase))).setJst (jobStopped (s.jst.status.set k
        (if (segAt s k).erasedTo left.erase = .erased then .blank else kept)) s) := by
  obtain ⟨x, begun, segment, dropped⟩ : ∃ x, Suspends s.jst.access x ∧ x.segment = some (k, kept) ∧
      ∀ t : State, t.jst.job.suspended = some x →
        dropSuspended left t = setJob { t.jst.job with suspended := none } (eraseSeg k left.erase t) := by
    obtain ⟨access, rfl⟩ | ⟨access, rfl⟩ := step
    · exact ⟨.sourceErase k, by rw [access]; simp [Suspends], rfl, fun t is => by simp only [dropSuspended, is] <;> rfl⟩
    · exact ⟨.cleanupErase k, by rw [access]; simp [Suspends], rfl, fun t is => by simp only [dropSuspended, is] <;> rfl⟩
  have read : segAt ((s.setStore (s.store.set k ((segAt s k).erasedTo left.erase))).setJst { s.jst with
      access := .none, job := { s.jst.job with suspended := none } }) k = (segAt s k).erasedTo left.erase := by
    simp [segAt, inStore]
  rw [stopConsolidation_eq, suspend_step begun]
  simp only [State.setJst_jst, Option.bind_some, segment, Option.isSome_some]
  rw [dropped _ rfl, stopPhase_stops (fun _ => rfl) (by exact unplanned)]
  refine congrArg (fun x => (s.setStore (s.store.set k ((segAt s k).erasedTo left.erase))).setJst
    (jobStopped (s.jst.status.set k x) s)) ?_
  exact congrArg (fun g : Segment => if g = .erased then SegStatus.blank else kept) read

/-- A page program that is stopped leaves what it leaves of the page. -/
theorem stopConsolidation_page {t q : Nat} (access : s.jst.access = .pageProgram) (phase : s.jst.job.phase = .copy)
    (target : s.jst.job.target = some (t, q)) : stopConsolidation left s =
      (s.setStore (s.store.set t ((segAt s t).put (8 * s.jst.job.pages + 1) (leftSlots (jobPage s) left.page)))).setJst
        (jobStopped s.jst.status s) := by
  have begun : Suspends s.jst.access .page := by rw [access]; simp [Suspends]
  have page : putPage (leftSlots (jobPage s) left.page) (s.setJst { s.jst with
      access := .none, job := { s.jst.job with suspended := some .page } }) =
      putSeg t ((segAt s t).put (8 * s.jst.job.pages + 1) (leftSlots (jobPage s) left.page)) (s.setJst { s.jst with
        access := .none, job := { s.jst.job with suspended := some .page } }) := by
    simp only [putPage, State.setJst_jst, Job.targetSeg, target, Option.map_some]
    rfl
  have dropped : dropSuspended left (s.setJst { s.jst with
      access := .none, job := { s.jst.job with suspended := some .page } }) =
      (s.setStore (s.store.set t ((segAt s t).put (8 * s.jst.job.pages + 1) (leftSlots (jobPage s) left.page)))).setJst
        { s.jst with access := .none, job := { s.jst.job with suspended := none } } :=
    congrArg (fun u : State => setJob { u.jst.job with suspended := none } u) page
  rw [stopConsolidation_eq, suspend_step begun, dropped]
  refine (stopPhase_stops (fun none => ?_) fun planning => ?_).trans rfl
  · cases phase.symm.trans none
  · cases phase.symm.trans planning

end

/-! ### The end of a conclusion's command -/

/-- Neither the entry queue nor the OPEN segment waits for a free array. -/
def Calm (j : Jst) : Prop := j.access = .none → j.wantOpen = none ∧ j.queue = []

theorem settle_concluding {env : Env} {reader : PartyId} {tag : List Byte} {step : ConcludeStep} {t : State}
    (hr : running t = true) (service : t.rqs.service = some (.conclude reader tag step))
    (stepRests : serviceRests (some (.conclude reader tag step)) = true) (calm : Calm t.jst) : settle env t = kick env t := by
  refine settle_quiet env hr ?_
  by_cases free : t.jst.access = .none
  · obtain ⟨want, queue⟩ := calm free
    simp [quiet, checkpointRests, service, want, queue, stepRests, jobRests, clearForJob, serviceClear]
  · exact quiet_busy free (by simp only [checkpointRests, service])

/-! ### What the requests leave of the inputs (R85) -/

/-- The record of a close of which this much is held. -/
def heldInputs (key : Nat) (r : Option EpochReadings) (v : Option CloseView) (d : Option DoorView) : List CloseInputs :=
  if r = none ∧ v = none ∧ d = none then [] else [⟨key, r, v, d⟩]

section
variable {key : Nat} {f : CloseInputs → CloseInputs} {before : List CloseInputs} {r r' : Option EpochReadings}
  {v v' : Option CloseView} {d d' : Option DoorView} {e : Eve} (others : ∀ c ∈ before, c.epoch ≠ key)
  (inputs : e.inputs = before ++ heldInputs key r v d) (is : f ⟨key, r, v, d⟩ = ⟨key, r', v', d'⟩)
include others inputs is

theorem updateInputs_held : updateInputs key f e.inputs = before ++ [⟨key, r', v', d'⟩] := by
  rw [inputs, updateInputs_append _ others, ← is]
  unfold heldInputs
  split
  · rename_i none
    obtain ⟨rfl, rfl, rfl⟩ := none
    rfl
  · rw [updateInputs, if_pos rfl]

theorem gathered_held (some' : ¬ (r' = none ∧ v' = none ∧ d' = none))
    (waits : (⟨key, r', v', d'⟩ : CloseInputs).joined = none) :
    gathered key f e = { e with inputs := before ++ heldInputs key r' v' d' } := by
  rw [heldInputs, if_neg some']
  exact gathered_incomplete (updateInputs_held others inputs is) others rfl waits

theorem gathered_whole {j : Joined} (joined : (⟨key, r', v', d'⟩ : CloseInputs).joined = some j) :
    gathered key f e = { e with inputs := before, work := e.work ++ [j.piece] } :=
  gathered_complete (updateInputs_held others inputs is) others rfl joined

end

section
variable {key : Nat} {b : Overtaken} {s : State}

/-- What the blocks named hand at once. -/
def askedReadings (b : Overtaken) (s : State) : Option EpochReadings :=
  if b.readings = true ∧ s.tch.busy = false then some s.tch.readings else none
def askedView (b : Overtaken) (s : State) : Option CloseView :=
  if b.view = true then some (closeView s.ret.epoch s.ptb) else none
def askedDoor (b : Overtaken) (s : State) : Option DoorView :=
  if b.door = true then some (doorView s.ret.epoch s.dmn) else none

theorem joined_none_of_missing {r : Option EpochReadings} {v : Option CloseView} {d : Option DoorView}
    (missing : r = none ∨ v = none ∨ d = none) : (⟨key, r, v, d⟩ : CloseInputs).joined = none := by
  unfold CloseInputs.joined
  obtain rfl | rfl | rfl := missing
  · rfl
  · cases r <;> rfl
  · cases r <;> cases v <;> rfl

variable (others : ∀ c ∈ s.eve.inputs, c.epoch ≠ key) (viewKey : conclusionKey s = key)
  (readKey : askedReadings b s ≠ none → readingsKey s.tch.readings s = key)
include others readKey

theorem readings_answered : (if b.readings = true ∧ s.tch.busy = false then readingsTaken s else s.eve) = { s.eve with
    inputs := s.eve.inputs ++ heldInputs key (askedReadings b s) none none
    readingsEpoch := if askedReadings b s = none then s.eve.readingsEpoch else s.eve.readingsEpoch + 1 } := by
  by_cases hands : b.readings = true ∧ s.tch.busy = false
  · have asked : askedReadings b s = some s.tch.readings := if_pos hands
    have order := readKey (by simp [asked])
    have taken := gathered_held (e := s.eve) (r := none) (v := none) (d := none) (r' := some s.tch.readings)
      (f := fun c => { c with readings := some s.tch.readings }) others (List.append_nil _).symm rfl (by simp) rfl
    rw [if_pos hands, asked, if_neg (by simp), readingsTaken, order]
    exact congrArg (fun e : Eve => { e with readingsEpoch := e.readingsEpoch + 1 }) taken
  · have asked : askedReadings b s = none := if_neg hands
    rw [if_neg hands, asked, if_pos rfl, heldInputs, if_pos ⟨rfl, rfl, rfl⟩, List.append_nil]

include viewKey

/-- With something of the close still to come, what is handed waits. -/
theorem answeredRequests_held
    (missing : askedReadings b s = none ∨ askedView b s = none ∨ askedDoor b s = none) :
    answeredRequests b s = { s.eve with
      inputs := s.eve.inputs ++ heldInputs key (askedReadings b s) (askedView b s) (askedDoor b s)
      readingsEpoch := if askedReadings b s = none then s.eve.readingsEpoch else s.eve.readingsEpoch + 1 } := by
  unfold answeredRequests
  dsimp only
  rw [readings_answered others readKey, viewKey]
  have view : (if b.view = true then gathered key (fun c => { c with view := some (closeView s.ret.epoch s.ptb) }) { s.eve with
        inputs := s.eve.inputs ++ heldInputs key (askedReadings b s) none none
        readingsEpoch := if askedReadings b s = none then s.eve.readingsEpoch else s.eve.readingsEpoch + 1 }
      else { s.eve with
        inputs := s.eve.inputs ++ heldInputs key (askedReadings b s) none none
        readingsEpoch := if askedReadings b s = none then s.eve.readingsEpoch else s.eve.readingsEpoch + 1 }) = { s.eve with
      inputs := s.eve.inputs ++ heldInputs key (askedReadings b s) (askedView b s) none
      readingsEpoch := if askedReadings b s = none then s.eve.readingsEpoch else s.eve.readingsEpoch + 1 } := by
    unfold askedView
    by_cases hands : b.view = true
    · rw [if_pos hands, if_pos hands]
      exact gathered_held others rfl rfl (by simp) (joined_none_of_missing (.inr (.inr rfl)))
    · rw [if_neg hands, if_neg hands]
  rw [view]
  by_cases hands : b.door = true
  · have asked : askedDoor b s = some (doorView s.ret.epoch s.dmn) := if_pos hands
    rw [if_pos hands, asked]
    exact gathered_held others rfl rfl (by simp) (joined_none_of_missing (by simpa [asked] using missing))
  · have asked : askedDoor b s = none := if_neg hands
    rw [if_neg hands, asked]

end

/-- With all three handed at once, the close goes on the work list. -/
theorem answeredRequests_whole {key : Nat} {s : State} (others : ∀ c ∈ s.eve.inputs, c.epoch ≠ key)
    (viewKey : conclusionKey s = key) (idle : s.tch.busy = false) (readKey : readingsKey s.tch.readings s = key) :
    answeredRequests ⟨true, true, true⟩ s = { s.eve with
      work := s.eve.work ++ [(⟨key, s.tch.readings, closeView s.ret.epoch s.ptb, doorView s.ret.epoch s.dmn⟩ : Joined).piece]
      readingsEpoch := s.eve.readingsEpoch + 1 } := by
  have read := readings_answered (b := ⟨true, true, true⟩) others fun _ => readKey
  have asked : askedReadings ⟨true, true, true⟩ s = some s.tch.readings := if_pos ⟨rfl, idle⟩
  rw [asked, if_neg (Option.some_ne_none _)] at read
  unfold answeredRequests
  rw [read, viewKey]
  refine (congrArg (gathered key fun c => { c with door := some (doorView s.ret.epoch s.dmn) })
    (gathered_held (r := some s.tch.readings) (v := none) (d := none) (v' := some (closeView s.ret.epoch s.ptb)) others rfl rfl
      (by simp) rfl)).trans ?_
  exact gathered_whole (r := some s.tch.readings) (v := some (closeView s.ret.epoch s.ptb)) (d := none) others rfl rfl rfl

end Sys2Proof.Machine

/-! A conclusion is taken (R144, R154, R155, R161): what it does to consolidation, the partial close of the epoch in progress,
and the epoch end that a request in quarter 4 is overtaken by. -/

namespace Sys2Proof.Machine

/-! ### The partial close goes on the work list -/

section
variable {env : Env} {left : Leftover} {reader : PartyId} {tag : List Byte} {store : List Segment} {j : Jst} {s : State}

/-- The blocks' part of a state in which a conclusion has been taken, its three requests answered. -/
def closingBegun (reader : PartyId) (tag : List Byte) (s : State) : State :=
  { s with
    tch := { s.tch with taking := false, partialWaiting := false }
    ptb := { s.ptb with viewTaken := true }
    dmn := { s.dmn with
      taking := false
      episode := s.dmn.episode.map fun e => if 30 ≤ e.age then { e with overrun := true } else e }
    eve := { s.eve with
      readingsEpoch := s.ret.epoch + 1
      work := s.eve.work ++ [.partialClose
        ⟨s.ret.epoch, ⟨s.tch.quarters, s.tch.probe.reading, s.tch.air.reading⟩,
          ⟨s.ret.epoch, s.ptb.leg, corroborating s.ptb.peers⟩, doorView s.ret.epoch s.dmn⟩] }
    rqs := { s.rqs with service := some (.conclude reader tag (.closing ⟨false, false, false⟩)) } }

theorem overtakenNow_none (before : s.ret.quarter ≠ 4 ∨ env.overtaken = ⟨false, false, false⟩) :
    overtakenNow env s = ⟨false, false, false⟩ := by
  unfold overtakenNow
  split
  · rename_i last
    exact before.resolve_left (not_not_intro last.2)
  · rfl

/-- The epoch in progress has readings that no conversion still changes, and nothing of its close is held. -/
structure ClosesNow (env : Env) (s : State) : Prop where
  schedule : s.ret.schedule = .running
  inputs : s.eve.inputs = []
  order : s.eve.readingsEpoch = s.ret.epoch
  idle : s.tch.busy = false
  few : s.tch.quarters < 4
  before : s.ret.quarter ≠ 4 ∨ env.overtaken = ⟨false, false, false⟩

theorem ClosesNow.requests (now : ClosesNow env s) : takeRequests ⟨true, true, true⟩
    (setService (some (.conclude reader tag (.closing ⟨false, false, false⟩))) s) = closingBegun reader tag s := by
  obtain ⟨schedule, inputs, order, idle, few, -⟩ := now
  have running : s.ret.schedule ≠ .stopped := by rw [schedule]; decide
  have viewKey : conclusionKey s = s.ret.epoch := if_neg running
  have readKey : readingsKey s.tch.readings s = s.ret.epoch := (if_neg fun h => running h.2).trans order
  have piece : (⟨s.ret.epoch, s.tch.readings, closeView s.ret.epoch s.ptb, doorView s.ret.epoch s.dmn⟩ : Joined).piece =
      .partialClose ⟨s.ret.epoch, s.tch.readings, closeView s.ret.epoch s.ptb, doorView s.ret.epoch s.dmn⟩ :=
    if_neg (Nat.ne_of_lt few)
  have answered : answeredRequests ⟨true, true, true⟩
      (setService (some (.conclude reader tag (.closing ⟨false, false, false⟩))) s) = { s.eve with
        work := s.eve.work ++
          [.partialClose ⟨s.ret.epoch, s.tch.readings, closeView s.ret.epoch s.ptb, doorView s.ret.epoch s.dmn⟩]
        readingsEpoch := s.eve.readingsEpoch + 1 } := by
    rw [← piece]
    refine answeredRequests_whole (key := s.ret.epoch) (fun c mem => ?_) viewKey idle readKey
    have none : c ∈ s.eve.inputs := mem
    rw [inputs] at none
    cases none
  rw [takeRequests_eq, answered, blocksRequested]
  simp only [if_true]
  rw [viewed_eq]
  show _ = closingBegun reader tag s
  rw [closingBegun, ← order, ← idle]
  rfl

/-- A conclusion's closing step, with the store as consolidation's stop leaves it. -/
theorem settle_beginClosing (now : ClosesNow env s) (hr : running s = true)
    (stops : settleShort (stopConsolidation left s) = (s.setStore store).setJst j) (calm : Calm j) :
    settle env (beginClosing env left reader tag s) =
      kick env (((closingBegun reader tag s).setStore store).setJst j) := by
  have requests : takeRequests ⟨true, true, true⟩ (setService (some (.conclude reader tag (.closing ⟨false, false, false⟩)))
      ((s.setStore store).setJst j)) = closingBegun reader tag ((s.setStore store).setJst j) := by
    refine ClosesNow.requests (env := env) ⟨?_, ?_, ?_, ?_, ?_, ?_⟩
    · exact now.schedule
    · exact now.inputs
    · exact now.order
    · exact now.idle
    · exact now.few
    · exact now.before
  have closes : beginClosing env left reader tag s = closingBegun reader tag ((s.setStore store).setJst j) := by
    unfold beginClosing
    dsimp only
    rw [overtakenNow_none now.before, stops]
    exact requests
  rw [closes]
  exact settle_concluding (step := .closing ⟨false, false, false⟩) hr rfl rfl calm

end

/-! ### The request (R154, R155, R161) -/

section
variable {req : Request} {fields tag : List Byte} {left : Leftover} {env : Env} {s : State}

theorem exec_conclude_taken (isFree : Machine.free req env s = true) (parsed : parseConclude fields = some (s.cmr.reference, tag))
    (station : s.eve.station = .dormant ∨ s.eve.station = .active) : exec (.conclude req fields left env) s =
      .next (settle env (takeConclusion env req.reader tag left s)) := by
  obtain ⟨reached, idle⟩ : reaches req env s = true ∧ serviceBusy s = false := by simpa [Machine.free] using isFree
  rw [exec_conclude_some reached left parsed, serve_allowed idle, if_pos rfl]
  obtain station | station := station <;> rw [station] <;> rfl

theorem calm_of_quiet (rests : quiet s = true) : Calm s.jst := quiet_free rests

section
variable (active : s.eve.station = .active)
include active

theorem takeConclusion_waits (step : jobStepInProgress s = true) : takeConclusion env req.reader tag left s =
    setService (some (.conclude req.reader tag .stopping)) s := by
  rw [takeConclusion, if_neg (by rw [active]; decide), if_pos step]

theorem takeConclusion_closes (step : jobStepInProgress s = false) : takeConclusion env req.reader tag left s =
    beginClosing env left req.reader tag s := by
  rw [takeConclusion, if_neg (by rw [active]; decide), if_neg (by simp [step])]

end

/-- No step of the job is in flight that a conclusion waits for. -/
theorem jobStepInProgress_other (other : s.jst.access = .none ∨ (∃ i n, s.jst.access = .entry i n) ∨ s.jst.access = .pageProgram ∨
    (∃ k, s.jst.access = .sourceErase k) ∨ ∃ k, s.jst.access = .cleanupErase k) : jobStepInProgress s = false := by
  obtain access | ⟨i, n, access⟩ | access | ⟨k, access⟩ | ⟨k, access⟩ := other <;>
    simp [jobStepInProgress, jobHeaderInProgress, access]

theorem suspend_entry {i n : Nat} (access : s.jst.access = .none ∨ s.jst.access = .entry i n) : suspend s = s := by
  obtain access | access := access <;> simp only [suspend, access]

end

/-! ### What the stop does to a SHORT store (R120) -/

section
variable {left : Leftover} {env : Env} {reader : PartyId} {tag : List Byte} {s u : State} {store : List Segment}
  {status : List SegStatus}

/-- The store as a stopped job leaves it. -/
def stoppedIn (store : List Segment) (status : List SegStatus) (s : State) : State :=
  (s.setStore store).setJst (jobStopped status s)

theorem canFree_stoppedIn : canFree (stoppedIn store status s) = false := by
  simp [canFree, stoppedIn, jobStopped]

section
variable (now : ClosesNow env s) (hr : running s = true) (want : s.jst.wantOpen = none) (queue : s.jst.queue = [])
  (stops : stopConsolidation left s = stoppedIn store status s)
include now hr want queue stops

theorem settle_stopped_normal (normal : s.jst.condition ≠ .short) :
    settle env (beginClosing env left reader tag s) =
      kick env (((closingBegun reader tag s).setStore store).setJst (jobStopped status s)) := by
  refine settle_beginClosing now hr ?_ fun _ => ⟨want, queue⟩
  rw [stops]
  exact settleShort_normal (s := stoppedIn store status s) normal

theorem settle_stopped_allocates (short : s.jst.condition = .short) (plan : (planOpen (stoppedIn store status s)).isSome = true) :
    settle env (beginClosing env left reader tag s) = kick env (((closingBegun reader tag s).setStore store).setJst
      { jobStopped status s with condition := .normal }) := by
  refine settle_beginClosing now hr ?_ fun _ => ⟨want, queue⟩
  rw [stops]
  exact settleShort_allocates (s := stoppedIn store status s) want short plan

theorem settle_stopped_fills (short : s.jst.condition = .short) (plan : planOpen (stoppedIn store status s) = none) :
    settle env (beginClosing env left reader tag s) = kick env (((closingBegun reader tag s).setStore store).setJst
      { jobStopped status s with
        condition := .journalFull
        status := match openSeg (stoppedIn store status s) with
          | some j => status.set j .full
          | none => status }) := by
  refine settle_beginClosing now hr ?_ fun _ => ⟨want, queue⟩
  rw [stops]
  exact settleShort_fills (s := stoppedIn store status s) want short plan canFree_stoppedIn

end

end

/-! ### The end of a page read that a conclusion waits for (R135, R140, R144) -/

section
variable {env : Env} {reader : PartyId} {tag : List Byte} {composed : Bool} {s : State}

theorem exec_pageReadEnd_awaited (hr : running s = true) (access : s.jst.access = .pageRead)
    (service : s.rqs.service = some (.conclude reader tag .stopping)) : exec (.pageReadEnd composed env) s =
      .next (settle env (beginClosing env default reader tag (setAccess .none s))) := by
  have awaited : jobAwaited (setAccess .none s) = true := by simp [jobAwaited, setAccess, service]
  have service' : (setAccess .none s).rqs.service = some (.conclude reader tag .stopping) := service
  change execPageReadEnd composed env s = _
  simp only [execPageReadEnd, done, hr, access, pageReadTaken_awaited composed awaited, afterJobStep, service']

/-- The journal store's state with the array free and the job so. -/
def jobLeft (job : Job) (s : State) : Jst := { s.jst with access := .none, job := job }

section
variable {job : Job} (now : ClosesNow env s) (hr : running s = true) (access : s.jst.access = .pageRead)
  (service : s.rqs.service = some (.conclude reader tag .stopping)) (whole : s.jst.job.suspended = none)
  (want : s.jst.wantOpen = none) (queue : s.jst.queue = [])
  (stops : stopPhase false (setAccess .none s) = s.setJst (jobLeft job s))
include now hr access service whole want queue stops

theorem exec_pageReadEnd_left {j : Jst} (settled : settleShort (s.setJst (jobLeft job s)) = s.setJst j)
    (wants : j.wantOpen = s.jst.wantOpen) (queues : j.queue = s.jst.queue) :
    exec (.pageReadEnd composed env) s = .next (kick env ((closingBegun reader tag s).setJst j)) := by
  have stopped : stopConsolidation default (setAccess .none s) = s.setJst (jobLeft job s) :=
    (stopConsolidation_phase (s := setAccess .none s) (suspend_free rfl) whole).trans stops
  rw [exec_pageReadEnd_awaited hr access service]
  refine congrArg Host.Outcome.next ((settle_beginClosing (s := setAccess .none s) (store := s.store) (j := j) ?_ hr ?_
    fun _ => ⟨wants.trans want, queues.trans queue⟩).trans rfl)
  · exact ⟨now.schedule, now.inputs, now.order, now.idle, now.few, now.before⟩
  · rw [stopped, settled]
    rfl

theorem exec_pageReadEnd_kept (kept : s.jst.condition ≠ .short ∨ s.jst.condition = .short ∧ planOpen s = none ∧
    canFree (s.setJst (jobLeft job s)) = true) :
    exec (.pageReadEnd composed env) s = .next (kick env ((closingBegun reader tag s).setJst (jobLeft job s))) := by
  refine exec_pageReadEnd_left now hr access service whole want queue stops ?_ rfl rfl
  obtain normal | ⟨short, plan, able⟩ := kept
  · exact settleShort_normal (s := s.setJst (jobLeft job s)) normal
  · exact settleShort_able (s := s.setJst (jobLeft job s)) want short plan able

theorem exec_pageReadEnd_fills (short : s.jst.condition = .short) (plan : planOpen s = none)
    (unable : canFree (s.setJst (jobLeft job s)) = false) : exec (.pageReadEnd composed env) s =
      .next (kick env ((closingBegun reader tag s).setJst { jobLeft job s with
        condition := .journalFull
        status := match openSeg s with
          | some j => s.jst.status.set j .full
          | none => s.jst.status })) :=
  exec_pageReadEnd_left now hr access service whole want queue stops
    (settleShort_fills (s := s.setJst (jobLeft job s)) want short plan unable) rfl rfl

end

end

/-! ### A request that the epoch end may overtake (R155, R156) -/

section
variable {left : Leftover} {env : Env} {reader : PartyId} {tag : List Byte} {late : Overtaken} {eve : Eve} {i n : Nat} {s : State}

/-- The blocks that take their request now. -/
def notOvertaken (late : Overtaken) : Overtaken := ⟨!late.readings, !late.view, !late.door⟩

/-- The state in which the blocks that are not overtaken have taken their requests. -/
def requestsTaken (reader : PartyId) (tag : List Byte) (late : Overtaken) (eve : Eve) (s : State) : State :=
  { s with
    tch := if late.readings = true then s.tch else { s.tch with taking := false, partialWaiting := s.tch.busy }
    ptb := if late.view = true then s.ptb else { s.ptb with viewTaken := true }
    dmn := if late.door = true then s.dmn else { s.dmn with
      taking := false
      episode := s.dmn.episode.map fun e => if 30 ≤ e.age then { e with overrun := true } else e }
    eve := eve
    rqs := { s.rqs with service := some (.conclude reader tag (.closing late)) } }

theorem ite_not_bool {α : Type} (b : Bool) (x y : α) : (if (!b) = true then x else y) = if b = true then y else x := by
  cases b <;> rfl

theorem blocksRequested_notOvertaken (late : Overtaken) (s : State) : blocksRequested (notOvertaken late) s =
    ((s.setTch (if late.readings = true then s.tch else { s.tch with taking := false, partialWaiting := s.tch.busy })).setPtb
      (if late.view = true then s.ptb else { s.ptb with viewTaken := true })).setDmn
        (if late.door = true then s.dmn else { s.dmn.viewed with taking := false }) := by
  show ((s.setTch (if (!late.readings) = true then _ else _)).setPtb (if (!late.view) = true then _ else _)).setDmn
    (if (!late.door) = true then _ else _) = _
  rw [ite_not_bool, ite_not_bool, ite_not_bool]

theorem takeRequests_others : takeRequests (notOvertaken late) (setService (some (.conclude reader tag (.closing late))) s) =
    requestsTaken reader tag late
      (answeredRequests (notOvertaken late) (setService (some (.conclude reader tag (.closing late))) s)) s := by
  rw [takeRequests_eq, blocksRequested_notOvertaken, viewed_eq]
  rfl

/-- With the array busy and no consolidation the requests are all that a conclusion brings. -/
theorem settle_conclude (hr : running s = true) (active : s.eve.station = .active) (normal : s.jst.condition = .normal)
    (job : s.jst.job = .initial) (access : s.jst.access = .entry i n) (overtaken : overtakenNow env s = late)
    (answered : answeredRequests (notOvertaken late) (setService (some (.conclude reader tag (.closing late))) s) = eve) {req : Request}
    (sender : req.reader = reader) : settle env (takeConclusion env req.reader tag left s) =
      kick env (requestsTaken reader tag late eve s) := by
  subst sender
  have idle : stopConsolidation left s = s :=
    stopConsolidation_idle (suspend_entry (.inr access)) (by rw [job]; rfl) (by rw [job]; rfl)
  have stops : settleShort (stopConsolidation left s) = s := by
    rw [idle]
    exact settleShort_normal (by rw [normal]; decide)
  have begins : beginClosing env left req.reader tag s = requestsTaken req.reader tag late eve s := by
    unfold beginClosing
    dsimp only
    rw [overtaken, stops, ← answered]
    exact takeRequests_others
  rw [takeConclusion_closes active (jobStepInProgress_other (.inr (.inl ⟨i, n, access⟩))), begins]
  refine settle_concluding (t := requestsTaken req.reader tag late eve s) (step := .closing late) hr rfl rfl fun none => ?_
  cases access.symm.trans none

section
variable {key : Nat} (others : ∀ c ∈ s.eve.inputs, c.epoch < key) (viewKey : conclusionKey s = key)
include others viewKey

theorem answered_waits (readKey : late.readings = false → s.tch.busy = false → readingsKey s.tch.readings s = key)
    (missing : late.readings = true ∨ s.tch.busy = true ∨ late.view = true ∨ late.door = true) :
    answeredRequests (notOvertaken late) (setService (some (.conclude reader tag (.closing late))) s) = { s.eve with
      inputs := s.eve.inputs ++ heldInputs key (askedReadings (notOvertaken late) s) (askedView (notOvertaken late) s) (askedDoor (notOvertaken late) s)
      readingsEpoch := if askedReadings (notOvertaken late) s = none then s.eve.readingsEpoch else s.eve.readingsEpoch + 1 } := by
  refine answeredRequests_held (s := setService (some (.conclude reader tag (.closing late))) s)
    (fun c mem => Nat.ne_of_lt (others c mem)) viewKey (fun some => ?_) ?_
  · by_cases hands : (notOvertaken late).readings = true ∧ s.tch.busy = false
    · exact readKey (by simpa [notOvertaken] using hands.1) hands.2
    · exact absurd (if_neg hands) some
  · obtain yes | busy | yes | yes := missing
    · exact .inl (if_neg (by simp [notOvertaken, yes]))
    · exact .inl (if_neg fun hands => by cases busy.symm.trans hands.2)
    · exact .inr (.inl (if_neg (by simp [notOvertaken, yes])))
    · exact .inr (.inr (if_neg (by simp [notOvertaken, yes])))

/-- All three hand at once what a stopped schedule leaves. -/
theorem answered_joins (idle : s.tch.busy = false) (readKey : readingsKey s.tch.readings s = key)
    (empty : s.tch.quarters = 0) :
    answeredRequests ⟨true, true, true⟩ (setService (some (.conclude reader tag (.closing late))) s) = { s.eve with
      work := s.eve.work ++
        [.partialClose ⟨key, s.tch.readings, closeView s.ret.epoch s.ptb, doorView s.ret.epoch s.dmn⟩]
      readingsEpoch := s.eve.readingsEpoch + 1 } := by
  have piece : (⟨key, s.tch.readings, closeView s.ret.epoch s.ptb, doorView s.ret.epoch s.dmn⟩ : Joined).piece =
      .partialClose ⟨key, s.tch.readings, closeView s.ret.epoch s.ptb, doorView s.ret.epoch s.dmn⟩ :=
    if_neg (by rw [show s.tch.readings.quarters = 0 from empty]; decide)
  rw [← piece]
  exact answeredRequests_whole (fun c mem => Nat.ne_of_lt (others c mem)) viewKey idle readKey

end

end

end Sys2Proof.Machine

/-! The epoch end that overtakes a conclusion's requests (R155, R156): the blocks take it first, and the requests right after
it. -/

namespace Sys2Proof.Machine

section
variable {env : Env} {reader : PartyId} {tag : List Byte} {r v d : Bool} {epoch : Nat} {s : State}

/-! ### The blocks at the epoch end (R60, R67, R77, R81) -/

theorem epochEndPeers_overtakes (taken : s.ptb.viewTaken = !v) (turnover : s.ptb.turnover ≠ none) :
    epochEndPeers epoch s = (s.setEve (if v = true then
        gathered epoch (fun c => { c with view := some (closeView epoch s.ptb) }) s.eve else s.eve)).setPtb
      (if v = true then tableClosed s.ptb else s.ptb) := by
  cases v with
  | false => exact if_pos taken
  | true =>
    have stays : turnoverHolds (tableClosed s.ptb) = false := by
      have proposed : s.ptb.turnover.isNone = false := Option.isNone_eq_false_iff.mpr (Option.isSome_iff_ne_none.mpr turnover)
      simp [turnoverHolds, tableClosed, proposed]
    refine (if_neg (by rw [taken]; decide)).trans ?_
    rw [handView, handInput_gathered]
    exact closeTable_plain (s := s.setEve _) (.inl stays)

theorem epochEndDoor_overtakes (taking : s.dmn.taking = d) (none : s.dmn.episode = none) :
    epochEndDoor epoch s = s.setEve (if d = true then
      gathered epoch (fun c => { c with door := some ⟨epoch, false, false⟩ }) s.eve else s.eve) := by
  have viewed := viewed_none none
  have view : doorView epoch s.dmn = ⟨epoch, false, false⟩ := by rw [doorView, none]; rfl
  cases d with
  | false => exact if_neg (by rw [taking]; decide)
  | true =>
    unfold epochEndDoor
    dsimp only
    rw [if_pos taking, view, viewed, handDoor, handInput_gathered, settleEpisode]
    have still : (((s.setDmn s.dmn).setEve (gathered epoch (fun c => { c with door := some ⟨epoch, false, false⟩ })
        (s.setDmn s.dmn).eve)).dmn.episode) = .none := none
    rw [still]
    rfl

/-- The conversions of quarter 4 have begun. -/
def fourthConverting (t : Tch) : Tch :=
  { t with probe := t.probe.set 4 .converting, air := t.air.set 4 .converting }

theorem busy_fourthConverting (t : Tch) : (fourthConverting t).busy = true := by
  have fourth (q : Quad) : (q.set 4 .converting).converting.isSome = true := by
    unfold Quad.converting Quad.set
    split_ifs with first second third fourth
    · rfl
    · rfl
    · rfl
    · rfl
    · exact absurd rfl fourth
  rw [Tch.busy, fourthConverting, fourth]
  rfl

/-- The evidence engine with what the blocks hand at the epoch end. -/
def closeGathered (v d : Bool) (epoch : Nat) (view : CloseView) (e : Eve) : Eve :=
  let viewed := if v = true then gathered epoch (fun c => { c with view := some view }) e else e
  if d = true then gathered epoch (fun c => { c with door := some ⟨epoch, false, false⟩ }) viewed else viewed

/-- The state after the epoch end, before the requests that it overtook. -/
def epochOvertakes (env : Env) (reader : PartyId) (tag : List Byte) (r v d : Bool) (s : State) : State :=
  { s with
    ret := { s.ret with position := 0, quarter := 1, epoch := s.ret.epoch + 1 }
    tch := if r = true then fourthConverting s.tch else s.tch
    ptb := if v = true then tableClosed s.ptb else s.ptb
    eve := closeGathered v d s.ret.epoch (closeView s.ret.epoch s.ptb) s.eve
    chc := { s.chc with
      schedule := if env.noteDelay % (2 * s.cmr.epochLength + 1) = 0 then .due s.ret.epoch
        else .waiting s.ret.epoch (env.noteDelay % (2 * s.cmr.epochLength + 1)) false }
    rqs := { s.rqs with service := some (.conclude reader tag (.closing ⟨false, false, false⟩)) } }

/-- Every block takes the epoch end before its request. -/
structure Overtakes (reader : PartyId) (tag : List Byte) (r v d : Bool) (s : State) : Prop where
  schedule : s.ret.schedule = .running
  last : s.ret.quarter = 4
  inRange : s.ret.epoch < Config.maxEpoch
  active : s.eve.station = .active
  turnover : s.ptb.turnover ≠ none
  episode : s.dmn.episode = none
  service : s.rqs.service = some (.conclude reader tag (.closing ⟨r, v, d⟩))
  readings : s.tch.taking = r
  view : s.ptb.viewTaken = !v
  door : s.dmn.taking = d

theorem Overtakes.quarterEnd (overtakes : Overtakes reader tag r v d s) :
    runningQuarterEnd env s = takeRequests ⟨r, v, d⟩ (epochOvertakes env reader tag r v d s) := by
  obtain ⟨schedule, last, inRange, active, turnover, episode, service, readings, view, door⟩ := overtakes
  have turned : epochTurned s = s.setRet { s.ret with position := 0, quarter := 1, epoch := s.ret.epoch + 1 } := by
    unfold epochTurned
    rw [if_pos inRange, if_pos inRange]
    rfl
  have converted : startConversions 4 (epochTurned s) = (epochTurned s).setTch (if r = true then
      fourthConverting s.tch else s.tch) := by
    rw [turned]
    cases r with
    | false => exact if_neg fun h => by cases readings.symm.trans h.2
    | true => exact if_pos ⟨active, readings⟩
  have peers := epochEndPeers_overtakes (epoch := s.ret.epoch) (s := startConversions 4 (epochTurned s)) (v := v)
    (by rw [converted]; exact view) (by rw [converted]; exact turnover)
  have doors := epochEndDoor_overtakes (epoch := s.ret.epoch) (d := d)
    (s := epochEndPeers s.ret.epoch (startConversions 4 (epochTurned s)))
    (by rw [peers, converted]; exact door) (by rw [peers, converted]; exact episode)
  rw [runningQuarterEnd_last env schedule last, epochEnd, if_pos (by rw [converted]; exact active), doors, peers, converted,
    turned]
  exact lateRequests_closing service

/-! ### The requests right after it -/

/-- The state with the requests taken too. -/
def overtakenEnd (env : Env) (reader : PartyId) (tag : List Byte) (r v d : Bool) (eve : Eve) (s : State) : State :=
  { epochOvertakes env reader tag r v d s with
    tch := if r = true then { s.tch with
        probe := s.tch.probe.set 4 .converting
        air := s.tch.air.set 4 .converting
        taking := false
        partialWaiting := true }
      else s.tch
    ptb := if v = true then { s.ptb with peers := (s.ptb.peers.map Peer.shift).filterMap Peer.evaluate, viewTaken := true }
      else s.ptb
    dmn := if d = true then { s.dmn with taking := false } else s.dmn
    eve := eve }

/-- The view of the epoch that begins, handed at its request. -/
def nextView (v : Bool) (s : State) : Option CloseView :=
  if v = true then
    some ⟨s.ret.epoch + 1, s.ptb.leg, corroborating ((s.ptb.peers.map Peer.shift).filterMap Peer.evaluate)⟩
  else none

/-- The door view of the epoch that begins, handed at its request. -/
def nextDoor (d : Bool) (s : State) : Option DoorView := if d = true then some ⟨s.ret.epoch + 1, false, false⟩ else none

section
variable (overtakes : Overtakes reader tag r v d s)
include overtakes

theorem Overtakes.blocks (eve : Eve) : (blocksRequested ⟨r, v, d⟩ (epochOvertakes env reader tag r v d s)).setEve eve =
    overtakenEnd env reader tag r v d eve s := by
  have viewed : s.dmn.viewed = s.dmn := viewed_none overtakes.episode
  unfold blocksRequested overtakenEnd epochOvertakes
  dsimp only
  rw [viewed]
  have tch (x : Tch) (is : x = if r = true then fourthConverting s.tch else s.tch) :
      (if r = true then { x with taking := false, partialWaiting := x.busy } else x) =
        if r = true then { fourthConverting s.tch with taking := false, partialWaiting := true } else s.tch := by
    subst is
    cases r with
    | false => rfl
    | true =>
      simp only [if_true]
      rw [busy_fourthConverting]
  have ptb : (if v = true then { (if v = true then tableClosed s.ptb else s.ptb) with viewTaken := true }
      else (if v = true then tableClosed s.ptb else s.ptb)) = if v = true then
        { s.ptb with peers := (s.ptb.peers.map Peer.shift).filterMap Peer.evaluate, viewTaken := true } else s.ptb := by
    cases v <;> rfl
  rw [tch _ rfl, ptb]
  rfl

theorem Overtakes.answered {inputs : List CloseInputs} {work : List Piece}
    (closes : closeGathered v d s.ret.epoch (closeView s.ret.epoch s.ptb) s.eve =
      { s.eve with inputs := inputs, work := work })
    (epochs : ∀ c ∈ inputs, c.epoch ≠ s.ret.epoch + 1) :
    answeredRequests ⟨r, v, d⟩ (epochOvertakes env reader tag r v d s) = { s.eve with
      inputs := inputs ++ heldInputs (s.ret.epoch + 1) none (nextView v s) (nextDoor d s)
      work := work } := by
  have eve : (epochOvertakes env reader tag r v d s).eve = { s.eve with inputs := inputs, work := work } := closes
  have asked : askedReadings ⟨r, v, d⟩ (epochOvertakes env reader tag r v d s) = none := by
    refine if_neg fun hands => ?_
    obtain ⟨rfl, idle⟩ := id hands
    cases (busy_fourthConverting s.tch).symm.trans idle
  have key : conclusionKey (epochOvertakes env reader tag r v d s) = s.ret.epoch + 1 :=
    if_neg (by
      show ¬ s.ret.schedule = .stopped
      rw [overtakes.schedule]
      decide)
  have view : askedView ⟨r, v, d⟩ (epochOvertakes env reader tag r v d s) = nextView v s := by
    unfold askedView nextView
    cases v <;> rfl
  have door : askedDoor ⟨r, v, d⟩ (epochOvertakes env reader tag r v d s) = nextDoor d s := by
    unfold askedDoor nextDoor
    refine congrArg (fun x => if d = true then some x else none) ?_
    show doorView (s.ret.epoch + 1) s.dmn = _
    rw [doorView, overtakes.episode]
    rfl
  have held := answeredRequests_held (b := ⟨r, v, d⟩) (s := epochOvertakes env reader tag r v d s) (key := s.ret.epoch + 1)
    (by rw [eve]; exact epochs) key (fun some => absurd asked some) (.inl asked)
  rw [held, asked, view, door, eve]
  rfl

/-- A quarter end that overtakes the requests of a conclusion, with an entry being programmed. -/
theorem exec_quarterEnd_overtakes {i n : Nat} {inputs : List CloseInputs} {work : List Piece} (hr : running s = true)
    (access : s.jst.access = .entry i n)
    (closes : closeGathered v d s.ret.epoch (closeView s.ret.epoch s.ptb) s.eve =
      { s.eve with inputs := inputs, work := work })
    (epochs : ∀ c ∈ inputs, c.epoch ≠ s.ret.epoch + 1) : exec (.quarterEnd env) s =
      .next (kick env (overtakenEnd env reader tag r v d { s.eve with
        inputs := inputs ++ heldInputs (s.ret.epoch + 1) none (nextView v s) (nextDoor d s)
        work := work } s)) := by
  rw [exec_quarterEnd_running env hr overtakes.schedule, overtakes.quarterEnd, takeRequests_eq,
    overtakes.answered closes epochs, overtakes.blocks]
  refine congrArg Host.Outcome.next (settle_concluding (reader := reader) (tag := tag) (step := .closing ⟨false, false, false⟩)
    ?_ rfl rfl fun none => ?_)
  · exact hr
  · cases access.symm.trans none

end

end

/-! ### What the epoch end leaves of the inputs -/

section
variable {v d : Bool} {epoch : Nat} {view : CloseView} {e : Eve} {r : EpochReadings}

theorem heldInputs_some {key : Nat} {r : Option EpochReadings} {v : Option CloseView} {d : Option DoorView}
    (some' : ¬ (r = none ∧ v = none ∧ d = none)) : heldInputs key r v d = [⟨key, r, v, d⟩] := if_neg some'

/-- With the readings still to come the close waits for them. -/
theorem closeGathered_unread {v0 : Option CloseView} {d0 : Option DoorView} (inputs : e.inputs = heldInputs epoch none v0 d0) :
    closeGathered v d epoch view e = { e with
      inputs := heldInputs epoch none (if v = true then some view else v0) (if d = true then some ⟨epoch, false, false⟩ else d0) } := by
  have none (c : CloseInputs) (mem : c ∈ ([] : List CloseInputs)) : c.epoch ≠ epoch := by cases mem
  have viewed : (if v = true then gathered epoch (fun c => { c with view := some view }) e else e) =
      { e with inputs := heldInputs epoch .none (if v = true then some view else v0) d0 } := by
    cases v with
    | false => exact congrArg (fun x => { e with inputs := x }) inputs
    | true =>
      exact gathered_held (f := fun c => { c with view := some view }) (before := []) (r := .none) (v := v0) (d := d0)
        none inputs rfl (by simp) (joined_none_of_missing (.inl rfl))
  unfold closeGathered
  rw [viewed]
  cases d with
  | false => rfl
  | true =>
    exact gathered_held (before := []) (e := { e with inputs := heldInputs epoch .none (if v = true then some view else v0) d0 })
      none rfl rfl (by simp) (joined_none_of_missing (.inl rfl))

/-- With the readings held, the last view that comes joins them to a partial close. -/
theorem closeGathered_joins {v0 : Option CloseView} {d0 : Option DoorView} {x : CloseView} {y : DoorView}
    (inputs : e.inputs = heldInputs epoch (some r) v0 d0) (partial' : r.quarters ≠ 4)
    (comes : v = true ∧ d = false ∧ d0 = some y ∧ x = view ∨
      v = false ∧ d = true ∧ v0 = some x ∧ y = ⟨epoch, false, false⟩ ∨
      v = true ∧ d = true ∧ d0 = none ∧ x = view ∧ y = ⟨epoch, false, false⟩) :
    closeGathered v d epoch view e = { e with inputs := [], work := e.work ++ [.partialClose ⟨epoch, r, x, y⟩] } := by
  have piece : (⟨epoch, r, x, y⟩ : Joined).piece = .partialClose ⟨epoch, r, x, y⟩ := if_neg partial'
  have none (c : CloseInputs) (mem : c ∈ ([] : List CloseInputs)) : c.epoch ≠ epoch := by cases mem
  rw [← piece]
  obtain ⟨rfl, rfl, rfl, rfl⟩ | ⟨rfl, rfl, rfl, rfl⟩ | ⟨rfl, rfl, rfl, rfl, rfl⟩ := comes
  · exact gathered_whole (before := []) (r := some r) (v := v0) (d := some y) none inputs rfl rfl
  · exact gathered_whole (before := []) (r := some r) (v := some x) (d := d0) none inputs rfl rfl
  · refine (congrArg (gathered epoch fun c => { c with door := some ⟨epoch, false, false⟩ })
      (gathered_held (before := []) (r := some r) (v := v0) (d := .none) (v' := some x) none inputs rfl (by simp)
        (joined_none_of_missing (.inr (.inr rfl))))).trans ?_
    exact gathered_whole (before := []) (r := some r) (v := some x) (d := .none) none rfl rfl rfl

end

end Sys2Proof.Machine

/-! A conclusion is taken: the obligation, from its parts in the two files before. -/

namespace Sys2Proof.Machine

section
variable {req : Request} {fields tag : List Byte} {left : Leftover} {env : Env} {s : State}

/-! ### In DORMANT, and behind a step of the job (R155, R161) -/

theorem conclude_dormant (isFree : Machine.free req env s = true) (rests : quiet s = true)
    (parsed : parseConclude fields = some (s.cmr.reference, tag)) (station : s.eve.station = .dormant) :
    exec (.conclude req fields left env) s = .next (kick env { s with
      rqs := { s.rqs with service := some (.conclude req.reader tag (.mark ⟨none, .intact, 0, 0, s.ret.restarts⟩)) }
      cmr := { s.cmr with program := .conclusionMark } }) := by
  have hr := running_of_free isFree
  have calm := calm_of_quiet rests
  rw [exec_conclude_taken isFree parsed (.inl station), takeConclusion, if_pos station]
  refine congrArg Host.Outcome.next (settle_concluding (t := beginMark req.reader tag (dormantFigures s) s)
    (step := .mark (dormantFigures s)) ?_ rfl rfl ?_)
  · exact hr
  · exact calm

theorem conclude_waits (isFree : Machine.free req env s = true) (parsed : parseConclude fields = some (s.cmr.reference, tag))
    (active : s.eve.station = .active)
    (step : (∃ k f, s.jst.access = .alloc .target k f) ∨ s.jst.access = .commitMark ∨ s.jst.access = .pageRead) :
    exec (.conclude req fields left env) s = .next (kick env { s with
      rqs := { s.rqs with service := some (.conclude req.reader tag .stopping) } }) := by
  have busy : jobStepInProgress s = true ∧ s.jst.access ≠ .none := by
    obtain ⟨k, f, access⟩ | access | access := step <;> simp [jobStepInProgress, jobHeaderInProgress, access]
  have hr := running_of_free isFree
  rw [exec_conclude_taken isFree parsed (.inr active), takeConclusion_waits active busy.1]
  refine congrArg Host.Outcome.next (settle_concluding (reader := req.reader) (tag := tag) (step := .stopping)
    ?_ rfl rfl fun none => ?_)
  · exact hr
  · exact absurd none busy.2

/-! ### With the epoch in progress closed at once (R120, R144) -/

theorem exec_conclude_closes (isFree : Machine.free req env s = true)
    (parsed : parseConclude fields = some (s.cmr.reference, tag)) (active : s.eve.station = .active)
    (step : s.jst.access = .none ∨ (∃ i n, s.jst.access = .entry i n) ∨ s.jst.access = .pageProgram ∨
      (∃ k, s.jst.access = .sourceErase k) ∨ ∃ k, s.jst.access = .cleanupErase k) {t : State}
    (closes : settle env (beginClosing env left req.reader tag s) = t) :
    exec (.conclude req fields left env) s = .next t := by
  rw [exec_conclude_taken isFree parsed (.inr active), takeConclusion_closes active (jobStepInProgress_other step), closes]

theorem conclusionKey_running (schedule : s.ret.schedule = .running) : conclusionKey s = s.ret.epoch :=
  if_neg (by rw [schedule]; decide)

theorem readingsKey_running {r : EpochReadings} (schedule : s.ret.schedule = .running) :
    readingsKey r s = s.eve.readingsEpoch :=
  if_neg fun h => by cases schedule.symm.trans h.2

theorem overtaken_some {late : Overtaken} (some : late ≠ ⟨false, false, false⟩) :
    late.readings = true ∨ late.view = true ∨ late.door = true := by
  obtain ⟨r, v, d⟩ := late
  by_contra none
  simp only [not_or, Bool.not_eq_true] at none
  obtain ⟨rfl, rfl, rfl⟩ := none
  exact some rfl

theorem stopPhase_unphased (phase : s.jst.job.phase = .none) :
    stopPhase false (setAccess .none s) = s.setJst (jobLeft s.jst.job s) := by
  have phase' : (setAccess .none s).jst.job.phase = .none := phase
  rw [stopPhase, phase']
  rfl

theorem stopPhase_planning (phase : s.jst.job.phase = .planning) : stopPhase false (setAccess .none s) =
    s.setJst (jobLeft { Job.initial with cleanup := s.jst.job.cleanup } s) := by
  have phase' : (setAccess .none s).jst.job.phase = .planning := phase
  rw [stopPhase, phase']
  rfl

end

/-- What the blocks hand that are not overtaken. -/
theorem askedReadings_notOvertaken (late : Overtaken) (s : State) : askedReadings (notOvertaken late) s =
    if late.readings = true ∨ s.tch.busy = true then none else some s.tch.readings := by
  show (if (!late.readings) = true ∧ s.tch.busy = false then some s.tch.readings else none) = _
  cases late.readings <;> cases s.tch.busy <;> rfl

theorem heldInputs_unless (key : Nat) (r : Option EpochReadings) (v d : Bool) (x : CloseView) (y : DoorView) :
    heldInputs key r (if v = true then none else some x) (if d = true then none else some y) =
      if r = none ∧ v = true ∧ d = true then [] else
        [⟨key, r, if v = true then none else some x, if d = true then none else some y⟩] := by
  refine if_congr ?_ rfl rfl
  cases v <;> cases d <;> simp

theorem heldInputs_epoch {key : Nat} {r : Option EpochReadings} {v : Option CloseView} {d : Option DoorView} {c : CloseInputs}
    (mem : c ∈ heldInputs key r v d) : c.epoch = key := by
  unfold heldInputs at mem
  split at mem
  · cases mem
  · rw [List.mem_singleton.mp mem]

/-! ### The obligation -/

/-- Settles O52: a conclusion begins its mark (`conclude_dormant`), waits for a step of the job (`conclude_waits`), or stops
consolidation and asks the blocks (`settle_beginClosing`, `settle_conclude`); a late block takes the epoch end first
(`exec_quarterEnd_overtakes`). -/
theorem concludeIsTaken : Obligations.ConcludeIsTaken := by
  unfold Obligations.ConcludeIsTaken
  intro closing stopped full
  refine ⟨fun req fields tag left env s isFree rests parsed => ⟨conclude_dormant isFree rests parsed,
      fun active => ⟨conclude_waits isFree parsed active, fun schedule inputs order idle few before => ?_⟩⟩,
    fun composed env reader tag s logic service access whole want queue schedule inputs order idle few before => ?_,
    fun req fields tag left env i n s isFree rests parsed active normal job access others inRange => ?_,
    fun env i n reader tag late s logic schedule last inRange active access turnover episode service => ?_⟩
  · intro closing
    have hr := running_of_free isFree
    have now : ClosesNow env s := ⟨schedule, inputs, order, idle, few, before⟩
    refine ⟨fun normal job free => ?_, fun k short want queue inStore access phase => ?_, fun normal want queue => ?_⟩
    · have still : suspend s = s := by obtain free | ⟨i, n, free⟩ := free <;> simp only [suspend, free]
      refine exec_conclude_closes isFree parsed active (free.imp_right .inl) (settle_beginClosing (store := s.store) (j := s.jst)
        now hr ?_ (calm_of_quiet rests))
      rw [stopConsolidation_idle still (by rw [job]; rfl) (by rw [job]; rfl)]
      exact settleShort_normal (by rw [normal]; decide)
    · intro after ended
      have unplanned : s.jst.job.phase ≠ .planning := by obtain phase | phase := phase <;> rw [phase] <;> decide
      have stops := stopConsolidation_erase (left := left) (.inl ⟨access, rfl⟩) inStore unplanned
      have taken {t : State} := exec_conclude_closes (t := t) (left := left) (env := env) isFree parsed active
        (.inr (.inr (.inr (.inl ⟨k, access⟩))))
      exact ⟨fun plan => taken (settle_stopped_allocates now hr want queue stops short plan),
        fun plan => taken (settle_stopped_fills now hr want queue stops short plan)⟩
    · have notShort : s.jst.condition ≠ .short := by rw [normal]; decide
      refine ⟨fun t q access phase target => ?_, fun k inStore => ?_⟩
      · exact exec_conclude_closes isFree parsed active (.inr (.inr (.inl access)))
          (settle_stopped_normal now hr want queue (stopConsolidation_page access phase target) notShort)
      · intro after ended
        refine ⟨fun access phase => ?_, fun access phase => ?_⟩
        · have unplanned : s.jst.job.phase ≠ .planning := by obtain phase | phase := phase <;> rw [phase] <;> decide
          exact exec_conclude_closes isFree parsed active (.inr (.inr (.inr (.inl ⟨k, access⟩)))) (settle_stopped_normal now hr
            want queue (stopConsolidation_erase (.inl ⟨access, rfl⟩) inStore unplanned) notShort)
        · exact exec_conclude_closes isFree parsed active (.inr (.inr (.inr (.inr ⟨k, access⟩)))) (settle_stopped_normal now hr
            want queue (stopConsolidation_erase (.inr ⟨access, rfl⟩) inStore (by rw [phase]; decide)) notShort)
  · intro at_ left dropped kept
    have hr := running_of_logic logic
    have now : ClosesNow env s := ⟨schedule, inputs, order, idle, few, before⟩
    have keeps {job : Job} (stops : stopPhase false (setAccess .none s) = s.setJst (jobLeft job s)) :=
      exec_pageReadEnd_kept (composed := composed) now hr access service whole want queue stops
    have fills {job : Job} (stops : stopPhase false (setAccess .none s) = s.setJst (jobLeft job s)) :=
      exec_pageReadEnd_fills (composed := composed) now hr access service whole want queue stops
    have unphased (phase : s.jst.job.phase = .none) := stopPhase_unphased phase
    have planned (phase : s.jst.job.phase = .planning) := stopPhase_planning phase
    have staged (some : s.jst.job.phase ≠ .none) (unplanned : s.jst.job.phase ≠ .planning) :
        stopPhase false (setAccess .none s) =
          s.setJst (jobLeft { s.jst.job with stopped := true, suspended := none } s) := by
      rw [← whole]
      exact stopPhase_stops (s := setAccess .none s) (fun none => absurd none some) unplanned
    refine ⟨fun normal => ⟨fun phase => ?_, fun phase => ?_, fun some unplanned => ?_⟩,
      fun short plan => ⟨fun phase able => ?_, fun phase unable => ?_, fun phase able => ?_, fun phase unable => ?_,
        fun some unplanned => ?_⟩⟩
    · exact keeps (unphased phase) (.inl normal)
    · exact keeps (planned phase) (.inl normal)
    · exact keeps (staged some unplanned) (.inl normal)
    · exact keeps (unphased phase) (.inr ⟨short, plan, able⟩)
    · exact fills (unphased phase) short plan unable
    · exact keeps (planned phase) (.inr ⟨short, plan, able⟩)
    · exact fills (planned phase) short plan unable
    · exact fills (staged some unplanned) short plan (by simp [canFree, jobLeft])
  · intro view door read asked at_
    have hr := running_of_free isFree
    have asks {late : Overtaken} {eve : Eve} (overtaken : overtakenNow env s = late)
        (answered : answeredRequests (notOvertaken late) (setService (some (.conclude req.reader tag (.closing late))) s) = eve) :
        at_ late eve := by
      refine (exec_conclude_taken isFree parsed (.inr active)).trans (congrArg Host.Outcome.next ?_)
      exact settle_conclude hr active normal job access overtaken answered rfl
    have early (c : CloseInputs) (mem : c ∈ s.eve.inputs) : c.epoch < 16777216 :=
      Nat.lt_of_lt_of_le (others c mem) (Nat.le_succ_of_le inRange)
    refine ⟨fun schedule before busy => ?_, fun schedule idle empty => ?_, fun schedule busy => ?_,
      fun schedule last order => ?_⟩
    · refine asks (overtakenNow_none before) ?_
      have unread : askedReadings (notOvertaken ⟨false, false, false⟩) s = none :=
        if_neg fun hands => by cases busy.symm.trans hands.2
      rw [answered_waits others (conclusionKey_running schedule) (fun _ idle => by cases busy.symm.trans idle)
        (.inr (.inl busy)), unread, if_pos rfl]
      rfl
    · refine asks (overtakenNow_before env (.inl (by rw [schedule]; decide))) ?_
      exact answered_joins early (if_pos schedule) idle (if_pos ⟨empty, schedule⟩) empty
    · refine asks (overtakenNow_before env (.inl (by rw [schedule]; decide))) ?_
      have unread : askedReadings (notOvertaken ⟨false, false, false⟩) s = none :=
        if_neg fun hands => by cases busy.symm.trans hands.2
      rw [answered_waits early (if_pos schedule) (fun _ idle => by cases busy.symm.trans idle) (.inr (.inl busy)), unread,
        if_pos rfl]
      rfl
    · intro late overtaken readings
      have answered := answered_waits (reader := req.reader) (tag := tag) (late := late) others (conclusionKey_running schedule)
        (fun _ _ => (readingsKey_running schedule).trans order) ((overtaken_some overtaken).imp_right .inr)
      have asked : askedReadings (notOvertaken late) s = readings := askedReadings_notOvertaken late s
      have views : askedView (notOvertaken late) s = if late.view = true then none else some view := ite_not_bool ..
      have doors : askedDoor (notOvertaken late) s = if late.door = true then none else some door := ite_not_bool ..
      refine asks (overtakenNow_quarter4 env schedule last) (answered.trans ?_)
      rw [asked, views, doors, order, heldInputs_unless]
  · intro closed delay e ended tch ptb view next at_
    have hr := running_of_logic logic
    have overtakes {r v d : Bool} (is : late = ⟨r, v, d⟩) (readings : s.tch.taking = r) (view : s.ptb.viewTaken = !v)
        (door : s.dmn.taking = d) : Overtakes reader tag r v d s :=
      ⟨schedule, last, inRange, active, turnover, episode, by rw [service, is], readings, view, door⟩
    have unread {r v d : Bool} {v0 : Option CloseView} {d0 : Option DoorView} (overtakes : Overtakes reader tag r v d s)
        (inputs : s.eve.inputs = heldInputs e none v0 d0) :=
      exec_quarterEnd_overtakes (env := env) overtakes hr access (closeGathered_unread (v := v) (d := d) (view := view) inputs)
        fun c mem => by rw [heldInputs_epoch mem]; exact Nat.ne_of_lt (Nat.lt_succ_self _)
    have joins {r v d : Bool} {readings : EpochReadings} {x : CloseView} {y : DoorView} (overtakes : Overtakes reader tag r v d s)
        (closes : closeGathered v d e view s.eve =
          { s.eve with inputs := [], work := s.eve.work ++ [.partialClose ⟨e, readings, x, y⟩] }) :=
      exec_quarterEnd_overtakes (env := env) overtakes hr access closes fun c mem => by cases mem
    refine ⟨fun is taking viewTaken door inputs => ?_, fun v d is taking viewTaken door inputs => ?_,
      fun d is taking viewTaken door inputs => ?_, fun v is taking viewTaken door inputs => ?_,
      fun r d is taking viewTaken door inputs partial' => ?_, fun r v is taking viewTaken door inputs partial' => ?_,
      fun r is taking viewTaken door inputs partial' => ?_⟩
    · exact unread (v0 := none) (d0 := none) (overtakes is taking viewTaken door) inputs
    · have same : heldInputs e none (some v) (some d) ++ [] = s.eve.inputs := (List.append_nil _).trans inputs.symm
      exact (unread (v0 := some v) (d0 := some d) (overtakes is taking viewTaken door) inputs).trans (congrArg (fun x =>
        Host.Outcome.next (kick env (overtakenEnd env reader tag true false false { s.eve with inputs := x } s))) same)
    · exact unread (v0 := none) (d0 := some d) (overtakes is taking viewTaken door) inputs
    · exact unread (v0 := some v) (d0 := none) (overtakes is taking viewTaken door) inputs
    · exact joins (overtakes is taking viewTaken door)
        (closeGathered_joins (v0 := none) inputs partial' (.inl ⟨rfl, rfl, rfl, rfl⟩))
    · exact joins (overtakes is taking viewTaken door)
        (closeGathered_joins (d0 := none) inputs partial' (.inr (.inl ⟨rfl, rfl, rfl, rfl⟩)))
    · exact joins (overtakes is taking viewTaken door)
        (closeGathered_joins (v0 := none) inputs partial' (.inr (.inr ⟨rfl, rfl, rfl, rfl, rfl⟩)))

end Sys2Proof.Machine
